-- ==== Sys2Proof/Word.lean ====
section
/-! DEFINITION. The word types of the IW640: bytes on the links and air clock instants. -/

namespace Sys2Proof

/-- One byte of a link frame (section 11.1). -/
abbrev Byte := BitVec 8

/-- An air clock value: a 32-bit count of microseconds (R1, section 4.4 of the scope file). -/
abbrev Instant := BitVec 32

end Sys2Proof
end

