-- ==== Sys2Proof/Config.lean ====
section
/-! DEFINITION. The sizes and limits that the manual fixes for the part. The manual leaves no result of any event open,
so there is no free value here (notes/assumptions/1.md). -/

namespace Sys2Proof.Config

/-- Cells of the frame store (R18). -/
abbrev cells : Nat := 4096

/-- Bytes of one cell (section 2.1). -/
abbrev cellBytes : Nat := 128

/-- Descriptors of the frame store (R19). -/
abbrev descriptors : Nat := 1024

/-- Slots of the TXDONE FIFO (section 1.5). -/
abbrev txdoneSlots : Nat := 1280

/-- Bytes of the RXDATA pass buffer (section 1.7). -/
abbrev passBufferBytes : Nat := 65536

/-- Entries of the outstanding release table (R85). -/
abbrev outstandingEntries : Nat := 2

/-- Spans of the coverage list (R100). -/
abbrev coverageSpans : Nat := 8

/-- Largest payload of a STATUS frame (R146, Table 1-1). -/
abbrev statusPayload : Nat := 4096

/-- The search span beyond which the channel is saturated, in µs (R58). -/
abbrev searchSpan : Nat := 32768

/-- The limit on the length of an open burst, 2^20 µs (R107). -/
abbrev burstLimit : Nat := 1048576

/-- The age after which kept instants are given up, 2^30 µs (R85, R103, R136). -/
abbrev staleAge : Nat := 1073741824

/-- The ceiling of a computed airtime, in µs (R71). -/
abbrev airtimeMax : Nat := 65535

/-- The ceiling of a survey count, in µs (R111). -/
abbrev surveyMax : Nat := 4294967295

end Sys2Proof.Config
end

