-- ==== Sys2Proof/Syntax.lean ====
section
/-! DEFINITION. The commands of the block: one constructor for each row of spec/opcode_table.json, in the table's order. -/

namespace Sys2Proof

/-- The lane header that opens every link frame (section 1.2, Table 11-1). -/
structure LaneHeader where
  kind : Byte
  lane : Byte
  length : BitVec 16
  sequence : BitVec 16
  flags : Byte
  version : Byte
deriving DecidableEq, Repr

/-- A link frame between its delimiters: the lane header, the bytes that stand between it and the CRC, and the CRC. -/
structure LinkFrame where
  header : LaneHeader
  payload : List Byte
  crc : BitVec 32
deriving DecidableEq, Repr

/-- The part's two links. -/
inductive Link where
  | north
  | south
deriving DecidableEq, Repr

/-- The operations and events of the part. A received frame is given as it stood on the link. A `ready` operand is the level of
the receiving partner's ready line as the part samples it at that event (R10). A command of a CONTROL list carries its target byte
and its data bytes (section 11.5). -/
inductive Instr where
  /-- POWER_ON_RESET (R162) -/
  | powerOnReset
  /-- NORTH_SYNC_GAINED (R4) -/
  | northSyncGained
  /-- NORTH_SYNC_LOST (R16) -/
  | northSyncLost
  /-- SOUTH_SYNC_GAINED (R2) -/
  | southSyncGained
  /-- SOUTH_SYNC_LOST (R16) -/
  | southSyncLost
  /-- NORTH_LANE_HEADER (R8) -/
  | northLaneHeader (header : LaneHeader)
  /-- DATA_SLOT_RESERVED (R8) -/
  | dataSlotReserved
  /-- DATA_FRAME (R23) -/
  | dataFrame (frame : LinkFrame)
  /-- CONTROL_FRAME (R144) -/
  | controlFrame (frame : LinkFrame)
  /-- RXDATA_FRAME (R13) -/
  | rxdataFrame (frame : LinkFrame)
  /-- ENERGY_REPORT (R109) -/
  | energyReport (frame : LinkFrame)
  /-- TXSTAT (R87) -/
  | txstat (frame : LinkFrame)
  /-- RADIO_RECORD (R15) -/
  | radioRecord (frame : LinkFrame)
  /-- NORTH_OUTPUT_CHOICE (R12); the network processor's ready line -/
  | northOutputChoice (ready : Bool)
  /-- TXDONE_FRAME_SENT (R11) -/
  | txdoneFrameSent
  /-- RXDATA_FRAME_SENT (R13) -/
  | rxdataFrameSent
  /-- STATUS_FRAME_SENT (R147) -/
  | statusFrameSent
  /-- SOUTH_OUTPUT_START (R14); the radio MAC's ready line -/
  | southOutputStart (ready : Bool)
  /-- TXDATA_FRAME_SENT (R14) -/
  | txdataFrameSent
  /-- RELEASE_ARBITER_RUN (R50); the radio MAC's ready line -/
  | releaseArbiterRun (ready : Bool)
  /-- AGING_TIMER_EXPIRY (R47) -/
  | agingTimerExpiry (queue : Fin 16)
  /-- WINDOW_TIMER_EXPIRY (R61) -/
  | windowTimerExpiry
  /-- COMMITTED_UNTIL_EXPIRY (R83) -/
  | committedUntilExpiry
  /-- OUTSTANDING_STALE_EXPIRY (R85); the release id of the entry whose timer expires -/
  | outstandingStaleExpiry (id : BitVec 8)
  /-- COVERAGE_AGING_EXPIRY (R103) -/
  | coverageAgingExpiry
  /-- CHECK_TIMER_EXPIRY (R119) -/
  | checkTimerExpiry (slot : Fin 16)
  /-- RING_END_TIMER_EXPIRY (R141) -/
  | ringEndTimerExpiry
  /-- RING_LOAD_TIMER_EXPIRY (R136) -/
  | ringLoadTimerExpiry (index : Fin 32)
  /-- PACING_TIMER_EXPIRY (R156) -/
  | pacingTimerExpiry
  /-- OPEN_QUEUE (R40), code 16 -/
  | openQueue (target : Byte) (data : List Byte)
  /-- PAUSE_QUEUE (R41), code 17 -/
  | pauseQueue (target : Byte) (data : List Byte)
  /-- RESUME_QUEUE (R42), code 18 -/
  | resumeQueue (target : Byte) (data : List Byte)
  /-- DRAIN_QUEUE (R43), code 19 -/
  | drainQueue (target : Byte) (data : List Byte)
  /-- CLEAR_QUEUE_FLAGS (R44), code 20 -/
  | clearQueueFlags (target : Byte) (data : List Byte)
  /-- READ_QUEUE (R45), code 21 -/
  | readQueue (target : Byte) (data : List Byte)
  /-- LOAD_RATE (R69), code 32 -/
  | loadRate (target : Byte) (data : List Byte)
  /-- READ_RATE (R70), code 33 -/
  | readRate (target : Byte) (data : List Byte)
  /-- TAKE_SOURCE (R129), code 48 -/
  | takeSource (target : Byte) (data : List Byte)
  /-- WRITE_SOURCE (R130), code 49 -/
  | writeSource (target : Byte) (data : List Byte)
  /-- RELEASE_SOURCE (R131), code 50 -/
  | releaseSource (target : Byte) (data : List Byte)
  /-- FREE_SOURCE (R132), code 51 -/
  | freeSource (target : Byte) (data : List Byte)
  /-- READ_SOURCES (R133), code 52 -/
  | readSources (target : Byte) (data : List Byte)
  /-- START_RING (R137), code 64 -/
  | startRing (target : Byte) (data : List Byte)
  /-- STOP_RING (R138), code 65 -/
  | stopRing (target : Byte) (data : List Byte)
  /-- LOAD_RESERVATIONS (R139), code 66 -/
  | loadReservations (target : Byte) (data : List Byte)
  /-- READ_RING (R140), code 67 -/
  | readRing (target : Byte) (data : List Byte)
  /-- READ_SURVEY (R112), code 80 -/
  | readSurvey (target : Byte) (data : List Byte)
  /-- CLEAR_SURVEY (R112), code 81 -/
  | clearSurvey (target : Byte) (data : List Byte)
  /-- LOAD_SETTINGS (R149), code 96 -/
  | loadSettings (target : Byte) (data : List Byte)
  /-- READ_SETTINGS (R149), code 97 -/
  | readSettings (target : Byte) (data : List Byte)
  /-- SNAPSHOT (R150), code 98 -/
  | snapshot (target : Byte) (data : List Byte)
  /-- SET_EVENT_ENABLES (R153), code 99 -/
  | setEventEnables (target : Byte) (data : List Byte)
  /-- CLEAR_EVENTS (R153), code 100 -/
  | clearEvents (target : Byte) (data : List Byte)
  /-- RESET_PART (R151), code 101 -/
  | resetPart (target : Byte) (data : List Byte)
  /-- UNKNOWN_COMMAND (R145): a code that Table 11-10 does not list -/
  | unknownCommand (code : Byte) (target : Byte) (data : List Byte)
  /-- BROKEN_TAIL (R160): the leftover bytes -/
  | brokenTail (bytes : List Byte)
  /-- RESPONSE_QUEUED (R147) -/
  | responseQueued
  /-- RECEIVED_FRAME_DISCARDED (R5) -/
  | receivedFrameDiscarded (link : Link) (frame : LinkFrame)
  /-- RESET_INPUT_ASSERTED (R162) -/
  | resetInputAsserted
  /-- CANCEL_FRAME_SENT (R10) -/
  | cancelFrameSent
  /-- AIR_CLOCK_ADVANCE (R1) -/
  | airClockAdvance
deriving DecidableEq, Repr

end Sys2Proof
end

