-- ==== Sys2Proof/WellFormed.lean ====
section
/-! DEFINITION. The checks that make a command one that can arrive at the part: the row's frame kind stands in the frame's lane
header, a command's data fits its 2-byte length field inside a CONTROL payload, an unknown command's code is none of Table 11-10's
and a broken tail is one that cannot be separated. -/

namespace Sys2Proof

/-- The command codes of Table 11-10. -/
def knownCodes : List Byte :=
  [16, 17, 18, 19, 20, 21, 32, 33, 48, 49, 50, 51, 52, 64, 65, 66, 67, 80, 81, 96, 97, 98, 99, 100, 101]

/-- A frame's bytes fit the 2-byte payload length field of a lane header. -/
def LinkFrame.fits (f : LinkFrame) : Bool := decide (f.payload.length < 65536)

/-- A whole command of a CONTROL payload: its header and its data are at most 4096 bytes (section 11.5, Table 1-1). -/
def commandFits (data : List Byte) : Bool := decide (data.length ≤ 4092)

/-- Bytes that form a broken tail (R160): fewer than a command header, or fewer than the header's data length declares. -/
def isBrokenTail (bytes : List Byte) : Bool :=
  match bytes with
  | [] => false
  | _ :: _ :: hi :: lo :: data => decide (data.length < hi.toNat * 256 + lo.toNat) && decide (bytes.length ≤ 4096)
  | _ => true

/-- The checks on a command's operands. -/
def Instr.wellFormed : Instr → Bool
  | .powerOnReset => true
  | .northSyncGained => true
  | .northSyncLost => true
  | .southSyncGained => true
  | .southSyncLost => true
  | .northLaneHeader _ => true
  | .dataSlotReserved => true
  | .dataFrame f => f.header.kind == 1 && f.fits
  | .controlFrame f => f.header.kind == 2 && f.fits
  | .rxdataFrame f => f.header.kind == 5 && f.fits
  | .energyReport f => f.header.kind == 6 && f.fits
  | .txstat f => f.header.kind == 7 && f.fits
  | .radioRecord f => f.header.kind == 8 && f.fits
  | .northOutputChoice _ => true
  | .txdoneFrameSent => true
  | .rxdataFrameSent => true
  | .statusFrameSent => true
  | .southOutputStart _ => true
  | .txdataFrameSent => true
  | .releaseArbiterRun _ => true
  | .agingTimerExpiry _ => true
  | .windowTimerExpiry => true
  | .committedUntilExpiry => true
  | .outstandingStaleExpiry _ => true
  | .coverageAgingExpiry => true
  | .checkTimerExpiry _ => true
  | .ringEndTimerExpiry => true
  | .ringLoadTimerExpiry _ => true
  | .pacingTimerExpiry => true
  | .openQueue _ data => commandFits data
  | .pauseQueue _ data => commandFits data
  | .resumeQueue _ data => commandFits data
  | .drainQueue _ data => commandFits data
  | .clearQueueFlags _ data => commandFits data
  | .readQueue _ data => commandFits data
  | .loadRate _ data => commandFits data
  | .readRate _ data => commandFits data
  | .takeSource _ data => commandFits data
  | .writeSource _ data => commandFits data
  | .releaseSource _ data => commandFits data
  | .freeSource _ data => commandFits data
  | .readSources _ data => commandFits data
  | .startRing _ data => commandFits data
  | .stopRing _ data => commandFits data
  | .loadReservations _ data => commandFits data
  | .readRing _ data => commandFits data
  | .readSurvey _ data => commandFits data
  | .clearSurvey _ data => commandFits data
  | .loadSettings _ data => commandFits data
  | .readSettings _ data => commandFits data
  | .snapshot _ data => commandFits data
  | .setEventEnables _ data => commandFits data
  | .clearEvents _ data => commandFits data
  | .resetPart _ data => commandFits data
  | .unknownCommand code _ data => !knownCodes.contains code && commandFits data
  | .brokenTail bytes => isBrokenTail bytes
  | .responseQueued => true
  | .receivedFrameDiscarded _ f => f.fits
  | .resetInputAsserted => true
  | .cancelFrameSent => true
  | .airClockAdvance => true

end Sys2Proof
end

