-- ==== Sys2Proof/Decode.lean ====
section
/-! DEFINITION. The block has no instruction encoding of its own: no row of spec/opcode_table.json gives bits (every row's "fields" is
empty and none carries "fixed"), so no word spells a command. -/

namespace Sys2Proof

/-- The command that a word spells by the table's bits: none, since no row of the table gives bits. The byte encodings that the
manual does give (link frames and the commands of a CONTROL list) are read by Machine/Operands.lean from the frames a command carries. -/
def decodeTableWord (_nbits _w : Nat) : Option Instr := none

end Sys2Proof
end

