-- ==== Sys2Proof/Machine/State.lean ====
section
/-! DEFINITION. The machine's state as plain data, block by block (Table 0-1), the reasons a step can stop, and the state at the end of
power-on reset. -/

namespace Sys2Proof.Machine

/-- The manual gives the part no fault: every event it describes leaves a next state, so there is no constructor and no step faults. -/
inductive Fault
deriving DecidableEq, Repr

/-- Why a step has no meaning for a command. Safe: the model stops where the part would go on. -/
inductive Refusal where
  /-- Raised only by an arm of exec whose command has no meaning yet (no arm is such); safe. -/
  | notModelled (mnemonic : String)
deriving DecidableEq, Repr

/-! ### Air clock and timing line -/

/-- The air clock (R1) and the timing line (R2). -/
structure Clock where
  /-- The air clock. -/
  now : Instant
  /-- The timing line carries marks (R2); false while the part is held in reset (R162). -/
  marking : Bool
  /-- The full count that the timing line carried at the present mark or at a south synchronisation gained since it; absent when
  none was carried (R2). -/
  fullCount : Option Instant
deriving DecidableEq, Repr

/-! ### Transmit queues and the frame store -/

/-- The states of a subframe entry (R22). -/
inductive SubState where
  | pending
  | out
  | delivered
  | dropped
deriving DecidableEq, Repr

/-- An entry of a descriptor's subframe list (R22). -/
structure Subframe where
  ordinal : Nat
  length : Nat
  attempts : Nat
  state : SubState
deriving DecidableEq, Repr

/-- A descriptor record (Table 2-2), with the descriptor's number in the pool. -/
structure Descriptor where
  number : BitVec 10
  tag : BitVec 16
  queue : Fin 16
  rate : Fin 64
  arrival : Instant
  firstCell : BitVec 12
  cellCount : Nat
  subframes : List Subframe
  outstanding : Option (BitVec 8)
  firstRelease : Option Instant
  aged : Bool
  waited : Bool
  forcedUsed : Bool
  releases : Nat
deriving DecidableEq, Repr

/-- Queue states (R37). -/
inductive QueueState where
  | closed
  | opened
  | paused
  | draining
deriving DecidableEq, Repr

/-- Release modes (Table 3-1). -/
inductive ReleaseMode where
  | gated
  | fresh
  | ungated
deriving DecidableEq, Repr

/-- Report modes (Table 3-1). -/
inductive ReportMode where
  | summary
  | detailed
deriving DecidableEq, Repr

/-- The configuration fields that OPEN_QUEUE writes (Table 3-1); hold limit in ms, ack allowance in µs. -/
structure QueueConfig where
  priority : Nat
  depth : Nat
  hold : Nat
  ack : Nat
  retry : Nat
  mode : ReleaseMode
  report : ReportMode
deriving DecidableEq, Repr

/-- A transmit queue record (Table 3-1) with its aging timer (R46) and its entry of the request map (R49). The descriptor count is
the length of the list. -/
structure Queue where
  state : QueueState
  config : QueueConfig
  descriptors : List Descriptor
  refusedFlag : Bool
  forcedFlag : Bool
  droppedFlag : Bool
  aging : Option Instant
  request : Bool
deriving DecidableEq, Repr

/-- The bytes of the cells, cell n holding addresses 128 n to 128 n + 127: addresses strictly rise and no entry holds the byte that
an unlisted address reads as. -/
abbrev Memory := List Host.Cell

/-- The frame store (chapter 2): the free lists, head first; the cells' bytes; and, for a held cell that is not the last of its
bundle, the next cell (R20). -/
structure FrameStore where
  freeCells : List (BitVec 12)
  freeDescriptors : List (BitVec 10)
  memory : Memory
  nextCell : List (BitVec 12 × BitVec 12)
deriving DecidableEq, Repr

/-! ### TXDONE FIFO -/

/-- TXDONE results (R23, R30, Table 11-12). -/
inductive DoneResult where
  | deliveredAll
  | deliveredPart
  | notDelivered
  | drained
  | refusedFormat
  | refusedQueue
  | refusedFull
  | refusedRate
  | refusedStore
deriving DecidableEq, Repr

/-- Per-ordinal results (R33). -/
inductive OrdinalResult where
  | notSent
  | delivered
  | dropped
deriving DecidableEq, Repr

/-- A TXDONE record (Table 2-6). -/
structure TxDone where
  tag : BitVec 16
  queue : Byte
  result : DoneResult
  count : Nat
  delivered : Nat
  dropped : Nat
  releases : Nat
  forced : Bool
  arrival : Instant
  firstRelease : Option Instant
  completion : Instant
  ordinals : Option (List OrdinalResult)
deriving DecidableEq, Repr

/-- The TXDONE FIFO (R11): how many slots are reserved, and the filled slots, oldest first. -/
structure DoneFifo where
  reserved : Nat
  filled : List TxDone
deriving DecidableEq, Repr

/-! ### North link -/

/-- Where the north input stands in the frame it is receiving (R8). -/
inductive NorthInput where
  /-- Ready for a lane header. -/
  | awaitHeader
  /-- A DATA frame held not-ready after its lane header, waiting for a TXDONE slot. -/
  | held (header : LaneHeader)
  /-- The rest of a frame is being received; `reserved`: it holds a reserved TXDONE slot; `doomed`: a part reset executed meanwhile. -/
  | receiving (header : LaneHeader) (reserved : Bool) (doomed : Bool)
deriving DecidableEq, Repr

/-- The scope that STARTED reports (R157). -/
inductive StartedScope where
  | powerOn
  | full
deriving DecidableEq, Repr

/-- STATUS frames that wait for the north output (R12). A NOTICE's content is fixed only when it begins to be sent (R155). -/
inductive StatusFrame where
  | response (sequence : BitVec 16) (payload : List Byte)
  | notice
  | started (scope : StartedScope)
deriving DecidableEq, Repr

/-- What the north transmitter sends. -/
inductive NorthItem where
  | status (frame : StatusFrame)
  /-- `slotHeld`: the record's slot is still filled at the head of the FIFO (no part reset has emptied it). -/
  | txdone (record : TxDone) (slotHeld : Bool)
  /-- The frame at the head of the pass buffer. -/
  | rxdata
deriving DecidableEq, Repr

/-- A frame being sent on the north link. -/
structure NorthSending where
  item : NorthItem
  frame : LinkFrame
deriving DecidableEq, Repr

/-- The kinds that share the north output (R12). -/
inductive SharedKind where
  | txdone
  | rxdata
deriving DecidableEq, Repr

/-- The north link interface: synchronisation, input, output arbiter and RXDATA pass buffer. -/
structure NorthLink where
  synced : Bool
  /-- The link has gained synchronisation since power-on (R157). -/
  everSynced : Bool
  input : NorthInput
  /-- The network processor's ready line as last sampled (R10). -/
  partnerReady : Bool
  sending : Option NorthSending
  /-- The frame abandoned by a loss of synchronisation, to be sent again first (R4). -/
  resend : Option NorthItem
  /-- The STATUS frames that wait, oldest first. -/
  status : List StatusFrame
  lastShared : SharedKind
  passBuffer : List LinkFrame
deriving DecidableEq, Repr

/-! ### South link -/

/-- The radio state machine's states (R15). -/
inductive Radio where
  | down
  | onChannel (n : Nat)
  | away
deriving DecidableEq, Repr

/-- Release kinds (R78). -/
inductive ReleaseKind where
  | fitting
  | forced
  | ungated
deriving DecidableEq, Repr

/-- A release record (Table 5-4). -/
structure ReleaseRecord where
  id : BitVec 8
  queue : Fin 16
  tag : BitVec 16
  rate : Fin 64
  kind : ReleaseKind
  ordinals : List Nat
  earliest : Instant
  latest : Option Instant
  windowEnd : Option Instant
  airtime : Nat
deriving DecidableEq, Repr

/-- A CANCEL frame's content (Table 11-4). -/
structure CancelRecord where
  id : BitVec 8
  queue : Fin 16
  tag : BitVec 16
  placed : Instant
deriving DecidableEq, Repr

/-- What the south transmitter sends. -/
inductive SouthItem where
  | txdata (id : BitVec 8)
  | cancel (id : BitVec 8)
deriving DecidableEq, Repr

/-- A frame being sent on the south link. -/
structure SouthSending where
  item : SouthItem
  frame : LinkFrame
deriving DecidableEq, Repr

/-- The south link interface: synchronisation, radio state machine (R15) and south output queue (R14), oldest first. -/
structure SouthLink where
  synced : Bool
  radio : Radio
  lastChannel : Option Nat
  /-- The radio MAC's ready line as last sampled (R10). -/
  partnerReady : Bool
  txdata : List ReleaseRecord
  cancels : List CancelRecord
  sending : Option SouthSending
deriving DecidableEq, Repr

/-! ### Window unit and release gate -/

/-- Window statuses (R60). -/
inductive WindowStatus where
  | closedRadio
  | blocked
  | opened
  | saturated
deriving DecidableEq, Repr

/-- The window unit (R52). -/
structure Window where
  status : WindowStatus
  saturated : Bool
  clear : Option Instant
  horizon : Option Instant
  stop : Option Instant
  timer : Option Instant
deriving DecidableEq, Repr

/-- A valid rate entry (Table 5-1); preamble in µs, symbol in ns. -/
structure Rate where
  preamble : Nat
  symbol : Nat
  bits : Nat
  fixedBits : Nat
deriving DecidableEq, Repr

/-- An outstanding release entry (Table 5-5). Its stale timer is armed for the release stamp plus 2^30 µs until it sets `stale`. -/
structure Outstanding where
  id : BitVec 8
  queue : Fin 16
  descriptor : BitVec 10
  ordinals : List Nat
  kind : ReleaseKind
  earliest : Instant
  latest : Option Instant
  windowEnd : Option Instant
  airtime : Nat
  cancelledSent : Bool
  stamp : Instant
  stale : Bool
deriving DecidableEq, Repr

/-- The release gate: rate table (R68), outstanding release table in the order of decision (R85), committed-until, whose timer is armed
for it while it is present (R83), and the release id counter (R81). -/
structure Gate where
  rates : Vector (Option Rate) 64
  table : List Outstanding
  committed : Option Instant
  nextId : BitVec 8
deriving DecidableEq, Repr

/-! ### Burst detector -/

/-- The open burst (R105); it is present exactly in the detector state IN_BURST. -/
structure OpenBurst where
  start : Instant
  certain : Bool
  peak : Int
deriving DecidableEq, Repr

/-- A span of the coverage list, [start, stop) (R100). -/
structure Span where
  start : Instant
  stop : Instant
deriving DecidableEq, Repr

/-- A survey entry (R111), in µs. -/
structure SurveyEntry where
  listen : Nat
  busy : Nat
deriving DecidableEq, Repr

/-- The burst detector: open burst, coverage list, oldest first, its aging timer (R103), and the survey table, channel 1 first. -/
structure Detector where
  burst : Option OpenBurst
  spans : List Span
  agingTimer : Option Instant
  survey : Vector SurveyEntry 14
deriving DecidableEq, Repr

/-! ### Source tracker -/

/-- Owners of a source entry (R115). -/
inductive Owner where
  | learn
  | host
deriving DecidableEq, Repr

/-- The states of a non-FREE source entry (R115). -/
inductive SourceState where
  | acquiring
  | locked
  | coasting
deriving DecidableEq, Repr

/-- The kind of a source entry with the fields of that kind (Table 8-1). -/
inductive SourceKind where
  | oven (low : Nat) (high : Nat)
  | beacon (channel : Nat) (tag : BitVec 48)
deriving DecidableEq, Repr

/-- A non-FREE source entry (Table 8-1). Its check time is always S plus the capture (R114). -/
structure Source where
  kind : SourceKind
  state : SourceState
  start : Instant
  period : Nat
  duration : Nat
  matchCount : Nat
  missRun : Nat
  matched : Bool
deriving DecidableEq, Repr

/-- A slot of the source table: its owner, its entry (absent when FREE), its check timer (R118) and whether its check is deferred (R119). -/
structure Slot where
  owner : Owner
  entry : Option Source
  timer : Option Instant
  deferred : Bool
deriving DecidableEq, Repr

/-- The match result of the matched burst record (R121). -/
inductive MatchResult where
  | slot (i : Fin 16)
  | unmatched
  | withdrawn
deriving DecidableEq, Repr

/-- The matched burst record (R121). -/
structure MatchRecord where
  start : Instant
  result : MatchResult
deriving DecidableEq, Repr

/-- The source tracker. -/
structure Sources where
  slots : Vector Slot 16
  record : Option MatchRecord
deriving DecidableEq, Repr

/-! ### Reservation ring -/

/-- A reservation entry (Table 9-1) with its load timer and stale mark (R136). -/
structure RingEntry where
  valid : Bool
  wrap : Bool
  last : Bool
  start : Instant
  duration : Nat
  label : Byte
  loadTimer : Option Instant
  stale : Bool
deriving DecidableEq, Repr

/-- Stop reasons (R136). -/
inductive StopReason where
  | command
  | last
  | invalid
deriving DecidableEq, Repr

/-- The reservation ring (R135, R136). -/
structure Ring where
  entries : Vector RingEntry 32
  running : Bool
  startIndex : Fin 32
  current : Fin 32
  reason : Option StopReason
  lastLabel : Option Byte
  endTimer : Option Instant
deriving DecidableEq, Repr

/-! ### Command engine -/

/-- The settings record (Table 10-1). -/
structure Settings where
  guardLead : Nat
  guardTrail : Nat
  txopCeiling : Nat
  ovenPeriodDefault : Nat
  ovenPeriodMin : Nat
  ovenPeriodMax : Nat
  ovenBurstMin : Nat
  ovenBurstMax : Nat
  onLevel : Int
  offLevel : Int
  ovenCapture : Nat
  beaconCapture : Nat
  beaconTail : Nat
  phaseStepMax : Nat
  ovenLockCount : Nat
  beaconLockCount : Nat
  missLimit : Nat
  noticeGap : Nat
deriving DecidableEq, Repr

/-- A whole command of a CONTROL payload (section 11.5). -/
structure Command where
  code : Byte
  target : Byte
  data : List Byte
deriving DecidableEq, Repr

/-- Command results (Table 0-2). -/
inductive Result where
  | ok
  | badOp
  | badTarget
  | badValue
  | busy
  | truncated
deriving DecidableEq, Repr

/-- A result entry of a response (section 11.5). -/
structure ResultEntry where
  code : Byte
  result : Result
  data : List Byte
deriving DecidableEq, Repr

/-- The scope of a part reset (R151). -/
inductive ResetScope where
  | traffic
  | full
deriving DecidableEq, Repr

/-- A CONTROL frame as the command engine buffers it. -/
structure ControlFrame where
  sequence : BitVec 16
  payload : List Byte
deriving DecidableEq, Repr

/-- The list in the executing buffer: its commands still to execute, its broken tail still to report (empty when there is none), the
response under assembly, the room still free in it (R146), whether a command was truncated, and the reset accepted so far (R151). -/
structure ControlList where
  sequence : BitVec 16
  commands : List Command
  tail : List Byte
  results : List ResultEntry
  room : Nat
  truncated : Bool
  reset : Option ResetScope
deriving DecidableEq, Repr

/-- The executing buffer (R144). -/
inductive ExecBuffer where
  | empty
  | executing (list : ControlList)
  | holding (list : ControlList)
deriving DecidableEq, Repr

/-- The command engine. -/
structure Engine where
  executing : ExecBuffer
  waiting : Option ControlFrame
  settings : Settings
  lastDropped : Option (BitVec 16)
deriving DecidableEq, Repr

/-! ### Event block -/

/-- The event block: the 14 flags and enables, bit b for row b + 1 of Table 10-2, the ATTN line, whether a NOTICE is due (R155), the
pacing timer (absent when cancelled or expired) and the last notice instant (R156). -/
structure Events where
  flags : BitVec 14
  enables : BitVec 14
  attn : Bool
  noticeDue : Bool
  pacing : Option Instant
  lastNotice : Option Instant
deriving DecidableEq, Repr

/-! ### The whole part -/

/-- The state of the part, and the model's queue of the commands that are waiting. -/
structure State where
  /-- The reset input is asserted, or power is not yet stable (R162). -/
  inReset : Bool
  clock : Clock
  north : NorthLink
  fifo : DoneFifo
  south : SouthLink
  store : FrameStore
  queues : Vector Queue 16
  /-- The arbiter's four round-robin pointers, by priority level (R50). -/
  pointers : Vector (Fin 16) 4
  window : Window
  gate : Gate
  detector : Detector
  sources : Sources
  ring : Ring
  engine : Engine
  events : Events
  /-- The model's own field: the commands that are waiting, first in, first out. -/
  pending : List Instr
deriving DecidableEq, Repr

/-! ### Power-on values -/

/-- The power-on clock: 0, with a full count published at 0 (R1, R2, R162). -/
def Clock.powerOn : Clock := { now := 0, marking := true, fullCount := some 0 }

/-- A closed queue as power-on and a part reset leave it (R36). -/
def Queue.powerOn : Queue :=
  { state := .closed
    config := { priority := 0, depth := 0, hold := 0, ack := 0, retry := 0, mode := .gated, report := .summary }
    descriptors := [], refusedFlag := false, forcedFlag := false, droppedFlag := false, aging := none, request := false }

/-- Both free lists full in ascending order (R18, R19); no byte of a cell listed. -/
def FrameStore.powerOn : FrameStore :=
  { freeCells := (List.range' 0 Config.cells).map (BitVec.ofNat 12)
    freeDescriptors := (List.range' 0 Config.descriptors).map (BitVec.ofNat 10)
    memory := [], nextCell := [] }

/-- All slots free (R11). -/
def DoneFifo.powerOn : DoneFifo := { reserved := 0, filled := [] }

/-- The north link UNSYNCED, its buffer empty, the last shared kind RXDATA (R4, R12, R13). -/
def NorthLink.powerOn : NorthLink :=
  { synced := false, everSynced := false, input := .awaitHeader, partnerReady := false, sending := none, resend := none
    status := [], lastShared := .rxdata, passBuffer := [] }

/-- The south link UNSYNCED, the radio DOWN, the south output queue empty (R4, R14, R15). -/
def SouthLink.powerOn : SouthLink :=
  { synced := false, radio := .down, lastChannel := none, partnerReady := false, txdata := [], cancels := [], sending := none }

/-- CLOSED_RADIO, not saturated, no result, timer cancelled (R52). -/
def Window.powerOn : Window :=
  { status := .closedRadio, saturated := false, clear := none, horizon := none, stop := none, timer := none }

/-- Rates invalid, table empty, committed-until absent, release id counter 0 (R68, R86, R83, R81). -/
def Gate.powerOn : Gate := { rates := Vector.replicate 64 none, table := [], committed := none, nextId := 0 }

/-- IDLE, no span, all survey counts 0 (R113). -/
def Detector.powerOn : Detector :=
  { burst := none, spans := [], agingTimer := none, survey := Vector.replicate 14 { listen := 0, busy := 0 } }

/-- A slot FREE and owned by LEARN (R117). -/
def Slot.powerOn : Slot := { owner := .learn, entry := none, timer := none, deferred := false }

/-- All slots FREE, no matched burst record (R117). -/
def Sources.powerOn : Sources := { slots := Vector.replicate 16 Slot.powerOn, record := none }

/-- A reservation entry invalid with its other fields 0 (R143). -/
def RingEntry.powerOn : RingEntry :=
  { valid := false, wrap := false, last := false, start := 0, duration := 0, label := 0, loadTimer := none, stale := false }

/-- The ring at power-on and after a FULL part reset (R143). -/
def Ring.powerOn : Ring :=
  { entries := Vector.replicate 32 RingEntry.powerOn, running := false, startIndex := 0, current := 0, reason := none
    lastLabel := none, endTimer := none }

/-- The default settings (Table 10-1). -/
def Settings.default : Settings :=
  { guardLead := 300, guardTrail := 200, txopCeiling := 4000
    ovenPeriodDefault := 20000, ovenPeriodMin := 15000, ovenPeriodMax := 22000
    ovenBurstMin := 4000, ovenBurstMax := 12000, onLevel := -62, offLevel := -65
    ovenCapture := 1000, beaconCapture := 1024, beaconTail := 0, phaseStepMax := 400
    ovenLockCount := 3, beaconLockCount := 2, missLimit := 6, noticeGap := 10 }

/-- Both buffers EMPTY, default settings, no dropped sequence (R144, R148). -/
def Engine.powerOn : Engine := { executing := .empty, waiting := none, settings := Settings.default, lastDropped := none }

/-- Flags and enables clear, ATTN deasserted, no NOTICE due, timer cancelled (R152 to R156). -/
def Events.powerOn : Events :=
  { flags := 0, enables := 0, attn := false, noticeDue := false, pacing := none, lastNotice := none }

/-- The part right after reset: every block at its power-on value (R162), and no command waiting. -/
def State.reset : State :=
  { inReset := false
    clock := Clock.powerOn
    north := NorthLink.powerOn
    fifo := DoneFifo.powerOn
    south := SouthLink.powerOn
    store := FrameStore.powerOn
    queues := Vector.replicate 16 Queue.powerOn
    pointers := Vector.replicate 4 15
    window := Window.powerOn
    gate := Gate.powerOn
    detector := Detector.powerOn
    sources := Sources.powerOn
    ring := Ring.powerOn
    engine := Engine.powerOn
    events := Events.powerOn
    pending := [] }

end Sys2Proof.Machine
end

