-- ==== Sys2Proof/Machine/Instants.lean ====
section
/-! DEFINITION. Instants, their order and distance (section 4.4 of the scope file, R54), and the divisions of section 4.5. -/

namespace Sys2Proof.Machine

/-- x is at or before y: (y − x) modulo 2^32 is less than 2^31 (section 4.4, R3). -/
def atOrBefore (x y : Instant) : Bool := decide ((y - x).toNat < 2147483648)

/-- x is before y: at or before it and different from it. -/
def before (x y : Instant) : Bool := atOrBefore x y && x != y

/-- The later of two instants. -/
def later (x y : Instant) : Instant := if atOrBefore x y then y else x

/-- The signed distance from x to y, as R54 step 1 computes it. -/
def distance (x y : Instant) : Int :=
  if atOrBefore x y then ((y - x).toNat : Int) else ((y - x).toNat : Int) - 4294967296

/-- The instant n µs after x. -/
def plus (x : Instant) (n : Nat) : Instant := x + BitVec.ofNat 32 n

/-- The instant n µs before x. -/
def minus (x : Instant) (n : Nat) : Instant := x - BitVec.ofNat 32 n

/-- The instant x moved by a signed number of µs. -/
def moved (x : Instant) (i : Int) : Instant := x + BitVec.ofInt 32 i

/-- An armed timer's instant is at or before now, so that the timer expires (R3). A cancelled timer never does. -/
def reached (timer : Option Instant) (now : Instant) : Bool :=
  match timer with
  | some t => atOrBefore t now
  | none => false

/-- Division rounded up (section 4.5). -/
def ceilDiv (n d : Nat) : Nat := (n + d - 1) / d

/-- Clamped to [lo, hi] (section 4.5): replaced by lo when below lo and by hi when above hi. -/
def clampNat (lo hi x : Nat) : Nat := if x < lo then lo else if hi < x then hi else x

/-- Clamped to [lo, hi] on signed numbers. -/
def clampInt (lo hi x : Int) : Int := if x < lo then lo else if hi < x then hi else x

/-- A counter increased with saturation (section 4.5). -/
def saturate (limit x : Nat) : Nat := if limit < x then limit else x

end Sys2Proof.Machine
end

