-- ==== Sys2Proof/Machine/Bytes.lean ====
section
/-! DEFINITION. Byte order, fields of a payload, the CRC and the lane header (sections 11.1 and 11.2), and the lane classifier's
checks (R5). -/

namespace Sys2Proof.Machine

/-- The k bytes of v, most significant first (R158); higher bits of v are not sent. -/
def toBytes : Nat → Nat → List Byte
  | 0, _ => []
  | k + 1, v => BitVec.ofNat 8 (v / 256 ^ k) :: toBytes k v

/-- The number that bytes spell, most significant first (R158). -/
def ofBytes (bytes : List Byte) : Nat := bytes.foldl (fun acc b => acc * 256 + b.toNat) 0

/-- The unsigned field of `size` bytes at `offset`. -/
def field (bytes : List Byte) (offset size : Nat) : Nat := ofBytes ((bytes.drop offset).take size)

/-- The byte at `offset`; 0 beyond the end, where no caller reads. -/
def byteAt (bytes : List Byte) (offset : Nat) : Byte := bytes.getD offset 0

/-- Bit `i` of the byte at `offset`. -/
def bitAt (bytes : List Byte) (offset i : Nat) : Bool := (byteAt bytes offset).getLsbD i

/-- The instant in the 4 bytes at `offset`. -/
def instantAt (bytes : List Byte) (offset : Nat) : Instant := BitVec.ofNat 32 (field bytes offset 4)

/-- The signed byte (two's complement) at `offset`. -/
def levelAt (bytes : List Byte) (offset : Nat) : Int := (byteAt bytes offset).toInt

/-- An instant as 4 bytes. -/
def instantBytes (t : Instant) : List Byte := toBytes 4 t.toNat

/-- An optional instant: 0 when absent (section 11.1). -/
def optInstantBytes (t : Option Instant) : List Byte := toBytes 4 ((t.map BitVec.toNat).getD 0)

/-- A flags byte's bit. -/
def bit (i : Nat) (b : Bool) : Nat := if b then 2 ^ i else 0

/-- One step of the CRC register: generator 04C11DB7 below the x^32 term (section 11.2). -/
def crcBit (register : BitVec 32) (b : Bool) : BitVec 32 :=
  if (register.msb ^^ b) then (register <<< 1) ^^^ 0x04C11DB7#32 else register <<< 1

/-- A byte enters the CRC register least significant bit first. -/
def crcByte (register : BitVec 32) (b : Byte) : BitVec 32 :=
  [0, 1, 2, 3, 4, 5, 6, 7].foldl (fun r i => crcBit r (b.getLsbD i)) register

/-- The CRC over bytes in transmission order: register preset to all ones, final value inverted (section 11.2). DEDUCED: the manual
names no bit reversal of the final value, so none is made (notes/assumptions/2.md). -/
def crc (bytes : List Byte) : BitVec 32 := ~~~ (bytes.foldl crcByte 0xFFFFFFFF#32)

/-- The 8 bytes of a lane header (Table 11-1). -/
def headerBytes (h : LaneHeader) : List Byte :=
  [h.kind, h.lane] ++ toBytes 2 h.length.toNat ++ toBytes 2 h.sequence.toNat ++ [h.flags, h.version]

/-- The CRC of a frame: over its lane header and its payload. -/
def frameCrc (h : LaneHeader) (payload : List Byte) : BitVec 32 := crc (headerBytes h ++ payload)

/-- A frame that the part originates (R7): version 1, the payload's length, and the CRC. -/
def originate (kind lane : Byte) (sequence : BitVec 16) (flags : Byte) (payload : List Byte) : LinkFrame :=
  let header : LaneHeader :=
    { kind, lane, length := BitVec.ofNat 16 payload.length, sequence, flags, version := 1 }
  { header, payload, crc := frameCrc header payload }

/-- The largest payload of each kind of Table 1-1, by its code of Table 11-12; none for a code that is no kind. -/
def largestPayload (kind : Byte) : Option Nat :=
  match kind.toNat with
  | 1 => some 33792
  | 2 => some 4096
  | 3 => some 4096
  | 4 => some 256
  | 5 => some 8192
  | 6 => some 256
  | 7 => some 64
  | 8 => some 16
  | 9 => some 33792
  | 10 => some 8
  | _ => none

/-- The part receives this kind on this link (R5, third check). -/
def receives (link : Link) (kind : Byte) : Bool :=
  match link, kind.toNat with
  | .north, 1 => true
  | .north, 2 => true
  | .south, 5 => true
  | .south, 6 => true
  | .south, 7 => true
  | .south, 8 => true
  | _, _ => false

/-- A frame passes the four checks of R5, so that it is taken (R6). -/
def passes (link : Link) (f : LinkFrame) : Bool :=
  f.crc == frameCrc f.header f.payload
    && f.header.version == 1
    && receives link f.header.kind
    && f.payload.length == f.header.length.toNat
    && decide (f.payload.length ≤ (largestPayload f.header.kind).getD 0)

end Sys2Proof.Machine
end

