-- ==== Sys2Proof/Machine/Operands.lean ====
section
/-! DEFINITION. What the part reads from the payloads of the frames it takes and from the data of the commands: every operand form of
chapter 11. -/

namespace Sys2Proof.Machine

/-! ### DATA -/

/-- What a well-formed DATA payload carries (Table 11-2). -/
structure Bundle where
  rate : Fin 64
  lengths : List Nat
  bodies : List Byte
deriving DecidableEq, Repr

/-- The subframe lengths of a bundle header for a count. -/
def bundleLengths (payload : List Byte) (count : Nat) : List Nat :=
  (List.range' 0 count).map fun i => field payload (2 + 2 * i) 2

/-- The bundle of a DATA payload whose header is well formed (R24); none otherwise. -/
def readBundle (payload : List Byte) : Option Bundle :=
  let count := (byteAt payload 1).toNat
  let lengths := bundleLengths payload count
  if h : (byteAt payload 0).toNat < 64 then
    if 2 ≤ payload.length ∧ 1 ≤ count ∧ count ≤ 32 ∧ 2 + 2 * count ≤ payload.length
        ∧ (lengths.all fun l => decide (14 ≤ l) && decide (l ≤ 2400)) = true
        ∧ lengths.sum ≤ 32768 ∧ payload.length = 2 + 2 * count + lengths.sum then
      some { rate := ⟨(byteAt payload 0).toNat, h⟩, lengths, bodies := payload.drop (2 + 2 * count) }
    else none
  else none

/-! ### TXSTAT -/

/-- The result of a TXSTAT (Table 11-5). -/
inductive TxResult where
  | sent
  | expired
  | cancelled
deriving DecidableEq, Repr

/-- What a TXSTAT carries (section 6.2). -/
structure TxStat where
  id : BitVec 8
  result : TxResult
  start : Option Instant
  acks : List Bool
deriving DecidableEq, Repr

/-- The result that a code names; none for a code that names none. -/
def txResult (code : Byte) : Option TxResult :=
  match code.toNat with
  | 1 => some .sent
  | 2 => some .expired
  | 3 => some .cancelled
  | _ => none

/-- Ack flag i stands in byte i ÷ 8 of the map, bit 7 − (i modulo 8) (Table 11-5). -/
def ackFlag (payload : List Byte) (i : Nat) : Bool := bitAt payload (8 + i / 8) (7 - i % 8)

/-- A TXSTAT payload that can be read whole; none for one that R159 discards. -/
def readTxStat (payload : List Byte) : Option TxStat :=
  let count := (byteAt payload 3).toNat
  if payload.length = 8 + ceilDiv count 8 then
    match txResult (byteAt payload 1) with
    | none => none
    | some result =>
      some
        { id := byteAt payload 0, result
          start := if bitAt payload 2 0 then some (instantAt payload 4) else none
          acks := (List.range' 0 count).map (ackFlag payload) }
  else none

/-! ### ENERGY -/

/-- What an ENERGY report carries (section 7.1). -/
structure EnergyReport where
  channel : Nat
  continues : Bool
  first : Instant
  interval : Nat
  samples : List Int
deriving DecidableEq, Repr

/-- The level is one a sample may hold (R99). -/
def sampleInRange (level : Int) : Bool := decide (-100 ≤ level) && decide (level ≤ -20)

/-- An ENERGY report that is accepted; none for one that R99 or R159 discards. -/
def readEnergy (h : LaneHeader) (payload : List Byte) : Option EnergyReport :=
  let count := (byteAt payload 6).toNat
  let samples := (List.range' 0 count).map fun i => levelAt payload (7 + i)
  let interval := field payload 4 2
  if payload.length = 7 + count ∧ 1 ≤ h.lane.toNat ∧ h.lane.toNat ≤ 14 ∧ 8 ≤ interval ∧ interval ≤ 256
      ∧ 1 ≤ count ∧ count ≤ 128 ∧ samples.all sampleInRange = true then
    some { channel := h.lane.toNat, continues := h.flags.getLsbD 0, first := instantAt payload 0, interval, samples }
  else none

/-! ### RADIO -/

/-- A radio record (section 1.9). -/
inductive RadioRecord where
  | channel (n : Nat)
  | away
  | back
deriving DecidableEq, Repr

/-- A radio record that is not discarded: at least 2 bytes, a known type and, for CHANNEL, a channel from 1 to 14 (R15, R159). -/
def readRadio (payload : List Byte) : Option RadioRecord :=
  let n := (byteAt payload 1).toNat
  if payload.length < 2 then none
  else
    match (byteAt payload 0).toNat with
    | 1 => if 1 ≤ n ∧ n ≤ 14 then some (.channel n) else none
    | 2 => some .away
    | 3 => some .back
    | _ => none

/-! ### RXDATA -/

/-- The metadata trailer of an RXDATA payload (Table 11-8). -/
structure Trailer where
  channel : Nat
  beacon : Bool
  good : Bool
  own : Bool
  level : Int
  start : Instant
  airtime : Nat
  interval : Nat
  tag : BitVec 48
deriving DecidableEq, Repr

/-- The trailer in the last 18 bytes of a payload; none for a shorter payload (R13). -/
def readTrailer (payload : List Byte) : Option Trailer :=
  if payload.length < 18 then none
  else
    let t := payload.drop (payload.length - 18)
    some
      { channel := (byteAt t 0).toNat, beacon := byteAt t 1 == 1, good := bitAt t 2 0, own := bitAt t 2 1
        level := levelAt t 3, start := instantAt t 4, airtime := field t 8 2, interval := field t 10 2
        tag := BitVec.ofNat 48 (field t 12 6) }

/-- The trailer is learned from (R126). -/
def Trailer.qualifies (t : Trailer) : Bool :=
  t.beacon && t.good && !t.own && decide (1 ≤ t.channel) && decide (t.channel ≤ 14)
    && decide (10 ≤ t.interval) && decide (t.interval ≤ 1000)

/-! ### Command targets -/

/-- A queue number named by a target byte (R39). -/
def queueTarget (target : Byte) : Option (Fin 16) :=
  if h : target.toNat < 16 then some ⟨target.toNat, h⟩ else none

/-- The sixteen queues in ascending order. -/
def allQueues : List (Fin 16) := [0, 1, 2, 3, 4, 5, 6, 7, 8, 9, 10, 11, 12, 13, 14, 15]

/-- The queues that a target names where ALL (255) is accepted, in ascending order (R39). -/
def queueTargets (target : Byte) : Option (List (Fin 16)) :=
  if target = 255 then some allQueues else (queueTarget target).map fun q => [q]

/-- A rate index named by a target byte (R69). -/
def rateTarget (target : Byte) : Option (Fin 64) :=
  if h : target.toNat < 64 then some ⟨target.toNat, h⟩ else none

/-- A ring index named by a target byte (R137, R139). -/
def ringTarget (target : Byte) : Option (Fin 32) :=
  if h : target.toNat < 32 then some ⟨target.toNat, h⟩ else none

/-- The survey entry of a channel from 1 to 14. -/
def surveyIndex (channel : Nat) : Option (Fin 14) :=
  if h : channel - 1 < 14 then if 1 ≤ channel then some ⟨channel - 1, h⟩ else none else none

/-! ### Command data -/

/-- A release mode code (Table 11-12). -/
def releaseMode (code : Byte) : Option ReleaseMode :=
  match code.toNat with
  | 0 => some .gated
  | 1 => some .fresh
  | 2 => some .ungated
  | _ => none

/-- A report mode code (Table 11-12). -/
def reportMode (code : Byte) : Option ReportMode :=
  match code.toNat with
  | 0 => some .summary
  | 1 => some .detailed
  | _ => none

/-- The configuration of an OPEN_QUEUE (Table 11-11), when it has the size of R160, its fields lie in the ranges of Table 3-1 and its
modes name modes (R40, R161). -/
def readQueueConfig (data : List Byte) : Option QueueConfig :=
  let priority := field data 0 1
  let depth := field data 1 2
  let hold := field data 3 2
  let ack := field data 5 2
  let retry := field data 7 1
  if data.length = 10 ∧ priority ≤ 3 ∧ 1 ≤ depth ∧ depth ≤ 1024 ∧ 1 ≤ hold ∧ hold ≤ 1000 ∧ ack ≤ 500 ∧ retry ≤ 15 then
    match releaseMode (byteAt data 8), reportMode (byteAt data 9) with
    | some mode, some report => some { priority, depth, hold, ack, retry, mode, report }
    | _, _ => none
  else none

/-- The rate of a LOAD_RATE (Table 11-11), when its fields lie in the ranges of Table 5-1 (R69). -/
def readRateImage (data : List Byte) : Option Rate :=
  let preamble := field data 0 1
  let symbol := field data 1 2
  let bits := field data 3 2
  let fixedBits := field data 5 1
  if data.length = 6 ∧ preamble ≤ 100 ∧ 1000 ≤ symbol ∧ symbol ≤ 16000 ∧ 6 ≤ bits ∧ bits ≤ 4000 ∧ fixedBits ≤ 64 then
    some { preamble, symbol, bits, fixedBits }
  else none

/-- The upper bound of a duration for a period: P − (guard lead + guard trail + 256) (R116). -/
def durationBound (c : Settings) (period : Nat) : Nat := period - c.guardLead - c.guardTrail - 256

/-- The capture of an entry: the setting for its kind (section 8.1). -/
def captureOf (c : Settings) (kind : SourceKind) : Nat :=
  match kind with
  | .oven _ _ => c.ovenCapture
  | .beacon _ _ => c.beaconCapture

/-- The kind, span or channel, and tag that a source image writes, when R130 accepts them for the period (R161: a BEACON entry's span high
byte is ignored). -/
def readSourceKind (c : Settings) (data : List Byte) (period : Nat) : Option SourceKind :=
  let low := field data 16 1
  let high := field data 17 1
  match (byteAt data 0).toNat with
  | 0 =>
    if c.ovenPeriodMin ≤ period ∧ period ≤ c.ovenPeriodMax ∧ 1 ≤ low ∧ low ≤ high ∧ high ≤ 14 then some (.oven low high)
    else none
  | 1 =>
    if period % 1024 = 0 ∧ 10 ≤ period / 1024 ∧ period / 1024 ≤ 1000 ∧ 1 ≤ low ∧ low ≤ 14 then
      some (.beacon low (BitVec.ofNat 48 (field data 18 6)))
    else none
  | _ => none

/-- A state code other than FREE (Table 11-12). -/
def sourceState (code : Byte) : Option SourceState :=
  match code.toNat with
  | 1 => some .acquiring
  | 2 => some .locked
  | 3 => some .coasting
  | _ => none

/-- The record of a WRITE_SOURCE (Table 11-11 without the slot byte) when R130 accepts its values: S is still as written, the miss run is
0 and the matched flag clear. -/
def readSourceImage (c : Settings) (now : Instant) (data : List Byte) : Option Source :=
  let start := instantAt data 4
  let period := field data 8 4
  let duration := field data 12 4
  if data.length = 30 ∧ 64 ≤ duration ∧ duration ≤ durationBound c period ∧ (distance now start).natAbs < Config.staleAge then
    match readSourceKind c data period, sourceState (byteAt data 2) with
    | some kind, some state =>
      some { kind, state, start, period, duration, matchCount := field data 24 1, missRun := 0, matched := false }
    | _, _ => none
  else none

/-- A ring entry image (Table 11-11): undefined bits of the flags byte are ignored (R161). -/
def readRingEntry (image : List Byte) : RingEntry :=
  { valid := bitAt image 0 0, wrap := bitAt image 0 1, last := bitAt image 0 2
    label := byteAt image 1, duration := field image 2 2, start := instantAt image 4, loadTimer := none, stale := false }

/-- The whole 8-byte ring entry images that data holds, in order. -/
def readRingEntries (data : List Byte) : List RingEntry :=
  (List.range' 0 (data.length / 8)).map fun i => readRingEntry ((data.drop (8 * i)).take 8)

/-- R139's value check of one entry: the duration of every entry, and the start of a valid one (R161). -/
def ringEntryAccepted (now : Instant) (e : RingEntry) : Bool :=
  decide (1 ≤ e.duration) && decide (e.duration ≤ 65535)
    && (!e.valid || decide ((distance now e.start).natAbs < Config.staleAge))

/-- The settings image as written (Table 11-11). -/
def settingsOf (data : List Byte) : Settings :=
  { guardLead := field data 0 2, guardTrail := field data 2 2, txopCeiling := field data 4 2
    ovenPeriodDefault := field data 6 2, ovenPeriodMin := field data 8 2, ovenPeriodMax := field data 10 2
    ovenBurstMin := field data 12 2, ovenBurstMax := field data 14 2
    onLevel := levelAt data 16, offLevel := levelAt data 17
    ovenCapture := field data 18 2, beaconCapture := field data 20 2, beaconTail := field data 22 2
    phaseStepMax := field data 24 2, ovenLockCount := field data 26 1, beaconLockCount := field data 27 1
    missLimit := field data 28 1, noticeGap := field data 29 2 }

/-- Every setting lies in its range of Table 10-1 and the three cross-field conditions of R148 hold. -/
def Settings.consistent (c : Settings) : Bool :=
  decide (c.guardLead ≤ 2000) && decide (c.guardTrail ≤ 2000)
    && decide (256 ≤ c.txopCeiling) && decide (c.txopCeiling ≤ 8191)
    && decide (15000 ≤ c.ovenPeriodDefault) && decide (c.ovenPeriodDefault ≤ 22000)
    && decide (15000 ≤ c.ovenPeriodMin) && decide (c.ovenPeriodMin ≤ 22000)
    && decide (15000 ≤ c.ovenPeriodMax) && decide (c.ovenPeriodMax ≤ 22000)
    && decide (1000 ≤ c.ovenBurstMin) && decide (c.ovenBurstMin ≤ 15000)
    && decide (1000 ≤ c.ovenBurstMax) && decide (c.ovenBurstMax ≤ 15000)
    && decide (-95 ≤ c.onLevel) && decide (c.onLevel ≤ -30)
    && decide (-95 ≤ c.offLevel) && decide (c.offLevel ≤ -30)
    && decide (100 ≤ c.ovenCapture) && decide (c.ovenCapture ≤ 4000)
    && decide (100 ≤ c.beaconCapture) && decide (c.beaconCapture ≤ 4000)
    && decide (c.beaconTail ≤ 5000)
    && decide (16 ≤ c.phaseStepMax) && decide (c.phaseStepMax ≤ 2000)
    && decide (2 ≤ c.ovenLockCount) && decide (c.ovenLockCount ≤ 8)
    && decide (1 ≤ c.beaconLockCount) && decide (c.beaconLockCount ≤ 8)
    && decide (1 ≤ c.missLimit) && decide (c.missLimit ≤ 32)
    && decide (c.noticeGap ≤ 1000)
    && decide (c.offLevel ≤ c.onLevel)
    && decide (c.ovenPeriodMin ≤ c.ovenPeriodDefault) && decide (c.ovenPeriodDefault ≤ c.ovenPeriodMax)
    && decide (c.ovenBurstMin < c.ovenBurstMax)

/-- The record of a LOAD_SETTINGS that is accepted (R149). -/
def readSettingsImage (data : List Byte) : Option Settings :=
  if data.length = 31 ∧ (settingsOf data).consistent = true then some (settingsOf data) else none

/-- A flags or enables field that names none beyond the 14 (R153). -/
def readEventBits (data : List Byte) : Option (BitVec 14) :=
  if data.length = 2 ∧ field data 0 2 < 16384 then some (BitVec.ofNat 14 (field data 0 2)) else none

/-- The scope of a RESET_PART (R151, Table 11-10). -/
def readScope (data : List Byte) : Option ResetScope :=
  if data.length = 1 then
    match (byteAt data 0).toNat with
    | 0 => some .traffic
    | 1 => some .full
    | _ => none
  else none

/-! ### Commands of a CONTROL payload -/

/-- The whole commands of a CONTROL payload and its broken tail, empty when there is none (R160). The first argument bounds the number
of commands; each takes at least 4 bytes. -/
def splitCommands : Nat → List Byte → List Command × List Byte
  | 0, bytes => ([], bytes)
  | n + 1, bytes =>
    if bytes.length < 4 then ([], bytes)
    else if bytes.length < 4 + field bytes 2 2 then ([], bytes)
    else
      let size := field bytes 2 2
      let command : Command := { code := byteAt bytes 0, target := byteAt bytes 1, data := (bytes.drop 4).take size }
      let (rest, tail) := splitCommands n (bytes.drop (4 + size))
      (command :: rest, tail)

/-- The commands and the broken tail of a CONTROL payload. -/
def readCommands (payload : List Byte) : List Command × List Byte := splitCommands (payload.length / 4 + 1) payload

end Sys2Proof.Machine
end

