-- ==== Sys2Proof/Machine/Images.lean ====
section
/-! DEFINITION. The payloads that the part sends and the record images that its commands return (sections 11.3 to 11.6). -/

namespace Sys2Proof.Machine

/-! ### Code values (Table 11-12) -/

/-- TXDONE result codes. -/
def DoneResult.code : DoneResult → Nat
  | .deliveredAll => 0
  | .deliveredPart => 1
  | .notDelivered => 2
  | .drained => 3
  | .refusedFormat => 16
  | .refusedQueue => 17
  | .refusedFull => 18
  | .refusedRate => 19
  | .refusedStore => 20

/-- Per-ordinal result codes (Table 11-9). -/
def OrdinalResult.code : OrdinalResult → Nat
  | .notSent => 0
  | .delivered => 1
  | .dropped => 2

/-- Queue state codes. -/
def QueueState.code : QueueState → Nat
  | .closed => 0
  | .opened => 1
  | .paused => 2
  | .draining => 3

/-- Release mode codes. -/
def ReleaseMode.code : ReleaseMode → Nat
  | .gated => 0
  | .fresh => 1
  | .ungated => 2

/-- Report mode codes. -/
def ReportMode.code : ReportMode → Nat
  | .summary => 0
  | .detailed => 1

/-- Owner codes. -/
def Owner.code : Owner → Nat
  | .learn => 0
  | .host => 1

/-- Source state codes; 0 stands for FREE. -/
def SourceState.code : SourceState → Nat
  | .acquiring => 1
  | .locked => 2
  | .coasting => 3

/-- Release kind codes. -/
def ReleaseKind.code : ReleaseKind → Nat
  | .fitting => 0
  | .forced => 1
  | .ungated => 2

/-- Stop reason codes; 0 when the ring has not stopped (section 11.6). -/
def stopReasonCode : Option StopReason → Nat
  | none => 0
  | some .command => 1
  | some .last => 2
  | some .invalid => 3

/-- Window status codes. -/
def WindowStatus.code : WindowStatus → Nat
  | .closedRadio => 0
  | .blocked => 1
  | .opened => 2
  | .saturated => 3

/-- Radio state codes. -/
def Radio.code : Radio → Nat
  | .down => 0
  | .onChannel _ => 1
  | .away => 2

/-- Result codes (section 11.5). -/
def Result.code : Result → Nat
  | .ok => 0
  | .badOp => 1
  | .badTarget => 2
  | .badValue => 3
  | .busy => 4
  | .truncated => 5

/-- STARTED scope codes (section 11.4). -/
def StartedScope.code : StartedScope → Nat
  | .powerOn => 0
  | .full => 1

/-! ### North link payloads -/

/-- A TXDONE payload (Table 11-9). -/
def TxDone.payload (r : TxDone) : List Byte :=
  toBytes 2 r.tag.toNat ++ [r.queue] ++ toBytes 1 r.result.code ++ toBytes 1 r.count ++ toBytes 1 r.delivered
    ++ toBytes 1 r.dropped ++ toBytes 1 r.releases
    ++ toBytes 1 (bit 0 r.forced + bit 1 r.firstRelease.isSome + bit 2 r.ordinals.isSome)
    ++ instantBytes r.arrival ++ optInstantBytes r.firstRelease ++ instantBytes r.completion
    ++ (r.ordinals.getD []).map fun o => BitVec.ofNat 8 o.code

/-- A result entry of a RESPONSE (section 11.5). -/
def ResultEntry.bytes (e : ResultEntry) : List Byte :=
  [e.code] ++ toBytes 1 e.result.code ++ toBytes 2 e.data.length ++ e.data

/-- A RESPONSE payload: its result entries in list order. -/
def responsePayload (results : List ResultEntry) : List Byte := results.flatMap ResultEntry.bytes

/-- A NOTICE payload (section 11.4). -/
def noticePayload (e : Events) (lastDropped : Option (BitVec 16)) : List Byte :=
  toBytes 2 e.flags.toNat ++ toBytes 2 e.enables.toNat ++ toBytes 1 (bit 0 lastDropped.isSome)
    ++ toBytes 2 ((lastDropped.map BitVec.toNat).getD 0)

/-- A STARTED payload: part code 640, revision 1 and the scope (R157). -/
def startedPayload (scope : StartedScope) : List Byte := toBytes 2 640 ++ toBytes 1 1 ++ toBytes 1 scope.code

/-! ### South link payloads -/

/-- A release record (Table 11-3); `lengths` gives each ordinal's length. -/
def ReleaseRecord.bytes (r : ReleaseRecord) (lengths : Nat → Nat) : List Byte :=
  [r.id] ++ toBytes 1 r.queue.val ++ toBytes 2 r.tag.toNat ++ toBytes 1 r.rate.val
    ++ toBytes 1 (bit 0 (r.kind == .forced) + bit 1 (r.kind == .ungated) + bit 2 r.latest.isSome + bit 3 r.windowEnd.isSome)
    ++ toBytes 1 r.ordinals.length
    ++ instantBytes r.earliest ++ optInstantBytes r.latest ++ optInstantBytes r.windowEnd ++ toBytes 2 r.airtime
    ++ r.ordinals.flatMap fun o => toBytes 1 o ++ toBytes 2 (lengths o)

/-- A subframe of a TXDATA payload: its delimiter, its body and the zero bytes that bring the body to a multiple of 4 (section 11.3.1). -/
def subframeBytes (ordinal : Nat) (body : List Byte) : List Byte :=
  toBytes 1 ordinal ++ [0] ++ toBytes 2 body.length ++ body ++ List.replicate ((4 - body.length % 4) % 4) 0

/-- A CANCEL payload (Table 11-4). -/
def CancelRecord.payload (c : CancelRecord) : List Byte :=
  [c.id] ++ toBytes 1 c.queue.val ++ toBytes 2 c.tag.toNat ++ instantBytes c.placed

/-! ### Record images -/

/-- A queue configuration image (10 bytes). -/
def configImage (c : QueueConfig) : List Byte :=
  toBytes 1 c.priority ++ toBytes 2 c.depth ++ toBytes 2 c.hold ++ toBytes 2 c.ack ++ toBytes 1 c.retry
    ++ toBytes 1 c.mode.code ++ toBytes 1 c.report.code

/-- How many entries of a descriptor are in a state. -/
def Descriptor.countOf (d : Descriptor) (st : SubState) : Nat := (d.subframes.filter fun e => e.state == st).length

/-- The head summary of a queue image (R45): 16 bytes, all 0 when the queue is empty. -/
def headSummary (q : Queue) : List Byte :=
  match q.descriptors.head? with
  | none => List.replicate 16 0
  | some d =>
    toBytes 1 (bit 0 true + bit 1 d.aged + bit 2 d.waited + bit 3 d.outstanding.isSome + bit 4 q.aging.isSome)
      ++ toBytes 2 d.tag.toNat ++ instantBytes d.arrival
      ++ toBytes 1 (d.countOf .pending) ++ toBytes 1 (d.countOf .out) ++ toBytes 1 (d.countOf .delivered)
      ++ toBytes 1 (d.countOf .dropped)
      ++ [d.outstanding.getD 0] ++ optInstantBytes q.aging

/-- A queue image (31 bytes). -/
def queueImage (q : Queue) : List Byte :=
  toBytes 1 q.state.code ++ configImage q.config ++ toBytes 2 q.descriptors.length
    ++ toBytes 1 (bit 0 q.refusedFlag + bit 1 q.forcedFlag + bit 2 q.droppedFlag) ++ toBytes 1 (bit 0 q.request)
    ++ headSummary q

/-- What READ_RATE returns: validity and the rate image (7 bytes). -/
def rateImage : Option Rate → List Byte
  | none => List.replicate 7 0
  | some r => toBytes 1 1 ++ toBytes 1 r.preamble ++ toBytes 2 r.symbol ++ toBytes 2 r.bits ++ toBytes 1 r.fixedBits

/-- The check time of an entry: S plus its capture (R114). -/
def Source.checkTime (c : Settings) (e : Source) : Instant := plus e.start (captureOf c e.kind)

/-- The kind's fields of a source image: span or channel, and BSS tag. -/
def sourceKindBytes : SourceKind → List Byte
  | .oven low high => toBytes 1 low ++ toBytes 1 high ++ toBytes 6 0
  | .beacon channel tag => toBytes 1 channel ++ toBytes 1 0 ++ toBytes 6 tag.toNat

/-- The code of a source kind. -/
def SourceKind.code : SourceKind → Nat
  | .oven _ _ => 0
  | .beacon _ _ => 1

/-- A source image (31 bytes); a FREE slot shows its state and owner only. -/
def sourceImage (c : Settings) (i : Fin 16) (s : Slot) : List Byte :=
  match s.entry with
  | none => toBytes 1 i.val ++ toBytes 1 0 ++ toBytes 1 s.owner.code ++ toBytes 1 0 ++ List.replicate 27 0
  | some e =>
    toBytes 1 i.val ++ toBytes 1 e.kind.code ++ toBytes 1 s.owner.code ++ toBytes 1 e.state.code
      ++ toBytes 1 (bit 0 e.matched) ++ instantBytes e.start ++ toBytes 4 e.period ++ toBytes 4 e.duration
      ++ sourceKindBytes e.kind ++ toBytes 1 e.matchCount ++ toBytes 1 e.missRun ++ instantBytes (e.checkTime c)

/-- A ring entry image (8 bytes). -/
def ringEntryImage (e : RingEntry) : List Byte :=
  toBytes 1 (bit 0 e.valid + bit 1 e.wrap + bit 2 e.last) ++ [e.label] ++ toBytes 2 e.duration ++ instantBytes e.start

/-- The ring image (262 bytes). -/
def ringImage (r : Ring) : List Byte :=
  toBytes 1 (bit 0 r.running) ++ toBytes 1 r.startIndex.val ++ toBytes 1 r.current.val ++ toBytes 1 (stopReasonCode r.reason)
    ++ toBytes 1 (bit 0 r.lastLabel.isSome) ++ [r.lastLabel.getD 0] ++ r.entries.toList.flatMap ringEntryImage

/-- The survey as READ_SURVEY returns it (112 bytes), channel 1 first. -/
def surveyImage (d : Detector) : List Byte := d.survey.toList.flatMap fun e => toBytes 4 e.listen ++ toBytes 4 e.busy

/-- The settings image (31 bytes). -/
def settingsImage (c : Settings) : List Byte :=
  toBytes 2 c.guardLead ++ toBytes 2 c.guardTrail ++ toBytes 2 c.txopCeiling
    ++ toBytes 2 c.ovenPeriodDefault ++ toBytes 2 c.ovenPeriodMin ++ toBytes 2 c.ovenPeriodMax
    ++ toBytes 2 c.ovenBurstMin ++ toBytes 2 c.ovenBurstMax
    ++ [BitVec.ofInt 8 c.onLevel, BitVec.ofInt 8 c.offLevel]
    ++ toBytes 2 c.ovenCapture ++ toBytes 2 c.beaconCapture ++ toBytes 2 c.beaconTail ++ toBytes 2 c.phaseStepMax
    ++ toBytes 1 c.ovenLockCount ++ toBytes 1 c.beaconLockCount ++ toBytes 1 c.missLimit ++ toBytes 2 c.noticeGap

/-- An outstanding entry image (29 bytes). -/
def outstandingImage (e : Outstanding) : List Byte :=
  [e.id] ++ toBytes 1 e.queue.val ++ toBytes 2 e.descriptor.toNat ++ toBytes 1 e.kind.code
    ++ toBytes 1 (bit 0 e.cancelledSent + bit 1 e.latest.isSome + bit 2 e.windowEnd.isSome + bit 3 e.stale)
    ++ toBytes 1 e.ordinals.length
    ++ instantBytes e.earliest ++ optInstantBytes e.latest ++ optInstantBytes e.windowEnd ++ toBytes 2 e.airtime
    ++ instantBytes e.stamp ++ toBytes 4 (e.ordinals.map fun o => 2 ^ o).sum

/-- The outstanding entry image at a place of the table, 0 bytes for an unused place. -/
def outstandingPlace (table : List Outstanding) (i : Nat) : List Byte :=
  match table[i]? with
  | some e => outstandingImage e
  | none => List.replicate 29 0

/-- The free TXDONE slots: 1280 minus the reserved and the filled slots (R11). -/
def DoneFifo.free (f : DoneFifo) : Nat := Config.txdoneSlots - f.reserved - f.filled.length

/-- The channel byte of a snapshot: the channel, the last channel for AWAY, 0 for DOWN (section 11.6). -/
def snapshotChannel (s : SouthLink) : Nat :=
  match s.radio with
  | .down => 0
  | .onChannel n => n
  | .away => s.lastChannel.getD 0

/-- The request map as a number, bit q for queue q (R49). -/
def requestMap (s : State) : Nat := (allQueues.map fun q => bit q.val s.queues[q].request).sum

/-- The snapshot image (110 bytes; R150). -/
def snapshotImage (s : State) : List Byte :=
  instantBytes s.clock.now ++ toBytes 1 s.window.status.code
    ++ toBytes 1 (bit 0 s.window.clear.isSome + bit 1 s.window.horizon.isSome + bit 2 s.gate.committed.isSome
        + bit 3 s.engine.lastDropped.isSome)
    ++ optInstantBytes s.window.clear ++ optInstantBytes s.window.horizon ++ optInstantBytes s.gate.committed
    ++ toBytes 1 s.south.radio.code ++ toBytes 1 (snapshotChannel s.south)
    ++ toBytes 1 s.gate.table.length ++ outstandingPlace s.gate.table 0 ++ outstandingPlace s.gate.table 1
    ++ toBytes 2 (requestMap s) ++ allQueues.flatMap (fun q => toBytes 1 s.queues[q].state.code)
    ++ toBytes 2 s.store.freeCells.length ++ toBytes 2 s.store.freeDescriptors.length ++ toBytes 2 s.fifo.free
    ++ toBytes 2 s.events.flags.toNat ++ toBytes 2 s.events.enables.toNat
    ++ toBytes 1 (bit 0 s.ring.running) ++ toBytes 2 ((s.engine.lastDropped.map BitVec.toNat).getD 0)

end Sys2Proof.Machine
end

