-- ==== Sys2Proof/Machine/Flags.lean ====
section
/-! DEFINITION. The event block: setting and clearing event flags, ATTN, and NOTICE (sections 10.7 and 10.8). -/

namespace Sys2Proof.Machine

/-- The 14 event flags, in the order of Table 10-2. -/
inductive EventFlag where
  | sourceLocked
  | sourceLost
  | sourceTableFull
  | channelSaturated
  | frameForced
  | frameRefused
  | subframeDropped
  | controlOverrun
  | linkError
  | rxDropped
  | ringStopped
  | drainDone
  | strayStatus
  | radioLost
deriving DecidableEq, Repr

/-- The bit of a flag in a flags or enables field (section 11.4). -/
def EventFlag.index : EventFlag → Nat
  | .sourceLocked => 0
  | .sourceLost => 1
  | .sourceTableFull => 2
  | .channelSaturated => 3
  | .frameForced => 4
  | .frameRefused => 5
  | .subframeDropped => 6
  | .controlOverrun => 7
  | .linkError => 8
  | .rxDropped => 9
  | .ringStopped => 10
  | .drainDone => 11
  | .strayStatus => 12
  | .radioLost => 13

/-- A flag's field with only its bit set. -/
def EventFlag.mask (f : EventFlag) : BitVec 14 := BitVec.twoPow 14 f.index

/-- The flag is set. -/
def State.flag (s : State) (f : EventFlag) : Bool := s.events.flags.getLsbD f.index

/-- At least one flag is set whose enable is set (R154). -/
def Events.attention (e : Events) : Bool := e.flags &&& e.enables != 0

/-- ATTN follows the flags and enables (R154). -/
def Events.withAttn (e : Events) : Events := { e with attn := e.attention }

/-- A NOTICE waits whose content is not yet fixed: queued, or abandoned and to be sent again (R155). -/
def NorthLink.noticeWaits (n : NorthLink) : Bool := n.status.contains .notice || n.resend == some (.status .notice)

/-- A NOTICE is being sent. -/
def NorthLink.noticeSending (n : NorthLink) : Bool :=
  match n.sending with
  | some t => t.item == .status .notice
  | none => false

/-- A due NOTICE is queued when the pacing timer is not running and no NOTICE is still to be sent whole (R155, R156); DESIGN CHOICE: one
being sent counts as still to be sent (notes/assumptions/12.md). Queueing arms the timer, and a gap of 0 expires at once. -/
def State.queueNotice (s : State) : State :=
  if s.events.noticeDue && s.events.pacing.isNone && !s.north.noticeWaits && !s.north.noticeSending then
    { s with
      north := { s.north with status := s.north.status ++ [.notice] }
      events :=
        { s.events with
          noticeDue := false
          lastNotice := some s.clock.now
          pacing :=
            if s.engine.settings.noticeGap = 0 then none
            else some (plus s.clock.now (s.engine.settings.noticeGap * 1000)) } }
  else s

/-- A flag is set (R152). When it goes from clear to set, ATTN follows (R154), and with its enable set it joins the waiting NOTICE or makes
one due (R155). -/
def State.setFlag (s : State) (f : EventFlag) : State :=
  if s.flag f then s
  else
    let s' := { s with events := ({ s.events with flags := s.events.flags ||| f.mask } : Events).withAttn }
    if s.events.enables.getLsbD f.index && !s.north.noticeWaits then
      State.queueNotice { s' with events := { s'.events with noticeDue := true } }
    else s'

/-- Flags set one after another. -/
def State.setFlags (s : State) (fs : List EventFlag) : State := fs.foldl State.setFlag s

/-- A flag is set when a condition holds. -/
def State.setFlagIf (s : State) (c : Bool) (f : EventFlag) : State := if c then s.setFlag f else s

/-- The flags that a mask names are cleared, and ATTN follows (R153, R154). A NOTICE that is due and not yet queued stays due, whichever flags are cleared
(DESIGN CHOICE, unsafe, notes/assumptions/33.md). -/
def State.clearFlags (s : State) (mask : BitVec 14) : State :=
  { s with events := ({ s.events with flags := s.events.flags &&& ~~~mask } : Events).withAttn }

/-- The enables are written together, and ATTN follows; no NOTICE becomes due (R153, R154), and one that is due stays due (DESIGN CHOICE, unsafe,
notes/assumptions/33.md). -/
def State.writeEnables (s : State) (enables : BitVec 14) : State :=
  { s with events := ({ s.events with enables } : Events).withAttn }

end Sys2Proof.Machine
end

