-- ==== Sys2Proof/Machine/Ops.lean ====
section
/-! DEFINITION. The shared operations over the cells' memory, the free lists, the TXDONE FIFO, the queue records and the tables. -/

namespace Sys2Proof.Machine

/-- The outcome of a step of the part. -/
abbrev Out := Host.Outcome State Fault Refusal

/-- An event of the part. While the part is held in reset no event has an effect (R162); otherwise the event takes the state given. -/
def State.live (s : State) (event : State → State) : Out := .next (if s.inReset then s else event s)

/-! ### The cells' memory -/

/-- What a byte of a cell that nothing has written reads as. DESIGN CHOICE, unsafe (notes/assumptions/3.md): the manual gives the cells no
power-on contents, and no event of the part reads a byte of a cell that no admission has written. -/
def unwrittenByte : Byte := 0

/-- The byte at an address. -/
def Memory.read : Memory → Nat → Byte
  | [], _ => unwrittenByte
  | (k, b) :: rest, a => if a = k then b else Memory.read rest a

/-- A byte written at an address; the canonical form is kept. -/
def Memory.write : Memory → Nat → Byte → Memory
  | [], a, b => if b = unwrittenByte then [] else [(a, b)]
  | (k, v) :: rest, a, b =>
    if a < k then (if b = unwrittenByte then (k, v) :: rest else (a, b) :: (k, v) :: rest)
    else if a = k then (if b = unwrittenByte then rest else (a, b) :: rest)
    else (k, v) :: Memory.write rest a b

/-- Addresses rise strictly from `low` on, and no entry holds the unwritten byte. -/
def Memory.wfFrom : Nat → Memory → Bool
  | _, [] => true
  | low, (k, v) :: rest => decide (low ≤ k) && v != unwrittenByte && Memory.wfFrom (k + 1) rest

/-- The canonical form of the cells' memory. -/
def Memory.wf (m : Memory) : Bool := Memory.wfFrom 0 m

/-- Bytes written at successive addresses. -/
def Memory.writeRun : Memory → Nat → List Byte → Memory
  | m, _, [] => m
  | m, a, b :: rest => Memory.writeRun (m.write a b) (a + 1) rest

/-- The address of a cell's first byte. -/
def cellAddress (c : BitVec 12) : Nat := c.toNat * Config.cellBytes

/-- Subframe bodies placed end to end in the cells of a chain (R20). -/
def storeBodies : Memory → List (BitVec 12) → List Byte → Memory
  | m, [], _ => m
  | m, c :: chain, bytes =>
    storeBodies (m.writeRun (cellAddress c) (bytes.take Config.cellBytes)) chain (bytes.drop Config.cellBytes)

/-- The 128 bytes of a cell. -/
def readCell (m : Memory) (c : BitVec 12) : List Byte :=
  (List.range' (cellAddress c) Config.cellBytes).map m.read

/-! ### Cell chains -/

/-- The next cell that a held cell records (R20). -/
def nextOf (links : List (BitVec 12 × BitVec 12)) (c : BitVec 12) : Option (BitVec 12) :=
  (links.find? fun p => p.1 == c).map Prod.snd

/-- The chain of `n` cells from a first cell, following the recorded next cells. -/
def chainFrom (links : List (BitVec 12 × BitVec 12)) : Nat → BitVec 12 → List (BitVec 12)
  | 0, _ => []
  | n + 1, c =>
    match nextOf links c with
    | some c' => c :: chainFrom links n c'
    | none => [c]

/-- The cell chain of a descriptor. -/
def FrameStore.chain (f : FrameStore) (d : Descriptor) : List (BitVec 12) := chainFrom f.nextCell d.cellCount d.firstCell

/-- The lengths of a descriptor's subframes, by ordinal. -/
def Descriptor.lengthOf (d : Descriptor) (ordinal : Nat) : Nat :=
  ((d.subframes.find? fun e => e.ordinal == ordinal).map Subframe.length).getD 0

/-- The offset of an ordinal's body in the chain: the sum of the lengths of the lower ordinals (R20). -/
def Descriptor.offsetOf (d : Descriptor) (ordinal : Nat) : Nat :=
  ((d.subframes.filter fun e => decide (e.ordinal < ordinal)).map Subframe.length).sum

/-- The body of an ordinal, read from the descriptor's cells. -/
def FrameStore.body (f : FrameStore) (d : Descriptor) (ordinal : Nat) : List Byte :=
  (((f.chain d).flatMap (readCell f.memory)).drop (d.offsetOf ordinal)).take (d.lengthOf ordinal)

/-- The cells that a bundle needs: L rounded up to a multiple of 128, divided by 128 (R20). -/
def cellsNeeded (lengths : List Nat) : Nat := ceilDiv lengths.sum Config.cellBytes

/-! ### The TXDONE FIFO (R11) -/

/-- A free slot is reserved. -/
def DoneFifo.reserve (f : DoneFifo) : DoneFifo := { f with reserved := f.reserved + 1 }

/-- A reservation is cancelled. -/
def DoneFifo.cancel (f : DoneFifo) : DoneFifo := { f with reserved := f.reserved - 1 }

/-- A reserved slot is filled; the record joins the tail of the filled order. -/
def DoneFifo.fill (f : DoneFifo) (r : TxDone) : DoneFifo := { reserved := f.reserved - 1, filled := f.filled ++ [r] }

/-- The oldest filled slot becomes free. -/
def DoneFifo.sent (f : DoneFifo) : DoneFifo := { f with filled := f.filled.tail }

/-! ### Queue records -/

/-- A queue's record. -/
def State.queue (s : State) (q : Fin 16) : Queue := s.queues[q]

/-- A queue's record replaced. -/
def State.setQueue (s : State) (q : Fin 16) (x : Queue) : State := { s with queues := s.queues.set q x }

/-- A queue's record changed. -/
def State.modQueue (s : State) (q : Fin 16) (f : Queue → Queue) : State := s.setQueue q (f (s.queue q))

/-- The head of a queue (R38). -/
def Queue.head (x : Queue) : Option Descriptor := x.descriptors.head?

/-- The head descriptor changed in place. -/
def Queue.modHead (x : Queue) (f : Descriptor → Descriptor) : Queue :=
  match x.descriptors with
  | [] => x
  | d :: rest => { x with descriptors := f d :: rest }

/-- The aging timer armed for now + hold limit × 1000 µs when the queue is OPEN and has a head, and cancelled otherwise: what R46 says of
the head that an admission to an empty queue, a completion of the head or a resume leaves. -/
def Queue.startAging (x : Queue) (now : Instant) : Queue :=
  { x with
    aging := if x.state == .opened && !x.descriptors.isEmpty then some (plus now (x.config.hold * 1000)) else none }

/-- An operation on each queue of a list, in order. -/
def State.forQueues (s : State) (qs : List (Fin 16)) (f : State → Fin 16 → State) : State := qs.foldl f s

/-! ### Source slots, ring entries, survey entries and rates -/

/-- A slot of the source table. -/
def State.slot (s : State) (i : Fin 16) : Slot := s.sources.slots[i]

/-- A slot replaced. -/
def State.setSlot (s : State) (i : Fin 16) (x : Slot) : State :=
  { s with sources := { s.sources with slots := s.sources.slots.set i x } }

/-- An entry of the reservation ring. -/
def Ring.entry (r : Ring) (i : Fin 32) : RingEntry := r.entries[i]

/-- An entry of the reservation ring replaced. -/
def Ring.setEntry (r : Ring) (i : Fin 32) (e : RingEntry) : Ring := { r with entries := r.entries.set i e }

/-- The rate entry at an index. -/
def State.rate (s : State) (i : Fin 64) : Option Rate := s.gate.rates[i]

/-- The settings record. -/
abbrev State.settings (s : State) : Settings := s.engine.settings

/-- The air clock. -/
abbrev State.now (s : State) : Instant := s.clock.now

/-- A settings record's busy-set widths and the rest are read through the engine's record; this replaces it whole (R149). -/
def State.withSettings (s : State) (c : Settings) : State := { s with engine := { s.engine with settings := c } }

end Sys2Proof.Machine
end

