-- ==== Sys2Proof/Machine/Window.lean ====
section
/-! DEFINITION. The window unit's busy intervals and its walk (sections 4.2 and 4.3). -/

namespace Sys2Proof.Machine

/-! ### Source entries (R53, R54) -/

/-- An entry applies to the current channel: the radio is ON_CHANNEL(n), and n is in its span or is its channel (R53, R119). -/
def SourceKind.appliesTo (radio : Radio) (kind : SourceKind) : Bool :=
  match radio with
  | .onChannel n =>
    match kind with
    | .oven low high => decide (low ≤ n) && decide (n ≤ high)
    | .beacon channel _ => channel == n
  | _ => false

/-- LOCKED or COASTING: the states that take part in a search. -/
def SourceState.busy : SourceState → Bool
  | .acquiring => false
  | .locked => true
  | .coasting => true

/-- An entry is applicable to a search (R53). -/
def Source.applicable (radio : Radio) (e : Source) : Bool := e.state.busy && e.kind.appliesTo radio

/-- The applicable entries of the source table. -/
def State.applicable (s : State) : List Source :=
  s.sources.slots.toList.filterMap fun x => x.entry.filter (Source.applicable s.south.radio)

/-- The phase of an instant u against an entry: (d + lead) modulo P, non-negative (R54 step 2). -/
def Source.phase (c : Settings) (e : Source) (u : Instant) : Nat :=
  ((distance e.start u + c.guardLead) % (e.period : Int)).toNat

/-- The guarded length G = lead + D + trail (R54). -/
def Source.guarded (c : Settings) (e : Source) : Nat := c.guardLead + e.duration + c.guardTrail

/-- When u is inside an interval of the entry, how many µs remain to its end, G − r (R54 step 3). -/
def Source.inside (c : Settings) (e : Source) (u : Instant) : Option Nat :=
  if e.phase c u < e.guarded c then some (e.guarded c - e.phase c u) else none

/-- When u is not inside, how many µs remain to the next busy start, P − r (R54 step 4). -/
def Source.nextStart (c : Settings) (e : Source) (u : Instant) : Nat := e.period - e.phase c u

/-! ### The reservation ring (R55) -/

/-- The end of a reserved interval, start + duration (R135). -/
def RingEntry.stop (e : RingEntry) : Instant := plus e.start e.duration

/-- The current entry, while the ring is RUNNING. -/
def Ring.active (r : Ring) : Option RingEntry := if r.running then some (r.entry r.current) else none

/-- When u is inside the current entry's interval, how many µs remain to its end. -/
def Ring.inside (r : Ring) (u : Instant) : Option Nat :=
  match r.active with
  | some e => if atOrBefore e.start u && before u e.stop then some (e.stop - u).toNat else none
  | none => none

/-- When the current entry's start is after u, how many µs remain to it. -/
def Ring.nextStart (r : Ring) (u : Instant) : Option Nat :=
  match r.active with
  | some e => if before u e.start then some (e.start - u).toNat else none
  | none => none

/-! ### The walk (R57, R58) and the horizon (R59) -/

/-- How far the walk moves from u: to the latest of the ends of the intervals that contain it; 0 when none does (R57). -/
def State.move (s : State) (u : Instant) : Nat :=
  (((s.applicable.filterMap fun e => e.inside s.settings u) ++ (s.ring.inside u).toList).foldl max 0)

/-- How a walk ends: at a clear instant, or saturated at a stopping instant, `n` µs after the search start. -/
inductive Walk where
  | clear (n : Nat)
  | saturated (n : Nat)
deriving DecidableEq, Repr

/-- The walk from n µs after the search start. The first argument bounds the number of steps; every move is by at least 1 µs, so 32 769 steps
always suffice. -/
def State.walk (s : State) (u₀ : Instant) : Nat → Nat → Walk
  | 0, n => .saturated n
  | fuel + 1, n =>
    let m := s.move (plus u₀ n)
    if m = 0 then .clear n
    else if Config.searchSpan < n + m then .saturated (n + m)
    else State.walk s u₀ fuel (n + m)

/-- The search start, and the release start of the release gate: the later of now and committed-until (R57, R73). -/
def State.releaseStart (s : State) : Instant :=
  match s.gate.committed with
  | some t => later s.now t
  | none => s.now

/-- The horizon of a clear instant: the earliest of the next busy starts and the txop ceiling (R59). -/
def State.horizonFrom (s : State) (c : Instant) : Instant :=
  plus c ((((s.applicable.map fun e => e.nextStart s.settings c) ++ (s.ring.nextStart c).toList).foldl min
    s.settings.txopCeiling))

/-- The result of a search made now while the radio is ON_CHANNEL (R57 to R61): status, saturation state, result and timer. -/
def State.searchResult (s : State) : Window :=
  let u₀ := s.releaseStart
  match s.walk u₀ (Config.searchSpan + 1) 0 with
  | .clear n =>
    let c := plus u₀ n
    let h := s.horizonFrom c
    if n = 0 then { status := .opened, saturated := false, clear := some c, horizon := some h, stop := none, timer := some h }
    else { status := .blocked, saturated := false, clear := some c, horizon := some h, stop := none, timer := some c }
  | .saturated n =>
    let f := plus u₀ n
    { status := .saturated, saturated := true, clear := none, horizon := none, stop := some f
      timer := some (minus f Config.searchSpan) }

/-- A search made now is a window-opened event by its result: OPEN after BLOCKED, or a clear instant found while the saturation state is
set (R62). -/
def Window.opensAfter (new old : Window) : Bool :=
  (new.status == .opened && old.status == .blocked) || (new.clear.isSome && old.saturated)

/-- The ring check: a reservation covers u (R67). -/
def State.reserved (s : State) (u : Instant) : Bool := (s.ring.inside u).isSome

/-! ### Whether a span meets busy time (R66) -/

/-- The span [a, b) meets an interval of a source entry. -/
def Source.meets (c : Settings) (e : Source) (a b : Instant) : Bool :=
  (e.inside c a).isSome || before (plus a (e.nextStart c a)) b

/-- The span [a, b) meets a ring entry. -/
def RingEntry.meets (e : RingEntry) (a b : Instant) : Bool := before e.start b && before a e.stop

end Sys2Proof.Machine
end

