-- ==== Sys2Proof/Machine/Gate.lean ====
section
/-! DEFINITION. The release gate and the arbiter: airtime (5.2), judging a head (5.3), requests (3.6), the search event (4.3, 4.4), busy-set
additions and CANCEL (4.6, 6.4), the release decision (5.4) and the arbiter's choice (3.7). -/

namespace Sys2Proof.Machine

/-! ### Airtime (R71, R72) -/

/-- The cost of a subframe in bits: its length padded to a multiple of 4, plus the 4-byte delimiter (R71). -/
def subframeCost (length : Nat) : Nat := 8 * (ceilDiv length 4 * 4 + 4)

/-- The airtime in µs of subframes of the given lengths (R71). -/
def airtime (r : Rate) (lengths : List Nat) : Nat :=
  let bits := (lengths.map subframeCost).sum + r.fixedBits
  let ns := r.preamble * 1000 + ceilDiv bits r.bits * r.symbol
  saturate Config.airtimeMax (ceilDiv ns 1000)

/-- The pending prefix of a descriptor: its PENDING entries in ordinal order (R22). -/
def Descriptor.pendingEntries (d : Descriptor) : List Subframe := d.subframes.filter fun e => e.state == .pending

/-- Airtime(k) of a head at a rate (R71). -/
def Descriptor.airtime (d : Descriptor) (r : Rate) (k : Nat) : Nat :=
  Machine.airtime r ((d.pendingEntries.take k).map Subframe.length)

/-- Required(k): airtime plus the queue's ack allowance (R72). -/
def Descriptor.required (d : Descriptor) (r : Rate) (ack k : Nat) : Nat := d.airtime r k + ack

/-- The largest k, at most n, with Required(k) ≤ W; 0 when there is none from 1 up (R74). -/
def Descriptor.largestFit (d : Descriptor) (r : Rate) (ack W : Nat) : Nat → Nat
  | 0 => 0
  | n + 1 => if d.required r ack (n + 1) ≤ W then n + 1 else Descriptor.largestFit d r ack W n

/-! ### Judging a head (R73 to R77) -/

/-- How a head is released: the kind of release and how many subframes of the pending prefix it carries. -/
structure Verdict where
  kind : ReleaseKind
  count : Nat
deriving DecidableEq, Repr

/-- The window length W = H − u when u is clear for gated service (R73). -/
def State.windowLength (s : State) : Option Nat :=
  match s.window.status, s.window.horizon with
  | .opened, some h => if before s.releaseStart h then some (h - s.releaseStart).toNat else none
  | _, _ => none

/-- The judgement of a GATED or FRESH head at a clear u (R74, R75). -/
def judgeGated (x : Queue) (d : Descriptor) (r : Rate) (W : Nat) : Option Verdict :=
  if d.required r x.config.ack 1 ≤ W then
    if d.aged || x.config.mode == .gated || d.waited then
      some { kind := .fitting, count := d.largestFit r x.config.ack W d.pendingEntries.length }
    else none
  else if d.aged then some { kind := .forced, count := 1 }
  else none

/-- The judgement of a head as an UNGATED one (R76). -/
def State.judgeUngated (s : State) (d : Descriptor) : Option Verdict :=
  if s.reserved s.releaseStart then none else some { kind := .ungated, count := d.pendingEntries.length }

/-- The judgement of a head under its queue's mode and the latest search result (Table 5-3). -/
def State.judge (s : State) (x : Queue) (d : Descriptor) (r : Rate) : Option Verdict :=
  match s.window.status with
  | .closedRadio => none
  | .saturated => s.judgeUngated d
  | .blocked => if x.config.mode == .ungated then s.judgeUngated d else none
  | .opened =>
    if x.config.mode == .ungated then s.judgeUngated d
    else
      match s.windowLength with
      | some W => judgeGated x d r W
      | none => none

/-- The radio is ON_CHANNEL. -/
def Radio.isOn : Radio → Bool
  | .onChannel _ => true
  | _ => false

/-- A queue's head with its rate and its judgement, when all of R49's conditions hold: the queue is OPEN with a head that is not
outstanding and holds a PENDING subframe, the radio is ON_CHANNEL, and the head is releasable. -/
def State.offer (s : State) (q : Fin 16) : Option (Descriptor × Rate × Verdict) :=
  let x := s.queue q
  match x.head with
  | none => none
  | some d =>
    match s.rate d.rate with
    | none => none
    | some r =>
      if x.state == .opened && d.outstanding.isNone && s.south.radio.isOn && !d.pendingEntries.isEmpty then
        (s.judge x d r).map fun v => (d, r, v)
      else none

/-- A queue's request is re-evaluated (R49, R77). -/
def State.reevaluate (s : State) (q : Fin 16) : State :=
  s.modQueue q fun x => { x with request := (s.offer q).isSome }

/-- Every queue's request is re-evaluated (R60, R69). -/
def State.reevaluateAll (s : State) : State := s.forQueues allQueues State.reevaluate

/-! ### The search event (R56, R60 to R64) -/

/-- The waited flag of the head of an OPEN queue is set (R48). -/
def Queue.markWaited (x : Queue) : Queue :=
  if x.state == .opened then x.modHead fun d => { d with waited := true } else x

/-- A window-opened event marks the head of every OPEN queue (R48). -/
def State.windowOpened (s : State) : State :=
  s.forQueues allQueues fun s q => s.modQueue q Queue.markWaited

/-- The window unit's event: outside ON_CHANNEL it is CLOSED_RADIO (R56); otherwise it makes a new search (R63), sets CHANNEL_SATURATED on the
transition into saturation (R58) and, when the search is a window-opened event by its result or by `opened` (R62), marks the heads
before the requests are re-evaluated (R60). -/
def State.search (s : State) (opened : Bool) : State :=
  if s.south.radio.isOn then
    let w := s.searchResult
    let old := s.window
    let s₁ := { s with window := w }
    let s₂ := s₁.setFlagIf (w.saturated && !old.saturated) .channelSaturated
    let s₃ := if opened || w.opensAfter old then s₂.windowOpened else s₂
    s₃.reevaluateAll
  else State.reevaluateAll { s with window := Window.powerOn }

/-! ### Busy-set additions and CANCEL (R65, R94, R95) -/

/-- A busy-set addition (R65). -/
inductive Addition where
  | source (i : Fin 16)
  | ring
  | whole
deriving DecidableEq, Repr

/-- The slot's entry as it stands, when it takes part in a search. -/
def State.applicableSlot (s : State) (i : Fin 16) : Option Source :=
  (s.slot i).entry.filter (Source.applicable s.south.radio)

/-- The span [a, b) meets the addition (R66, R94). -/
def State.meets (s : State) (x : Addition) (a b : Instant) : Bool :=
  match x with
  | .source i => ((s.applicableSlot i).map fun e => e.meets s.settings a b).getD false
  | .ring => (s.ring.active.map fun e => e.meets a b).getD false
  | .whole =>
    (s.applicable.any fun e => e.meets s.settings a b) || (s.ring.active.map fun e => e.meets a b).getD false

/-- The span that the cancellation test examines, [earliest start, window end), of an entry that is cancellable now (R94). -/
def Outstanding.cancellable (e : Outstanding) (now : Instant) : Option (Instant × Instant) :=
  match e.latest, e.windowEnd with
  | some l, some w =>
    if e.kind == .fitting && !e.cancelledSent && !e.stale && atOrBefore now l then some (e.earliest, w) else none
  | _, _ => none

/-- The entry is cancelled by the addition. -/
def State.cancels (s : State) (x : Addition) (e : Outstanding) : Bool :=
  match e.cancellable s.now with
  | some (a, b) => s.meets x a b
  | none => false

/-- The CANCEL frame of an entry, placed now (R95, Table 11-4). -/
def State.cancelRecord (s : State) (e : Outstanding) : CancelRecord :=
  { id := e.id, queue := e.queue, tag := (((s.queue e.queue).head).map Descriptor.tag).getD 0, placed := s.now }

/-- The release gate's test of an addition: every entry that it cancels has its cancelled-sent flag set and its CANCEL placed in the south
output queue, in the order of decision (R94, R95). Outside ON_CHANNEL no addition is handed on (R65). -/
def State.addBusy (s : State) (x : Addition) : State :=
  if s.south.radio.isOn then
    { s with
      gate :=
        { s.gate with
          table := s.gate.table.map fun e => { e with cancelledSent := e.cancelledSent || s.cancels x e } }
      south := { s.south with cancels := s.south.cancels ++ (s.gate.table.filter (s.cancels x)).map s.cancelRecord } }
  else s

/-- Several additions of one event, in order. -/
def State.addBusyAll (s : State) (xs : List Addition) : State := xs.foldl State.addBusy s

/-! ### The release decision (R78 to R84) -/

/-- The release id to assign: the counter's value, or the next one when an entry of the table holds it (R81). -/
def Gate.assignId (g : Gate) : BitVec 8 := if g.table.any fun e => e.id == g.nextId then g.nextId + 1 else g.nextId

/-- An included entry changes from PENDING to OUT with its attempt count increased (R79). -/
def Subframe.release (ordinals : List Nat) (e : Subframe) : Subframe :=
  if ordinals.contains e.ordinal then { e with state := .out, attempts := e.attempts + 1 } else e

/-- The descriptor after a release decision (R79, R82). -/
def Descriptor.release (d : Descriptor) (id : BitVec 8) (ordinals : List Nat) (forced : Bool) : Descriptor :=
  { d with
    subframes := d.subframes.map (Subframe.release ordinals)
    outstanding := some id
    releases := saturate 255 (d.releases + 1)
    forcedUsed := d.forcedUsed || forced }

/-- The ordinals that a release of k subframes includes: the first k of the pending prefix (R78). -/
def Descriptor.included (d : Descriptor) (k : Nat) : List Nat := (d.pendingEntries.take k).map Subframe.ordinal

/-- The release record of a decision on a queue's head (Table 5-4). -/
def State.releaseRecord (s : State) (q : Fin 16) (d : Descriptor) (r : Rate) (v : Verdict) : ReleaseRecord :=
  let fitting := v.kind == .fitting
  { id := s.gate.assignId, queue := q, tag := d.tag, rate := d.rate, kind := v.kind, ordinals := d.included v.count
    earliest := s.releaseStart
    latest := if fitting then s.window.horizon.map fun h => minus h (d.required r (s.queue q).config.ack v.count) else none
    windowEnd := if fitting then s.window.horizon else none
    airtime := d.airtime r v.count }

/-- The outstanding entry of a release record (Table 5-5). -/
def ReleaseRecord.entry (r : ReleaseRecord) (d : Descriptor) (now : Instant) : Outstanding :=
  { id := r.id, queue := r.queue, descriptor := d.number, ordinals := r.ordinals, kind := r.kind, earliest := r.earliest
    latest := r.latest, windowEnd := r.windowEnd, airtime := r.airtime, cancelledSent := false, stamp := now, stale := false }

/-- A release decision on a queue's releasable head: the descriptor, the outstanding entry, committed-until, the TXDATA frame in the south
output queue and, for a forced release, the flags; then the window unit's search (R79 to R84). -/
def State.releaseHead (s : State) (q : Fin 16) (d : Descriptor) (r : Rate) (v : Verdict) : State :=
  let rec' := s.releaseRecord q d r v
  let forced := v.kind == .forced
  let s₁ := s.modQueue q fun x =>
    { (x.modHead fun d => d.release rec'.id rec'.ordinals forced) with forcedFlag := x.forcedFlag || forced }
  let s₂ := s₁.setFlagIf forced .frameForced
  State.search
    { s₂ with
      gate :=
        { s₂.gate with
          table := s₂.gate.table ++ [rec'.entry d s.now]
          committed := some (plus s.releaseStart (d.required r (s.queue q).config.ack v.count))
          nextId := rec'.id + 1 }
      south := { s₂.south with txdata := s₂.south.txdata ++ [rec'] } }
    false

/-! ### The arbiter (R50, R51) -/

/-- The south link is free for a release: SYNCED, the radio MAC ready, and no TXDATA frame waiting or being sent (R14). -/
def SouthLink.freeForRelease (l : SouthLink) : Bool :=
  l.synced && l.partnerReady && l.txdata.isEmpty
    && match l.sending with
      | some t =>
        match t.item with
        | .txdata _ => false
        | .cancel _ => true
      | none => true

/-- The queue numbers of one scan: upward from one past the pointer, ending at the pointer itself (R50). -/
def scanFrom (pointer : Fin 16) : List (Fin 16) :=
  ([1, 2, 3, 4, 5, 6, 7, 8, 9, 10, 11, 12, 13, 14, 15, 0] : List (Fin 16)).map fun i => pointer + i

/-- The first requesting queue of a level after the level's pointer. -/
def State.firstAtLevel (s : State) (level : Fin 4) : Option (Fin 16) :=
  (scanFrom s.pointers[level]).find? fun q => (s.queue q).request && (s.queue q).config.priority == level.val

/-- The queue that a run chooses: at the highest level with a requesting queue, the first one after the pointer (R50). -/
def State.chosen (s : State) : Option (Fin 4 × Fin 16) :=
  ([3, 2, 1, 0] : List (Fin 4)).findSome? fun level => (s.firstAtLevel level).map fun q => (level, q)

/-- The arbiter's run. A chosen head that the release gate, judging it afresh, cannot release loses its request, the pointer stays, and
the run goes on with the queues that still request (R51, R78). The first argument bounds the number of choices. -/
def State.arbitrate : Nat → State → State
  | 0, s => s
  | n + 1, s =>
    match s.chosen with
    | none => s
    | some (level, q) =>
      match s.offer q with
      | some (d, r, v) => State.releaseHead { s with pointers := s.pointers.set level q } q d r v
      | none => State.arbitrate n (s.modQueue q fun x => { x with request := false })

end Sys2Proof.Machine
end

