-- ==== Sys2Proof/Machine/Status.lean ====
section
/-! DEFINITION. Completion of descriptors (2.6, 2.7), draining (R43) and the resolution of releases by the status tracker (chapter 6). -/

namespace Sys2Proof.Machine

/-! ### Completion -/

/-- The result of a completed descriptor (R30). -/
def doneResult (x : Queue) (d : Descriptor) : DoneResult :=
  if x.state == .draining then .drained
  else if d.subframes.all fun e => e.state == .delivered then .deliveredAll
  else if d.subframes.any fun e => e.state == .delivered then .deliveredPart
  else .notDelivered

/-- The per-ordinal result of an entry (R33). -/
def SubState.ordinalResult : SubState → OrdinalResult
  | .pending => .notSent
  | .out => .notSent
  | .delivered => .delivered
  | .dropped => .dropped

/-- The TXDONE record of a descriptor that completes now (Table 2-6, R33). -/
def doneRecord (x : Queue) (d : Descriptor) (now : Instant) : TxDone :=
  { tag := d.tag, queue := BitVec.ofNat 8 d.queue.val, result := doneResult x d, count := d.subframes.length
    delivered := d.countOf .delivered, dropped := d.countOf .dropped, releases := d.releases, forced := d.forcedUsed
    arrival := d.arrival, firstRelease := d.firstRelease, completion := now
    ordinals :=
      if x.config.report == .detailed then some (d.subframes.map fun e => e.state.ordinalResult) else none }

/-- A descriptor's cells go to the tail of the free cell list in chain order, and the descriptor to the tail of its list (R31). -/
def FrameStore.free (f : FrameStore) (d : Descriptor) : FrameStore :=
  { f with
    freeCells := f.freeCells ++ f.chain d
    freeDescriptors := f.freeDescriptors ++ [d.number]
    nextCell := f.nextCell.filter fun p => !(f.chain d).contains p.1 }

/-- A descriptor of a queue completes: its slot is filled and its storage returned (R31); the caller takes it off its queue. -/
def State.finish (s : State) (q : Fin 16) (d : Descriptor) : State :=
  { s with fifo := s.fifo.fill (doneRecord (s.queue q) d s.now), store := s.store.free d }

/-- The head of a queue completes (R31): the next descriptor, if any, becomes head, with its aging started under R46. -/
def State.finishHead (s : State) (q : Fin 16) : State :=
  match (s.queue q).head with
  | none => s
  | some d =>
    (s.finish q d).modQueue q fun x => Queue.startAging { x with descriptors := x.descriptors.tail } s.now

/-- A drained queue becomes CLOSED, and DRAIN_DONE is set (R43). -/
def State.closeDrained (s : State) (q : Fin 16) : State :=
  (s.modQueue q fun x => { x with state := .closed, aging := none }).setFlag .drainDone

/-! ### Draining (R43) -/

/-- The drain of an OPEN or PAUSED queue: every descriptor that is not outstanding completes in list order, and the queue closes when no
outstanding head remains. -/
def State.drain (s : State) (q : Fin 16) : State :=
  let s₁ := s.modQueue q fun x => { x with state := .draining, aging := none }
  let s₂ := ((s.queue q).descriptors.filter fun d => d.outstanding.isNone).foldl (fun s d => s.finish q d) s₁
  let s₃ := s₂.modQueue q fun x => { x with descriptors := x.descriptors.filter fun d => d.outstanding.isSome }
  let s₄ := if (s₃.queue q).descriptors.isEmpty then s₃.closeDrained q else s₃
  s₄.reevaluate q

/-! ### Results of a release (R88 to R93) -/

/-- The ack flag of an included ordinal: the flag at the ordinal's place in the list; a flag that the map lacks is clear (R88). -/
def ackOf (ordinals : List Nat) (acks : List Bool) (ordinal : Nat) : Bool := acks.getD (ordinals.idxOf ordinal) false

/-- An entry under a SENT result (R90). -/
def Subframe.applySent (retry : Nat) (ordinals : List Nat) (acks : List Bool) (e : Subframe) : Subframe :=
  if ordinals.contains e.ordinal then
    { e with
      state :=
        if ackOf ordinals acks e.ordinal then .delivered else if retry < e.attempts then .dropped else .pending }
  else e

/-- An entry under an EXPIRED or CANCELLED result (R92). -/
def Subframe.applyUnsent (ordinals : List Nat) (e : Subframe) : Subframe :=
  if ordinals.contains e.ordinal then { e with state := .pending, attempts := e.attempts - 1 } else e

/-- The entry is dropped by a SENT result (R90). -/
def Subframe.dropsOn (retry : Nat) (ordinals : List Nat) (acks : List Bool) (e : Subframe) : Bool :=
  ordinals.contains e.ordinal && !ackOf ordinals acks e.ordinal && decide (retry < e.attempts)

/-- The head descriptor under a SENT result: its entries, its outstanding release id and its first release stamp (R90, R93 step 1). -/
def Descriptor.applySent (retry : Nat) (e : Outstanding) (acks : List Bool) (d : Descriptor) : Descriptor :=
  { d with
    subframes := d.subframes.map (Subframe.applySent retry e.ordinals acks)
    outstanding := none
    firstRelease := match d.firstRelease with
      | some t => some t
      | none => some e.stamp }

/-- The head descriptor under an EXPIRED or CANCELLED result (R92, R93 step 1). -/
def Descriptor.applyUnsent (e : Outstanding) (d : Descriptor) : Descriptor :=
  { d with subframes := d.subframes.map (Subframe.applyUnsent e.ordinals), outstanding := none }

/-- Some entry is PENDING or OUT, so that the descriptor does not complete through status (R29). -/
def Descriptor.unfinished (d : Descriptor) : Bool :=
  d.subframes.any fun e => e.state == .pending || e.state == .out

/-- Steps 1 to 5 of R93 for an entry whose queue's head has been changed by its result: the entry leaves the table, a waiting CANCEL is
withdrawn, a DRAINING queue's head completes and the queue closes, a finished head completes, and the request is re-evaluated. -/
def State.settle (s : State) (e : Outstanding) : State :=
  let s₁ : State :=
    { s with
      gate := { s.gate with table := s.gate.table.filter fun x => x.id != e.id }
      south := { s.south with cancels := s.south.cancels.filter fun c => c.id != e.id } }
  let s₂ :=
    match (s₁.queue e.queue).state, (s₁.queue e.queue).head with
    | _, none => s₁
    | .draining, some _ => (s₁.finishHead e.queue).closeDrained e.queue
    | _, some d => if d.unfinished then s₁ else s₁.finishHead e.queue
  s₂.reevaluate e.queue

/-- A release resolved as SENT with an ack map (R90, R91, R93). -/
def State.resolveSent (s : State) (acks : List Bool) (e : Outstanding) : State :=
  let x := s.queue e.queue
  let drops :=
    match x.head with
    | some d => d.subframes.any (Subframe.dropsOn x.config.retry e.ordinals acks)
    | none => false
  let s₁ := s.modQueue e.queue fun x =>
    { (x.modHead (Descriptor.applySent x.config.retry e acks)) with droppedFlag := x.droppedFlag || drops }
  (s₁.setFlagIf drops .subframeDropped).settle e

/-- A release answered EXPIRED or CANCELLED (R92, R93). -/
def State.resolveUnsent (s : State) (e : Outstanding) : State :=
  (s.modQueue e.queue fun x => x.modHead (Descriptor.applyUnsent e)).settle e

/-- Every outstanding release resolved as SENT with an empty ack map, in the order of decision (R97). -/
def State.resolveAll (s : State) : State := s.gate.table.foldl (fun s e => s.resolveSent [] e) s

/-! ### Matching a TXSTAT (R87 to R89) -/

/-- The TXDATA frame of a release still waits or is being sent. -/
def SouthLink.txdataUnsent (l : SouthLink) (id : BitVec 8) : Bool :=
  (l.txdata.any fun r => r.id == id)
    || match l.sending with
      | some t => t.item == .txdata id
      | none => false

/-- The entry that a TXSTAT is matched to; none when it is stray (R87). -/
def State.matchTxStat (s : State) (t : TxStat) : Option Outstanding :=
  if s.south.txdataUnsent t.id then none else s.gate.table.find? fun e => e.id == t.id

/-- A matched SENT TXSTAT sets LINK_ERROR: its ack map has not one flag for each included ordinal (R88), its start stamp is absent or out of
bounds, or the entry is stale (R89). -/
def TxStat.malformedFor (t : TxStat) (e : Outstanding) : Bool :=
  t.acks.length != e.ordinals.length || e.stale
    || match t.start with
      | none => true
      | some b =>
        before b e.earliest
          || match e.kind, e.latest with
            | .fitting, some l => before l b
            | _, _ => false

/-- A TXSTAT that can be read: matched and applied, or stray (R87 to R93). -/
def State.applyTxStat (s : State) (t : TxStat) : State :=
  match s.matchTxStat t with
  | none => s.setFlag .strayStatus
  | some e =>
    match t.result with
    | .sent => (s.setFlagIf (t.malformedFor e) .linkError).resolveSent t.acks e
    | .expired => s.resolveUnsent e
    | .cancelled => s.resolveUnsent e

end Sys2Proof.Machine
end

