-- ==== Sys2Proof/Machine/Sources.lean ====
section
/-! DEFINITION. The source tracker (chapter 8): matching, learning and checking of periodic sources, and what it hands on (R128). -/

namespace Sys2Proof.Machine

/-- An event under way at the source tracker: the state so far, the busy-set additions, whether a search is triggered, and the event flags,
all handed on when the event's changes are complete (R128). -/
structure Track where
  state : State
  additions : List Addition
  trigger : Bool
  raised : List EventFlag
deriving DecidableEq, Repr

/-- An event at the tracker begins. -/
def Track.begin (s : State) : Track := { state := s, additions := [], trigger := false, raised := [] }

/-- A flag to be set when the event hands on. -/
def Track.raise (t : Track) (f : EventFlag) : Track := { t with raised := t.raised ++ [f] }

/-- The event hands on: additions, then one search when one is triggered, then the flags (R128, R63). -/
def Track.handOn (t : Track) : State :=
  let s₁ := t.state.addBusyAll t.additions
  let s₂ := if t.trigger then s₁.search false else s₁
  s₂.setFlags t.raised

/-! ### Entries -/

/-- An entry clamped: P of an OVEN entry to the oven period band, then D to [64, P − lead − trail − 256] (R116). -/
def Source.clamp (c : Settings) (e : Source) : Source :=
  let period :=
    match e.kind with
    | .oven _ _ => clampNat c.ovenPeriodMin c.ovenPeriodMax e.period
    | .beacon _ _ => e.period
  { e with period, duration := clampNat 64 (durationBound c period) e.duration }

/-- The error of an observed start b against an entry: b − e is the nearest predicted start, the earlier of two equally near (R121). -/
def Source.error (e : Source) (b : Instant) : Int :=
  let r := distance e.start b % (e.period : Int)
  if 2 * r ≤ (e.period : Int) then r else r - (e.period : Int)

/-- The nearest predicted start to b. -/
def Source.nearest (e : Source) (b : Instant) : Instant := moved b (-(e.error b))

/-- The matched burst record is withdrawn when it names the slot (R121). -/
def Sources.withdraw (x : Sources) (i : Fin 16) : Sources :=
  match x.record with
  | some r => if r.result == .slot i then { x with record := some { r with result := .withdrawn } } else x
  | none => x

/-- A slot becomes FREE: its entry is absent, its timer cancelled, and a record naming it withdrawn (R118, R120, R132). The owner is kept. -/
def State.freeSlot (s : State) (i : Fin 16) : State :=
  let s₁ := s.setSlot i { (s.slot i) with entry := none, timer := none, deferred := false }
  { s₁ with sources := s₁.sources.withdraw i }

/-- An entry's change is stored, and what it hands on noted (R128): an addition when it enters LOCKED or COASTING and applies, a trigger when
it enters or leaves those states or when, in one of them and applying, its prediction has changed. `was` is the state it held before (none: FREE). -/
def Track.store (t : Track) (i : Fin 16) (was : Option SourceState) (e : Source) (changed : Bool) : Track :=
  let wasBusy := (was.map SourceState.busy).getD false
  let applies := e.applicable t.state.south.radio
  { t with
    state := t.state.setSlot i { (t.state.slot i) with entry := some e }
    additions := if applies && !wasBusy then t.additions ++ [.source i] else t.additions
    trigger :=
      t.trigger || ((e.state.busy || wasBusy) && was != some e.state) || (applies && changed) }

/-! ### Checks (R118 to R120) -/

/-- The span of the coverage list holds an instant (R104). -/
def Span.holds (x : Span) (a : Instant) : Bool := atOrBefore x.start a && before a x.stop

/-- The closed interval [a, b] is covered by spans, oldest first; spans that abut cover together (R104). -/
def coveredBy : List Span → Instant → Instant → Bool
  | [], _, _ => false
  | x :: rest, a, b =>
    if x.holds a then (if before b x.stop then true else coveredBy rest x.stop b) else coveredBy rest a b

/-- The interval [a, b) is covered, asked as the closed interval that ends 1 µs before its end (R119). -/
def State.covered (s : State) (a b : Instant) : Bool := coveredBy s.detector.spans a (minus b 1)

/-- The end of the newest span. -/
def Detector.newestEnd (d : Detector) : Option Instant := d.spans.getLast?.map Span.stop

/-- The judgements of a check (Table 8-2). -/
inductive Judgement where
  | host
  | matched
  | miss
  | deferred
  | unobserved
deriving DecidableEq, Repr

/-- The judgement of the occurrence under watch (Table 8-2). -/
def State.judgement (s : State) (x : Slot) (e : Source) : Judgement :=
  let cap := captureOf s.settings e.kind
  let a := minus e.start cap
  let b := plus e.start cap
  if x.owner == .host then .host
  else if e.matched then .matched
  else if e.kind.appliesTo s.south.radio && s.covered a b then .miss
  else
    match s.detector.newestEnd with
    | some stop =>
      if e.kind.appliesTo s.south.radio && before a stop && before stop b && s.covered a stop then .deferred else .unobserved
    | none => .unobserved

/-- The slot's check timer armed for the entry's check time; a deferral ends (R118). -/
def Slot.arm (c : Settings) (x : Slot) (e : Source) : Slot :=
  { x with timer := some (e.checkTime c), deferred := false }

/-- S moves to the next occurrence and the timer is armed for its check time (R119). -/
def Track.advance (t : Track) (i : Fin 16) (e : Source) : Track :=
  let e' := { e with start := plus e.start e.period }
  { t with
    state := t.state.setSlot i (Slot.arm t.state.settings { (t.state.slot i) with entry := some e' } e') }

/-- The state a miss leaves a learning-owned entry in, its miss run already increased; none: FREE (R120). -/
def stateAfterMiss (st : SourceState) (missRun limit : Nat) : Option SourceState :=
  match st with
  | .acquiring => none
  | _ => if limit ≤ missRun then none else some .coasting

/-- A missed occurrence (R120). -/
def Track.miss (t : Track) (i : Fin 16) (e : Source) : Track :=
  let run := e.missRun + 1
  match stateAfterMiss e.state run t.state.settings.missLimit with
  | none =>
    let t₁ : Track := { t with state := t.state.freeSlot i, trigger := t.trigger || e.state.busy }
    if e.state.busy then t₁.raise .sourceLost else t₁
  | some st =>
    let e' := { e with state := st, missRun := run }
    (t.store i (some e.state) e' false).advance i e'

/-- One judgement of a slot's occurrence under watch (R119). -/
def Track.judgeOnce (t : Track) (i : Fin 16) : Track :=
  let x := t.state.slot i
  match x.entry with
  | none => t
  | some e =>
    match t.state.judgement x e with
    | .host => t.advance i e
    | .matched => t.advance i { e with matched := false }
    | .miss => t.miss i e
    | .deferred => { t with state := t.state.setSlot i { x with timer := none, deferred := true } }
    | .unobserved => t.advance i e

/-- A check time at or before now when it is set is judged within the event that set it (R118). -/
def Track.judgePassed (t : Track) (i : Fin 16) : Track :=
  if reached (t.state.slot i).timer t.state.now then t.judgeOnce i else t

/-- A check, and the one further check that its new check time may call for (R118, R119). -/
def Track.check (t : Track) (i : Fin 16) : Track := (t.judgeOnce i).judgePassed i

/-- The check timer of a slot's entry is armed, and judged at once when its instant has passed (R118). -/
def Track.arm (t : Track) (i : Fin 16) : Track :=
  let x := t.state.slot i
  match x.entry with
  | none => t
  | some e => Track.judgePassed { t with state := t.state.setSlot i (Slot.arm t.state.settings x e) } i

/-- The sixteen slots in ascending order. -/
def allSlots : List (Fin 16) := [0, 1, 2, 3, 4, 5, 6, 7, 8, 9, 10, 11, 12, 13, 14, 15]

/-- Every deferred check is judged again (R119). -/
def Track.checkDeferred (t : Track) : Track :=
  allSlots.foldl (fun t i => if (t.state.slot i).deferred then t.check i else t) t

/-! ### Matching (R121, R122) -/

/-- The phase correction of an error: a quarter, truncated toward zero and clamped to the phase step (R122 step 2). -/
def phaseCorrection (c : Settings) (err : Int) : Int := clampInt (-(c.phaseStepMax : Int)) c.phaseStepMax (err.tdiv 4)

/-- The period correction of an error: a sixteenth, truncated toward zero and clamped to 8 µs (R122 step 3). -/
def periodCorrection (err : Int) : Int := clampInt (-8) 8 (err.tdiv 16)

/-- A span widened to include a channel (R122 step 4). -/
def SourceKind.widen (n : Nat) : SourceKind → SourceKind
  | .oven low high => .oven (min low n) (max high n)
  | .beacon channel tag => .beacon channel tag

/-- Steps 5 and 6 of R122: the match is counted, and an ACQUIRING entry at the lock count, or a COASTING one, becomes LOCKED. -/
def Source.countMatch (lockCount : Nat) (e : Source) : Source :=
  let n := saturate 255 (e.matchCount + 1)
  { e with
    matched := true
    missRun := 0
    matchCount := n
    state :=
      match e.state with
      | .acquiring => if lockCount ≤ n then .locked else .acquiring
      | .locked => .locked
      | .coasting => .locked }

/-- A duration moved an eighth of the way to a measured one, truncated toward zero (R123, R127). -/
def durationToward (measured d : Nat) : Nat := ((d : Int) + ((measured : Int) - d).tdiv 8).toNat

/-- The entry is stored after a match or at a creation; SOURCE_LOCKED when it enters LOCKED from ACQUIRING; its check timer armed. -/
def Track.settle (t : Track) (i : Fin 16) (was : Option SourceState) (e : Source) (changed : Bool) : Track :=
  let t₁ := t.store i was e changed
  let t₂ := if e.state == .locked && was != some .locked && was != some .coasting then t₁.raise .sourceLocked else t₁
  t₂.arm i

/-- The prediction fields of an entry after a match differ from those before it, S by other than a whole number of periods (R128). -/
def predictionChanged (correction : Int) (e e' : Source) : Bool :=
  correction != 0 || e.period != e'.period || e.duration != e'.duration || e.kind != e'.kind

/-- A start event matched to a learning-owned OVEN entry (R122). -/
def Track.matchOven (t : Track) (i : Fin 16) (e : Source) (n : Nat) (b : Instant) : Track :=
  let c := t.state.settings
  let err := e.error b
  let correction := phaseCorrection c err
  let e₁ : Source :=
    Source.clamp c
      { e with start := moved (e.nearest b) correction, period := ((e.period : Int) + periodCorrection err).toNat }
  let e₂ : Source := { e₁ with kind := e₁.kind.widen n }
  t.settle i (some e.state) (e₂.countMatch c.ovenLockCount) (predictionChanged correction e e₂)

/-- A match already recorded for the occurrence under watch makes no second update (R122, R127). -/
def Source.alreadyMatched (e : Source) (b : Instant) : Bool := e.matched && e.nearest b == e.start

/-- An OVEN entry matches a start event: its error lies within the oven capture (R121). -/
def ovenMatch (c : Settings) (b : Instant) (x : Slot) : Option (Nat × Source) :=
  match x.entry with
  | none => none
  | some e =>
    match e.kind with
    | .oven _ _ => if (e.error b).natAbs ≤ c.ovenCapture then some ((e.error b).natAbs, e) else none
    | .beacon _ _ => none

/-- The best match of a start event: the smallest |e|, and among equals the lowest slot (R121). -/
def State.bestMatch (s : State) (b : Instant) : Option (Fin 16 × Source) :=
  let best := allSlots.foldl
    (fun (acc : Option (Nat × Fin 16 × Source)) i =>
      match ovenMatch s.settings b (s.slot i), acc with
      | none, _ => acc
      | some (n, e), none => some (n, i, e)
      | some (n, e), some (m, j, f) => if n < m then some (n, i, e) else some (m, j, f))
    none
  best.map Prod.snd

/-- The matched burst record replaced. -/
def State.withRecord (s : State) (r : Option MatchRecord) : State := { s with sources := { s.sources with record := r } }

/-- A start event as the burst detector hands it on: the channel of the ON_CHANNEL state and the start stamp (R108). -/
structure BurstStart where
  channel : Nat
  start : Instant
deriving DecidableEq, Repr

/-- A start event at the tracker (R121, R122). -/
def Track.startEvent (t : Track) (v : BurstStart) : Track :=
  match t.state.bestMatch v.start with
  | none => { t with state := t.state.withRecord (some { start := v.start, result := .unmatched }) }
  | some (i, e) =>
    let t₁ : Track := { t with state := t.state.withRecord (some { start := v.start, result := .slot i }) }
    if (t.state.slot i).owner == .host || e.alreadyMatched v.start then t₁ else t₁.matchOven i e v.channel v.start

/-! ### Creation and duration (R123 to R125) -/

/-- The slot for a new learned entry (R125). -/
def State.slotForNew (s : State) : Option (Fin 16) :=
  match allSlots.find? fun i => (s.slot i).owner == .learn && (s.slot i).entry.isNone with
  | some i => some i
  | none =>
    let best := allSlots.foldl
      (fun (acc : Option (Nat × Fin 16)) i =>
        match (s.slot i).owner, (s.slot i).entry with
        | .learn, some e =>
          if e.state == .acquiring then
            match acc with
            | none => some (e.matchCount, i)
            | some (m, j) => if e.matchCount < m then some (e.matchCount, i) else some (m, j)
          else acc
        | _, _ => acc)
      none
    best.map Prod.snd

/-- A new learned entry in the slot that R125 chooses, or SOURCE_TABLE_FULL when there is none. A record that names a replaced entry's slot
is withdrawn (R125). -/
def Track.create (t : Track) (e : Source) : Track :=
  match t.state.slotForNew with
  | none => t.raise .sourceTableFull
  | some i =>
    Track.settle { t with state := { t.state with sources := t.state.sources.withdraw i } } i none e false

/-- The entry that an unmatched burst founds (R124). -/
def newOven (c : Settings) (n : Nat) (b : Instant) (measured : Nat) : Source :=
  Source.clamp c
    { kind := .oven n n, state := .acquiring, start := plus b c.ovenPeriodDefault, period := c.ovenPeriodDefault
      duration := measured, matchCount := 1, missRun := 0, matched := false }

/-- A measured duration lies within the oven burst band. -/
def inBurstBand (c : Settings) (measured : Nat) : Bool :=
  decide (c.ovenBurstMin ≤ measured) && decide (measured ≤ c.ovenBurstMax)

/-- The duration update of an end event matched to a slot (R123). -/
def Track.updateDuration (t : Track) (i : Fin 16) (certain : Bool) (measured : Nat) : Track :=
  let x := t.state.slot i
  match x.owner, x.entry with
  | .learn, some e =>
    match e.kind with
    | .oven _ _ =>
      if certain && inBurstBand t.state.settings measured then
        let e' := Source.clamp t.state.settings { e with duration := durationToward measured e.duration }
        t.store i (some e.state) e' (e'.duration != e.duration || e'.period != e.period)
      else t
    | .beacon _ _ => t
  | _, _ => t

/-- An end event as the burst detector hands it on: the channel, both stamps, both certainties, the peak level and the measured duration (R108).
The tracker's rules read the channel, the start stamp, the end's certainty and the duration (R121, R123, R124). -/
structure BurstEnd where
  channel : Nat
  start : Instant
  stop : Instant
  startCertain : Bool
  stopCertain : Bool
  peak : Int
  measured : Nat
deriving DecidableEq, Repr

/-- An end event at the tracker (R121, R123, R124). -/
def Track.endEvent (t : Track) (v : BurstEnd) : Track :=
  match t.state.sources.record with
  | none => t
  | some r =>
    if r.start = v.start then
      let t₁ :=
        match r.result with
        | .slot i => t.updateDuration i v.stopCertain v.measured
        | .unmatched =>
          if inBurstBand t.state.settings v.measured then t.create (newOven t.state.settings v.channel v.start v.measured) else t
        | .withdrawn => t
      { t₁ with state := t₁.state.withRecord none }
    else t

/-! ### Beacons (R126, R127) -/

/-- The slot's entry is a BEACON entry with the tag and the channel. -/
def Slot.beaconOf (x : Slot) (tag : BitVec 48) (n : Nat) : Option Source :=
  x.entry.filter fun e => e.kind == .beacon n tag

/-- The learning-owned BEACON entry with the tag and the channel. -/
def State.learnedBeacon (s : State) (tag : BitVec 48) (n : Nat) : Option (Fin 16 × Source) :=
  allSlots.findSome? fun i =>
    if (s.slot i).owner == .learn then ((s.slot i).beaconOf tag n).map fun e => (i, e) else none

/-- The values that re-anchoring and creation give a BEACON entry (R127). -/
def anchoredBeacon (c : Settings) (n : Nat) (tag : BitVec 48) (b : Instant) (period measured : Nat) : Source :=
  Source.clamp c
    { kind := .beacon n tag, state := if c.beaconLockCount ≤ 1 then .locked else .acquiring, start := plus b period, period
      duration := measured, matchCount := 1, missRun := 0, matched := false }

/-- A match of a BEACON entry (R127, first case). -/
def Track.matchBeacon (t : Track) (i : Fin 16) (e : Source) (b : Instant) (measured : Nat) : Track :=
  let c := t.state.settings
  let err := e.error b
  let correction := phaseCorrection c err
  let e₁ : Source :=
    Source.clamp c
      { e with start := moved (e.nearest b) correction, duration := durationToward measured e.duration }
  t.settle i (some e.state) (e₁.countMatch c.beaconLockCount) (predictionChanged correction e e₁)

/-- An entry re-anchored in place (R127). It passes through ACQUIRING, so one that locks again has entered LOCKED from ACQUIRING. -/
def Track.reanchor (t : Track) (i : Fin 16) (was : SourceState) (e : Source) : Track :=
  (Track.settle t i (some .acquiring) e false) |> fun t' => { t' with trigger := t'.trigger || was.busy }

/-- A beacon trailer that qualifies (R127). -/
def Track.learnBeacon (t : Track) (x : Trailer) : Track :=
  let c := t.state.settings
  let period := x.interval * 1024
  let measured := x.airtime + c.beaconTail
  let anchored := anchoredBeacon c x.channel x.tag x.start period measured
  match t.state.learnedBeacon x.tag x.channel with
  | some (i, e) =>
    if e.period = period then
      if (e.error x.start).natAbs ≤ c.beaconCapture then
        if e.alreadyMatched x.start then t else t.matchBeacon i e x.start measured
      else t.reanchor i e.state anchored
    else t.reanchor i e.state anchored
  | none =>
    if allSlots.any fun i => ((t.state.slot i).beaconOf x.tag x.channel).isSome then t else t.create anchored

/-- The tracker's part of an RXDATA frame (R13, R126). -/
def State.readBeacon (s : State) (payload : List Byte) : State :=
  match readTrailer payload with
  | some x => if x.qualifies then ((Track.begin s).learnBeacon x).handOn else s
  | none => s

/-! ### Settings changes (R134) -/

/-- Every non-FREE entry, of either owner, is clamped under the settings in force. -/
def State.clampSources (s : State) : State :=
  { s with
    sources :=
      { s.sources with
        slots := ⟨(s.sources.slots.toList.map fun x => { x with entry := x.entry.map (Source.clamp s.settings) }).toArray,
          by simp⟩ } }

/-- The check timer of every non-FREE entry is armed for its capture, and judged at once when it has passed. -/
def Track.armAll (t : Track) : Track := allSlots.foldl Track.arm t

end Sys2Proof.Machine
end

