-- ==== Sys2Proof/Machine/Detector.lean ====
section
/-! DEFINITION. The burst detector (chapter 7): continuity, the coverage list, the open burst and the survey. -/

namespace Sys2Proof.Machine

/-- The burst detector's state replaced. -/
def State.withDetector (s : State) (d : Detector) : State := { s with detector := d }

/-- The same within an event under way at the tracker. -/
def Track.modDetector (t : Track) (f : Detector → Detector) : Track :=
  { t with state := t.state.withDetector (f t.state.detector) }

/-- The coverage list replaced, with its aging timer armed for the oldest span's end plus 2^30 µs, or cancelled when it is empty (R103). -/
def Detector.withSpans (d : Detector) (spans : List Span) : Detector :=
  { d with spans, agingTimer := spans.head?.map fun x => plus x.stop Config.staleAge }

/-! ### The open burst (R105 to R108) -/

/-- The end event of an open burst that ends at a stamp on channel n: what R108 has it carry. -/
def OpenBurst.ended (o : OpenBurst) (n : Nat) (stop : Instant) (certain : Bool) : BurstEnd :=
  { channel := n, start := o.start, stop, startCertain := o.certain, stopCertain := certain, peak := o.peak
    measured := (stop - o.start).toNat }

/-- The open burst ends at a stamp: the detector becomes IDLE and the end event is issued (R105, R106, R108). -/
def Track.endBurst (t : Track) (n : Nat) (stop : Instant) (certain : Bool) : Track :=
  match t.state.detector.burst with
  | none => t
  | some o => (t.modDetector fun d => { d with burst := none }).endEvent (o.ended n stop certain)

/-- An open burst closed at a break, at the given end of the newest span (R106). -/
def Track.closeAtBreak (t : Track) (n : Nat) (stop : Option Instant) : Track :=
  match stop with
  | some e => t.endBurst n e false
  | none => t.modDetector fun d => { d with burst := none }

/-- A burst starts; a CERTAIN start issues a start event (R105, R108). -/
def Track.startBurst (t : Track) (n : Nat) (stamp : Instant) (certain : Bool) (level : Int) : Track :=
  let t₁ := t.modDetector fun d => { d with burst := some { start := stamp, certain, peak := level } }
  if certain then t₁.startEvent { channel := n, start := stamp } else t₁

/-- A sample evaluated in IDLE (R105). -/
def Track.sampleIdle (t : Track) (n : Nat) (stamp : Instant) (certain : Bool) (level : Int) : Track :=
  if t.state.settings.onLevel ≤ level then t.startBurst n stamp certain level else t

/-- A sample evaluated against the open burst: the length limit first (R107), then the off level and the peak (R105). -/
def Track.sample (t : Track) (n : Nat) (stamp : Instant) (certain : Bool) (level : Int) : Track :=
  match t.state.detector.burst with
  | none => t.sampleIdle n stamp certain level
  | some o =>
    if Config.burstLimit ≤ (stamp - o.start).toNat then (t.endBurst n stamp false).sampleIdle n stamp false level
    else if level < t.state.settings.offLevel then t.endBurst n stamp true
    else t.modDetector fun d => { d with burst := some { o with peak := max o.peak level } }

/-- The samples of a detection report evaluated in order from sample i. Those of a continued report before the old end of the newest span are
not evaluated; a start at sample 0 of a report that does not continue is UNCERTAIN (R105, R106). -/
def Track.samples (n : Nat) (r : EnergyReport) (oldEnd : Option Instant) : Nat → List Int → Track → Track
  | _, [], t => t
  | i, level :: rest, t =>
    let stamp := plus r.first (i * r.interval)
    let skipped :=
      match oldEnd with
      | some e => before stamp e
      | none => false
    let t₁ := if skipped then t else t.sample n stamp (decide (i ≠ 0) || oldEnd.isSome) level
    Track.samples n r oldEnd (i + 1) rest t₁

/-! ### Continuity and coverage (R99 to R102) -/

/-- The report end, f + n × I (R99). -/
def EnergyReport.stop (r : EnergyReport) : Instant := plus r.first (r.samples.length * r.interval)

/-- The end of the newest span that the report continues; none when it does not continue (R101). -/
def Detector.continuedFrom (d : Detector) (r : EnergyReport) : Option Instant :=
  match d.newestEnd with
  | some e =>
    if r.continues && atOrBefore (minus e r.interval) r.first && atOrBefore r.first (plus e r.interval) then some e else none
  | none => none

/-- The newest span's end moved to a report end (R102). Its start stands however long continued reports extend it, past 2^31 µs too, where the span no
longer holds the instants just before its end (DESIGN CHOICE, unsafe, notes/assumptions/35.md). -/
def extendNewest (spans : List Span) (stop : Instant) : List Span :=
  match spans.getLast? with
  | some x => spans.dropLast ++ [{ x with stop }]
  | none => spans

/-- The coverage list after a detection report (R102). A first stamp exactly 2^31 µs from the newest span's end, neither at or after it nor before it,
counts as gone backwards (DESIGN CHOICE, unsafe, notes/assumptions/34.md). -/
def Detector.cover (d : Detector) (r : EnergyReport) (continued : Bool) : List Span :=
  let new : Span := { start := r.first, stop := r.stop }
  if continued then extendNewest d.spans r.stop
  else
    match d.newestEnd with
    | some e =>
      if atOrBefore e r.first then
        (if Config.coverageSpans ≤ d.spans.length then d.spans.tail else d.spans) ++ [new]
      else [new]
    | none => [new]

/-! ### Survey (R111) -/

/-- A sample added to a survey entry. -/
def SurveyEntry.add (x : SurveyEntry) (interval : Nat) (busy : Bool) : SurveyEntry :=
  { listen := saturate Config.surveyMax (x.listen + interval)
    busy := if busy then saturate Config.surveyMax (x.busy + interval) else x.busy }

/-- A report added to the entry of its channel, sample by sample. -/
def Detector.surveyReport (d : Detector) (onLevel : Int) (r : EnergyReport) : Detector :=
  match surveyIndex r.channel with
  | some i =>
    { d with
      survey := d.survey.set i (r.samples.foldl (fun x level => x.add r.interval (decide (onLevel ≤ level))) d.survey[i]) }
  | none => d

/-! ### The events of the detector -/

/-- A span's age limit is reached: the instant that the aging timer is armed for while the span is the oldest, its end plus 2^30 µs, is at or before
now (R3, R103). -/
def Span.outlived (now : Instant) (x : Span) : Bool := atOrBefore (plus x.stop Config.staleAge) now

/-- The aging timer removes the oldest spans down to those kept and is re-armed for the next; when that empties the list, an open burst is closed at
the end of the span removed last (R103) and the deferred checks are judged (R119). -/
def Track.removeSpans (t : Track) (kept : List Span) : Track :=
  let t₁ := t.modDetector fun d => d.withSpans kept
  match kept, t.state.south.radio with
  | [], .onChannel n => (t₁.closeAtBreak n t.state.detector.newestEnd).checkDeferred
  | _, _ => t₁

/-- The aging timer armed for an instant at or before now expires at once, for as many spans as that holds of (R3, R103). -/
def Track.ageSpans (t : Track) : Track :=
  match t.state.detector.spans with
  | [] => t
  | x :: rest =>
    if x.outlived t.state.now then t.removeSpans (rest.dropWhile (Span.outlived t.state.now)) else t

/-- A detection report on channel n (R109). The deferred checks are judged again after its samples (R119), one deferred within this same event among
them (DESIGN CHOICE, unsafe, notes/assumptions/31.md); then an aging timer that the report armed in the past expires, within the event and after
the samples, so that the tracker has seen the report's span (R109) and a burst still open ends at the report end (DEDUCED,
notes/assumptions/16.md). -/
def State.detectionReport (s : State) (n : Nat) (r : EnergyReport) : State :=
  let oldEnd := s.detector.continuedFrom r
  let t₁ := if oldEnd.isSome then Track.begin s else (Track.begin s).closeAtBreak n s.detector.newestEnd
  let t₂ := t₁.modDetector fun d => d.withSpans (d.cover r oldEnd.isSome)
  let t₃ := Track.samples n r oldEnd 0 r.samples t₂
  let t₄ := t₃.modDetector fun d => d.surveyReport s.settings.onLevel r
  t₄.checkDeferred.ageSpans.handOn

/-- An accepted report: a detection report on the current channel, or a survey-only report (R99). -/
def State.energyReport (s : State) (r : EnergyReport) : State :=
  match s.south.radio with
  | .onChannel n =>
    if n = r.channel then s.detectionReport n r else s.withDetector (s.detector.surveyReport s.settings.onLevel r)
  | _ => s.withDetector (s.detector.surveyReport s.settings.onLevel r)

/-- The detector's part of a radio state or channel change from the state `old` (R110): an open burst is closed at the break, the coverage
list emptied and its timer cancelled, and the deferred checks are judged (R119). -/
def Track.radioChange (t : Track) (old : Radio) : Track :=
  let t₁ :=
    match old with
    | .onChannel n => t.closeAtBreak n t.state.detector.newestEnd
    | _ => t.modDetector fun d => { d with burst := none }
  (t₁.modDetector fun d => d.withSpans []).checkDeferred

/-- The aging timer expires: the oldest span is removed, and each next one whose own instant is then at or before now (R3, R103). -/
def State.ageCoverage (s : State) : State :=
  ((Track.begin s).removeSpans (s.detector.spans.tail.dropWhile (Span.outlived s.now))).handOn

end Sys2Proof.Machine
end

