-- ==== Sys2Proof/Machine/Ring.lean ====
section
/-! DEFINITION. The reservation ring's walk and what it hands on (chapter 9). -/

namespace Sys2Proof.Machine

/-- The walk stops with a reason: IDLE, the end timer cancelled (R138, R141). -/
def Ring.stopWith (r : Ring) (reason : StopReason) : Ring := { r with running := false, reason := some reason, endTimer := none }

/-- The current entry is consumed: written back with valid clear, its label recorded (R141). Its load timer and its stale mark stand until
LOAD_RESERVATIONS writes the entry: whether this write-back is among the writes that clear the mark (R136) the manual leaves open, and no rule
reads the mark of an invalid entry (DEDUCED, safe, notes/assumptions/32.md). -/
def Ring.consume (r : Ring) : Ring :=
  { r.setEntry r.current { (r.entry r.current) with valid := false } with lastLabel := some (r.entry r.current).label }

/-- The index that follows the current one: the start index after an entry with wrap, the next modulo 32 otherwise (R141 step 2). -/
def Ring.nextIndex (r : Ring) : Fin 32 := if (r.entry r.current).wrap then r.startIndex else r.current + 1

/-- The current entry is late or stale (R141 step 4). -/
def RingEntry.passed (e : RingEntry) (now : Instant) : Bool := e.stale || atOrBefore e.stop now

/-- Steps 3 to 5 of R141 on the entry at the current index, with the walk going on from step 1 after each late or stale entry. The first
argument bounds the consumptions of one event: at most 32, since each clears a valid flag. -/
def Ring.settle (now : Instant) : Nat → Ring → Ring
  | 0, r => r.stopWith .invalid
  | n + 1, r =>
    let e := r.entry r.current
    if !e.valid then r.stopWith .invalid
    else if e.passed now then
      if e.last then r.consume.stopWith .last
      else Ring.settle now n { r.consume with current := r.nextIndex }
    else { r with endTimer := some e.stop }

/-- The current entry's end is reached: it is consumed and the walk advances (R141). -/
def Ring.advance (now : Instant) (r : Ring) : Ring :=
  if (r.entry r.current).last then r.consume.stopWith .last
  else Ring.settle now 32 { r.consume with current := r.nextIndex }

/-- The walk started at an index (R137). -/
def Ring.start (now : Instant) (i : Fin 32) (r : Ring) : Ring :=
  Ring.settle now 33 { r with startIndex := i, current := i, running := true }

/-- What an event that changes the current entry or ends the walk hands on: the current entry as a busy-set addition while RUNNING, a search,
and RING_STOPPED at a stop (R142). -/
def State.handRing (s : State) (r : Ring) : State :=
  let s₁ : State := { s with ring := r }
  let s₂ := if r.running then s₁.addBusy .ring else s₁
  (s₂.search false).setFlagIf (!r.running) .ringStopped

/-- An entry as LOAD_RESERVATIONS writes it now: its load timer armed when it is valid, its stale mark cleared (R136). -/
def RingEntry.loaded (e : RingEntry) (now : Instant) : RingEntry :=
  { e with loadTimer := if e.valid then some (plus now Config.staleAge) else none, stale := false }

/-- Entries written at successive indexes, wrapping from 31 to 0 (R139). -/
def Ring.writeFrom (now : Instant) : Ring → Fin 32 → List RingEntry → Ring
  | r, _, [] => r
  | r, i, e :: rest => Ring.writeFrom now (r.setEntry i (e.loaded now)) (i + 1) rest

/-- A write of n entries from an index reaches an index (R139). -/
def reachesIndex (first : Fin 32) (n : Nat) (i : Fin 32) : Bool := decide ((i - first).val < n)

/-- The ring after a TRAFFIC part reset: IDLE with reason COMMAND, its end timer cancelled, the rest kept (R143). -/
def Ring.traffic (r : Ring) : Ring := r.stopWith .command

end Sys2Proof.Machine
end

