-- ==== Sys2Proof/Machine/Links.lean ====
section
/-! DEFINITION. The link interfaces (chapter 1) and admission (2.5): receiving frames, the north and the south output. -/

namespace Sys2Proof.Machine

/-- The north link interface replaced. -/
def State.withNorth (s : State) (n : NorthLink) : State := { s with north := n }

/-- The south link interface replaced. -/
def State.withSouth (s : State) (n : SouthLink) : State := { s with south := n }

/-- The north input moved to a stage. -/
def State.withInput (s : State) (i : NorthInput) : State := { s with north := { s.north with input := i } }

/-! ### North input (R8) -/

/-- The north input shows ready: for a lane header, and for the rest of a frame that is not held (R8). It is not-ready in power-on reset (R162). -/
def State.northInputReady (s : State) : Bool :=
  !s.inReset && s.north.synced
    && match s.north.input with
      | .held _ => false
      | _ => true

/-- The south input shows ready at all times while the south link is SYNCED (R10). -/
def State.southInputReady (s : State) : Bool := !s.inReset && s.south.synced

/-- The lane header is one of a DATA frame that will need a TXDONE slot: its kind is DATA and its version will not cause a discard (R8). -/
def needsSlot (h : LaneHeader) : Bool := h.kind == 1 && h.version == 1

/-- A lane header arrives on the north input, which waits for one (R8). -/
def State.laneHeader (s : State) (h : LaneHeader) : State :=
  if needsSlot h then
    if 0 < s.fifo.free then { s.withInput (.receiving h true false) with fifo := s.fifo.reserve }
    else s.withInput (.held h)
  else s.withInput (.receiving h false false)

/-- A received frame is discarded: a reservation it still holds is cancelled, LINK_ERROR is set for a check failure, and the input is ready for the
next lane header (R5, R8, R17). -/
def State.discardNorth (s : State) (reserved checkFailed : Bool) : State :=
  let s₁ := s.withInput .awaitHeader
  let s₂ := if reserved then { s₁ with fifo := s₁.fifo.cancel } else s₁
  s₂.setFlagIf checkFailed .linkError

/-- The end delimiter of a frame arrives on the north link. A frame whose lane header is still to come brings it first; a frame that is then
held for a slot goes no further. A frame doomed by a part reset, or one that fails the checks of R5, is discarded; any other is given
to `taken` when it is of the event's kind. An event that is not the end of the frame under way has no effect. -/
def State.northFrame (s : State) (kind : Byte) (f : LinkFrame) (taken : State → State) : State :=
  if s.north.synced then
    let s₁ :=
      match s.north.input with
      | .awaitHeader => s.laneHeader f.header
      | _ => s
    match s₁.north.input with
    | .receiving h reserved doomed =>
      if h = f.header then
        if doomed then s₁.discardNorth reserved false
        else if passes .north f then
          if f.header.kind = kind then taken (s₁.withInput .awaitHeader) else s
        else s₁.discardNorth reserved true
      else s
    | _ => s₁
  else s

/-- A frame arrives on the south link: one that fails the checks of R5 is discarded, any other is given to `taken` when
it is of the event's kind. -/
def State.southFrame (s : State) (kind : Byte) (f : LinkFrame) (taken : State → State) : State :=
  if s.south.synced then
    if passes .south f then (if f.header.kind = kind then taken s else s) else s.setFlag .linkError
  else s

/-! ### Admission (R23 to R28) -/

/-- The refusal of a bundle for a lane by checks 2 to 5 (R25, R26); none when all pass. -/
def State.admissionCheck (s : State) (lane : Byte) (b : Bundle) : Option DoneResult :=
  match queueTarget lane with
  | none => some .refusedQueue
  | some q =>
    let x := s.queue q
    if x.state != .opened && x.state != .paused then some .refusedQueue
    else if x.config.depth ≤ x.descriptors.length then some .refusedFull
    else if (s.rate b.rate).isNone then some .refusedRate
    else if s.store.freeDescriptors.isEmpty || decide (s.store.freeCells.length < cellsNeeded b.lengths) then
      some .refusedStore
    else none

/-- The TXDONE record of a refusal (Table 2-6). -/
def refusalRecord (h : LaneHeader) (result : DoneResult) (count : Nat) (now : Instant) : TxDone :=
  { tag := h.sequence, queue := h.lane, result, count, delivered := 0, dropped := 0, releases := 0, forced := false
    arrival := now, firstRelease := none, completion := now, ordinals := none }

/-- A refused frame (R27). -/
def State.refuse (s : State) (h : LaneHeader) (result : DoneResult) (count : Nat) : State :=
  let s₁ : State := { s with fifo := s.fifo.fill (refusalRecord h result count s.now) }
  let s₂ :=
    match queueTarget h.lane with
    | some q => s₁.modQueue q fun x => { x with refusedFlag := true }
    | none => s₁
  s₂.setFlag .frameRefused

/-- The subframe list of an admitted bundle (R22). -/
def newSubframes (lengths : List Nat) : List Subframe :=
  lengths.zipIdx.map fun p => { ordinal := p.2, length := p.1, attempts := 0, state := .pending }

/-- The descriptor of an admitted bundle (Table 2-2). -/
def newDescriptor (number : BitVec 10) (tag : BitVec 16) (q : Fin 16) (b : Bundle) (chain : List (BitVec 12)) (now : Instant) :
    Descriptor :=
  { number, tag, queue := q, rate := b.rate, arrival := now, firstCell := chain.headD 0, cellCount := chain.length
    subframes := newSubframes b.lengths, outstanding := none, firstRelease := none, aged := false, waited := false
    forcedUsed := false, releases := 0 }

/-- The storage of an admitted bundle: a descriptor and its cells from the heads of the free lists, the bodies placed in them (R20, R28). -/
def FrameStore.takeIn (f : FrameStore) (b : Bundle) : FrameStore :=
  let chain := f.freeCells.take (cellsNeeded b.lengths)
  { freeCells := f.freeCells.drop (cellsNeeded b.lengths)
    freeDescriptors := f.freeDescriptors.tail
    memory := storeBodies f.memory chain b.bodies
    nextCell := chain.zip chain.tail ++ f.nextCell }

/-- An admitted frame (R28): the descriptor joins the tail of its queue; when the queue was empty it becomes head, its aging starts when the
queue is OPEN (R46) and the request is re-evaluated. -/
def State.takeIn (s : State) (h : LaneHeader) (q : Fin 16) (b : Bundle) : State :=
  let chain := s.store.freeCells.take (cellsNeeded b.lengths)
  let d := newDescriptor (s.store.freeDescriptors.headD 0) h.sequence q b chain s.now
  let s₁ : State := { s with store := s.store.takeIn b }
  let s₂ := s₁.modQueue q fun x =>
    let x' := { x with descriptors := x.descriptors ++ [d] }
    if x.descriptors.isEmpty then x'.startAging s.now else x'
  if (s.queue q).descriptors.isEmpty then s₂.reevaluate q else s₂

/-- A DATA frame taken (R23): its reserved TXDONE slot passes to the frame store. -/
def State.takeData (s : State) (f : LinkFrame) : State :=
  match readBundle f.payload with
  | none => s.refuse f.header .refusedFormat 0
  | some b =>
    match s.admissionCheck f.header.lane b, queueTarget f.header.lane with
    | some result, _ => s.refuse f.header result b.lengths.length
    | none, some q => s.takeIn f.header q b
    | none, none => s.refuse f.header .refusedQueue b.lengths.length

/-! ### RXDATA pass buffer (R13) -/

/-- What a frame occupies in the pass buffer: its payload and 8 bytes for its lane header. -/
def occupancy (f : LinkFrame) : Nat := f.payload.length + 8

/-- The bytes the pass buffer holds. -/
def NorthLink.occupied (n : NorthLink) : Nat := (n.passBuffer.map occupancy).sum

/-- An RXDATA frame taken: stored whole when it fits, dropped with RX_DROPPED set otherwise (R13). -/
def State.passRxdata (s : State) (f : LinkFrame) : State :=
  if s.north.occupied + occupancy f ≤ Config.passBufferBytes then
    s.withNorth { s.north with passBuffer := s.north.passBuffer ++ [f] }
  else s.setFlag .rxDropped

/-! ### Radio state machine (R15) -/

/-- The radio state moves and the change is handed to the burst detector, the source tracker and the window unit (R15); `opened`: the radio
enters ON_CHANNEL or its channel is set anew, a window-opened event (R62). -/
def State.changeRadio (s : State) (radio : Radio) (last : Option Nat) (opened : Bool) : State :=
  let t := Track.radioChange (Track.begin (s.withSouth { s.south with radio, lastChannel := last })) s.south.radio
  let s₁ := t.state.addBusyAll t.additions
  (s₁.search opened).setFlags t.raised

/-- A radio record accepted (R15). Events that leave the state unchanged and are no channel change are not handed on. -/
def State.applyRadio (s : State) (r : RadioRecord) : State :=
  match r, s.south.radio with
  | .channel n, _ => s.changeRadio (.onChannel n) (some n) true
  | .away, .onChannel _ => s.changeRadio .away s.south.lastChannel false
  | .away, _ => s
  | .back, .away =>
    match s.south.lastChannel with
    | some n => s.changeRadio (.onChannel n) (some n) true
    | none => s
  | .back, _ => s

/-! ### South output (R14) -/

/-- The TXDATA payload of a waiting release: its record, then each included subframe, read from the head's cells (R20, R80). -/
def State.txdataPayload (s : State) (r : ReleaseRecord) : List Byte :=
  match (s.queue r.queue).head with
  | some d => r.bytes d.lengthOf ++ r.ordinals.flatMap fun o => subframeBytes o (s.store.body d o)
  | none => r.bytes fun _ => 0

/-- A release id in a sequence field: the low 8 bits (R7). -/
def idSequence (id : BitVec 8) : BitVec 16 := id.setWidth 16

/-- The next frame of the south output queue starts: the oldest CANCEL, otherwise the oldest TXDATA (R14). -/
def State.startSouth (s : State) : State :=
  match s.south.cancels, s.south.txdata with
  | c :: rest, _ =>
    s.withSouth
      { s.south with
        cancels := rest
        sending := some { item := .cancel c.id, frame := originate 10 0 (idSequence c.id) 0 c.payload } }
  | [], r :: rest =>
    s.withSouth
      { s.south with
        txdata := rest
        sending := some { item := .txdata r.id, frame := originate 9 0 (idSequence r.id) 0 (s.txdataPayload r) } }
  | [], [] => s

/-! ### North output (R4, R7, R12) -/

/-- The frame of a STATUS, whose NOTICE content is fixed now (R7, R155, section 11.4). -/
def State.statusFrame (s : State) : StatusFrame → LinkFrame
  | .response sequence payload => originate 3 0 sequence 1 payload
  | .notice => originate 3 0 0 2 (noticePayload s.events s.engine.lastDropped)
  | .started scope => originate 3 0 0 3 (startedPayload scope)

/-- The frame of an item of the north output: an RXDATA frame leaves unchanged (R7). -/
def State.itemFrame (s : State) : NorthItem → Option LinkFrame
  | .status f => some (s.statusFrame f)
  | .txdone r _ => some (originate 4 0 r.tag 0 r.payload)
  | .rxdata => s.north.passBuffer.head?

/-- An item begins to be sent on the north link. -/
def State.beginNorth (s : State) (item : NorthItem) : State :=
  match s.itemFrame item with
  | some frame => s.withNorth { s.north with sending := some { item, frame } }
  | none => s

/-- The kind that goes next when TXDONE or RXDATA frames wait: the one other than the last shared kind when both wait (R12). -/
def State.sharedChoice (s : State) : Option SharedKind :=
  match s.fifo.filled.isEmpty, s.north.passBuffer.isEmpty with
  | true, true => none
  | false, true => some .txdone
  | true, false => some .rxdata
  | false, false => if s.north.lastShared == .txdone then some .rxdata else some .txdone

/-- The arbiter's choice of the next north frame: an abandoned frame first, then the oldest STATUS, then TXDONE or RXDATA (R4, R12). -/
def State.chooseNorth (s : State) : State :=
  match s.north.resend, s.north.status with
  | some item, _ => (s.withNorth { s.north with resend := none }).beginNorth item
  | none, f :: rest => (s.withNorth { s.north with status := rest }).beginNorth (.status f)
  | none, [] =>
    match s.sharedChoice, s.fifo.filled with
    | some .txdone, r :: _ => (s.withNorth { s.north with lastShared := .txdone }).beginNorth (.txdone r true)
    | some .rxdata, _ => (s.withNorth { s.north with lastShared := .rxdata }).beginNorth .rxdata
    | _, _ => s

/-! ### Part reset at the links (R17) -/

/-- The north input at a part reset: a frame being received is doomed and its reservation gone; a held DATA frame stays held (R17). -/
def NorthInput.afterReset : NorthInput → NorthInput
  | .awaitHeader => .awaitHeader
  | .held h => .held h
  | .receiving h _ _ => .receiving h false true

/-- An item at a part reset: the slot of a TXDONE frame is no longer filled (R11). -/
def NorthItem.afterReset : NorthItem → NorthItem
  | .status f => .status f
  | .txdone r _ => .txdone r false
  | .rxdata => .rxdata

/-- The frame being sent is an RXDATA frame, whose space is still held (R13). -/
def NorthLink.sendsRxdata (n : NorthLink) : Bool :=
  match n.sending with
  | some t => t.item == .rxdata
  | none => false

/-- The north link interface at a part reset: the pass buffer emptied but for a frame in transmission, the last shared kind RXDATA, the
waiting STATUS frames kept; an abandoned TXDONE or RXDATA frame is not in transmission and goes with its buffer (R4, R11 to R13, R17). -/
def NorthLink.afterReset (n : NorthLink) : NorthLink :=
  { n with
    input := n.input.afterReset
    sending := n.sending.map fun t => { t with item := t.item.afterReset }
    resend := match n.resend with
      | some (.status f) => some (.status f)
      | _ => none
    lastShared := .rxdata
    passBuffer := if n.sendsRxdata then n.passBuffer.take 1 else [] }

/-- The south output queue emptied, a frame in transmission kept (R14). -/
def SouthLink.afterReset (l : SouthLink) : SouthLink := { l with txdata := [], cancels := [] }

end Sys2Proof.Machine
end

