-- ==== Sys2Proof/Machine/Engine.lean ====
section
/-! DEFINITION. The command engine (chapter 10): lists, results and truncation, the response, part reset, STARTED. -/

namespace Sys2Proof.Machine

/-- The command engine replaced. -/
def State.withEngine (s : State) (e : Engine) : State := { s with engine := e }

/-- The executing buffer replaced. -/
def State.withExecuting (s : State) (x : ExecBuffer) : State := { s with engine := { s.engine with executing := x } }

/-! ### Lists (R144 to R147, R160) -/

/-- A list with no command and no broken tail left is complete: the buffer is HOLDING (R147). -/
def ControlList.buffer (l : ControlList) : ExecBuffer :=
  if l.commands.isEmpty && l.tail.isEmpty then .holding l else .executing l

/-- A control frame's list as it enters the executing buffer: room is set aside for one result entry without data for every command and for
the broken tail (R146, R160). -/
def ControlFrame.list (f : ControlFrame) : ControlList :=
  let p := readCommands f.payload
  { sequence := f.sequence, commands := p.1, tail := p.2, results := []
    room := Config.statusPayload - 4 * (p.1.length + if p.2.isEmpty then 0 else 1), truncated := false, reset := none }

/-- A CONTROL frame taken (R144). -/
def State.takeControl (s : State) (f : LinkFrame) : State :=
  let c : ControlFrame := { sequence := f.header.sequence, payload := f.payload }
  match s.engine.waiting with
  | some _ => State.setFlag { s with engine := { s.engine with lastDropped := some c.sequence } } .controlOverrun
  | none =>
    match s.engine.executing with
    | .empty => s.withExecuting c.list.buffer
    | _ => s.withEngine { s.engine with waiting := some c }

/-- The list's next command has been reported: it leaves the list, and its result entry joins the response (R146). -/
def ControlList.report (l : ControlList) (e : ResultEntry) (truncated : Bool) : ControlList :=
  { l with
    commands := l.commands.tail, results := l.results ++ [e], room := l.room - e.data.length
    truncated := l.truncated || truncated }

/-- The next command of the list in execution. -/
def State.nextCommand (s : State) : Option (ControlList × Command) :=
  match s.engine.executing with
  | .executing l =>
    match l.commands with
    | c :: _ => some (l, c)
    | [] => none
  | _ => none

/-- The next command reported with a result and its read data, in the state its execution has left (R145, R146). -/
def State.reportResult (s : State) (c : Command) (result : Result) (data : List Byte) : State :=
  match s.engine.executing with
  | .executing l =>
    s.withExecuting (l.report { code := c.code, result, data } (result == .truncated)).buffer
  | _ => s

/-- The execution of a command by the engine (R145, R146): it must be the list's next one. After a truncated command it is TRUNCATED; a
refusal found by `refusal` is reported; a command whose `size` bytes of read data do not fit the room still free is TRUNCATED; otherwise it is
carried out by `act`, which gives the state it leaves and its read data. -/
def State.command (s : State) (code target : Byte) (data : List Byte) (refusal : Option Result) (size : Nat)
    (act : State → State × List Byte) : State :=
  match s.nextCommand with
  | none => s
  | some (l, c) =>
    if c = { code, target, data } then
      if l.truncated then s.reportResult c .truncated []
      else
        match refusal with
        | some r => s.reportResult c r []
        | none =>
          if l.room < size then s.reportResult c .truncated []
          else
            let p := act s
            p.1.reportResult c .ok p.2
    else s

/-- The leftover bytes of the list, once every whole command has been reported: one further entry with code 0 (R160). -/
def State.reportTail (s : State) (bytes : List Byte) : State :=
  match s.engine.executing with
  | .executing l =>
    if l.commands.isEmpty && !l.tail.isEmpty && l.tail == bytes then
      s.withExecuting
        (ControlList.buffer
          { l with
            tail := []
            results := l.results ++ [{ code := 0, result := if l.truncated then .truncated else .badOp, data := [] }] })
    else s
  | _ => s

/-- A target and a state check pass; a value check fails (R145 steps 2 to 4). -/
def refuseIf (badTarget busy badValue : Bool) : Option Result :=
  if badTarget then some .badTarget else if busy then some .busy else if badValue then some .badValue else none

/-! ### STARTED (R157) -/

/-- The first north synchronisation after power-on queues STARTED. -/
def State.queueStartedPowerOn (s : State) : State :=
  s.withNorth { s.north with status := s.north.status ++ [.started .powerOn] }

/-- A FULL part reset withdraws a waiting STARTED of scope POWER_ON and queues one of scope FULL unless one waits (R157); a STARTED being sent
does not wait, and NorthLink.abandon settles what becomes of it at a loss (DESIGN CHOICE, notes/assumptions/13.md). -/
def State.queueStartedFull (s : State) : State :=
  let n := s.north
  let status := n.status.filter fun f => f != .started .powerOn
  let resend :=
    match n.resend with
    | some (.status (.started .powerOn)) => none
    | x => x
  let waits := status.contains (.started .full) || resend == some (.status (.started .full))
  s.withNorth { n with status := if waits then status else status ++ [.started .full], resend }

/-! ### Part reset (R151) -/

/-- The source table at a part reset (R117): a FULL reset frees every slot; a TRAFFIC reset keeps the table; both discard the matched burst
record. -/
def Sources.afterReset (x : Sources) (scope : ResetScope) : Sources :=
  match scope with
  | .full => Sources.powerOn
  | .traffic => { x with record := none }

/-- The ring at a part reset (R143). -/
def Ring.afterReset (r : Ring) (scope : ResetScope) : Ring :=
  match scope with
  | .full => Ring.powerOn
  | .traffic => r.traffic

/-- The burst detector at a part reset (R113). -/
def Detector.afterReset (d : Detector) (scope : ResetScope) : Detector :=
  match scope with
  | .full => Detector.powerOn
  | .traffic => { (d.withSpans []) with burst := none }

/-- The event block at a part reset: a FULL one clears flags and enables and what is due; the pacing timer and the last notice instant are
kept (R152 to R156). -/
def Events.afterReset (e : Events) (scope : ResetScope) : Events :=
  match scope with
  | .full => { e with flags := 0, enables := 0, attn := false, noticeDue := false }
  | .traffic => e

/-- The release gate at a part reset (R68, R81, R83, R86). -/
def Gate.afterReset (g : Gate) (scope : ResetScope) : Gate :=
  match scope with
  | .full => { g with table := [], rates := Gate.powerOn.rates }
  | .traffic => { g with table := [] }

/-- The command engine at a part reset: the waiting frame discarded; a FULL reset sets the default settings and makes the last dropped sequence
absent (R151). -/
def Engine.afterReset (e : Engine) (scope : ResetScope) : Engine :=
  match scope with
  | .full => { e with waiting := none, settings := Settings.default, lastDropped := none }
  | .traffic => { e with waiting := none }

/-- The frame store at a part reset: both lists full in ascending order (R34). The cells' bytes stand, held by no descriptor. -/
def FrameStore.afterReset (f : FrameStore) : FrameStore := { FrameStore.powerOn with memory := f.memory }

/-- Every block with the part reset's effect for the scope, before the deferred checks are judged and the window unit searches. -/
def State.resetBlocks (s : State) (scope : ResetScope) : State :=
  { s with
    north := s.north.afterReset
    fifo := DoneFifo.powerOn
    south := s.south.afterReset
    store := s.store.afterReset
    queues := Vector.replicate 16 Queue.powerOn
    pointers := Vector.replicate 4 15
    window := { s.window with timer := none, saturated := false }
    gate := s.gate.afterReset scope
    detector := s.detector.afterReset scope
    sources := s.sources.afterReset scope
    ring := s.ring.afterReset scope
    engine := s.engine.afterReset scope
    events := s.events.afterReset scope }

/-- A part reset executes (R151): every block applies its effect, deferred checks are judged (R119), RING_STOPPED is set by a TRAFFIC reset that
found the ring RUNNING (R143), STARTED is queued by a FULL one (R157), and the window unit searches, with a window-opened event when the
radio is ON_CHANNEL (R52, R62). -/
def State.partReset (s : State) (scope : ResetScope) : State :=
  let s₁ := (Track.checkDeferred (Track.begin (s.resetBlocks scope))).state
  let s₂ := s₁.setFlagIf (scope == .traffic && s.ring.running) .ringStopped
  let s₃ := if scope == .full then s₂.queueStartedFull else s₂
  s₃.search s₃.south.radio.isOn

/-! ### The response (R147) -/

/-- A RESPONSE waits for the north output until its end delimiter has been sent (R12, R147). -/
def NorthLink.responseWaits (n : NorthLink) : Bool :=
  let isResponse : StatusFrame → Bool := fun f =>
    match f with
    | .response _ _ => true
    | _ => false
  let isItem : NorthItem → Bool := fun i =>
    match i with
    | .status f => isResponse f
    | _ => false
  n.status.any isResponse || (n.resend.map isItem).getD false || (n.sending.map fun t => isItem t.item).getD false

/-- A complete response is queued once no RESPONSE waits; then an accepted part reset executes, or the waiting frame moves up (R144, R147, R151). -/
def State.queueResponse (s : State) : State :=
  match s.engine.executing with
  | .holding l =>
    if s.north.responseWaits then s
    else
      let s₁ := s.withNorth { s.north with status := s.north.status ++ [.response l.sequence (responsePayload l.results)] }
      let s₂ := s₁.withExecuting .empty
      match l.reset with
      | some scope => s₂.partReset scope
      | none =>
        match s.engine.waiting with
        | some f => s₂.withEngine { s₂.engine with executing := f.list.buffer, waiting := none }
        | none => s₂
  | _ => s

end Sys2Proof.Machine
end

