-- ==== Sys2Proof/Machine/PowerClock.lean ====
section
/-! DEFINITION. Meanings of POWER_ON_RESET, RESET_INPUT_ASSERTED and AIR_CLOCK_ADVANCE. -/

namespace Sys2Proof.Machine

/-- The part at the end of power-on reset; the model's own queue of waiting commands is kept (R162). -/
def State.poweredOn (s : State) : State := { State.reset with pending := s.pending }

/-- The part held in reset: everything it held is lost, no mark on the timing line (R162). -/
def State.heldInReset (s : State) : State :=
  { State.reset with inReset := true, clock := { now := 0, marking := false, fullCount := none }, pending := s.pending }

/-- The air clock advances by one; the full count is carried at each multiple of 4096 (R1, R2). -/
def State.tick (s : State) : State :=
  let now := s.now + 1
  { s with clock := { s.clock with now, fullCount := if now.toNat % 4096 = 0 then some now else none } }

/-- POWER_ON_RESET (R162): the reset input is released with power stable. -/
def execPowerOnReset (s : State) : Out := .next s.poweredOn

/-- RESET_INPUT_ASSERTED (R162): power is removed or the reset input is asserted. -/
def execResetInputAsserted (s : State) : Out := .next s.heldInReset

/-- AIR_CLOCK_ADVANCE (R1, R2). -/
def execAirClockAdvance (s : State) : Out := s.live State.tick

end Sys2Proof.Machine
end

