-- ==== Sys2Proof/Machine/Sync.lean ====
section
/-! DEFINITION. Meanings of the four synchronisation events (1.2, 1.9, 6.6). -/

namespace Sys2Proof.Machine

/-- The north link gains synchronisation; the first gain after power-on queues STARTED (R4, R157). -/
def State.northGained (s : State) : State :=
  if s.north.synced then s
  else
    let s₁ := s.withNorth { s.north with synced := true, everSynced := true }
    if s.north.everSynced then s₁ else s₁.queueStartedPowerOn

/-- The frame being received on the north link holds a reserved slot. -/
def NorthInput.holdsSlot : NorthInput → Bool
  | .receiving _ reserved _ => reserved
  | _ => false

/-- The STATUS frame is a STARTED, of either scope. -/
def StatusFrame.isStarted (f : StatusFrame) : Bool := f == .started .powerOn || f == .started .full

/-- A frame abandoned while it was being sent becomes first among those that wait (R4). One STARTED waits at a time (R12, R157): an abandoned STARTED
of scope POWER_ON is withdrawn when one of scope FULL waits, and any other abandoned STARTED takes the place of one that waits (DESIGN CHOICE,
unsafe, notes/assumptions/13.md). -/
def NorthLink.abandon (n : NorthLink) (item : NorthItem) : NorthLink :=
  match item with
  | .status (.started scope) =>
    if scope = .powerOn ∧ n.status.contains (.started .full) then { n with resend := none }
    else { n with resend := some item, status := n.status.filter fun f => !f.isStarted }
  | _ => { n with resend := some item }

/-- The north link loses synchronisation: the frame being received is discarded without LINK_ERROR and its reservation cancelled; the frame being
sent is abandoned and stays first to be sent (R4, R8, R16). -/
def State.northLost (s : State) : State :=
  if s.north.synced then
    { s with
      fifo := if s.north.input.holdsSlot then s.fifo.cancel else s.fifo
      north :=
        let n : NorthLink := { s.north with synced := false, input := .awaitHeader, sending := none }
        match s.north.sending with
        | some t => n.abandon t.item
        | none => n }
  else s

/-- The south link gains synchronisation and the full count is published at once; the radio state stays DOWN (R2, R15). -/
def State.southGained (s : State) : State :=
  if s.south.synced then s
  else { s.withSouth { s.south with synced := true } with clock := { s.clock with fullCount := some s.now } }

/-- The south link loses synchronisation: the south output queue is emptied and a frame in transmission abandoned (R14), every outstanding release
is resolved (R97), the radio state goes to DOWN, handed on when it was not DOWN (R15), and RADIO_LOST is set (R16). -/
def State.southLost (s : State) : State :=
  if s.south.synced then
    let s₁ := s.withSouth { s.south with synced := false, txdata := [], cancels := [], sending := none }
    let s₂ := s₁.resolveAll
    let s₃ := if s.south.radio = .down then s₂ else s₂.changeRadio .down s.south.lastChannel false
    s₃.setFlag .radioLost
  else s

/-- NORTH_SYNC_GAINED (R4). -/
def execNorthSyncGained (s : State) : Out := s.live State.northGained

/-- NORTH_SYNC_LOST (R16). -/
def execNorthSyncLost (s : State) : Out := s.live State.northLost

/-- SOUTH_SYNC_GAINED (R2). -/
def execSouthSyncGained (s : State) : Out := s.live State.southGained

/-- SOUTH_SYNC_LOST (R16). -/
def execSouthSyncLost (s : State) : Out := s.live State.southLost

end Sys2Proof.Machine
end

