-- ==== Sys2Proof/Machine/Frames.lean ====
section
/-! DEFINITION. Meanings of the events of received frames (chapters 1, 2, 6, 7, 10). -/

namespace Sys2Proof.Machine

/-- A lane header arrives on the north input (R8). -/
def State.northHeader (s : State) (h : LaneHeader) : State :=
  if s.north.synced && s.north.input == .awaitHeader then s.laneHeader h else s

/-- A held DATA frame reserves the slot that has become free (R8). -/
def State.reserveHeld (s : State) : State :=
  match s.north.input with
  | .held h =>
    if s.north.synced && decide (0 < s.fifo.free) then
      { s.withInput (.receiving h true false) with fifo := s.fifo.reserve }
    else s
  | _ => s

/-- An RXDATA frame taken: the pass buffer, and its trailer to the source tracker (R13). -/
def State.takeRxdata (s : State) (f : LinkFrame) : State := (s.passRxdata f).readBeacon f.payload

/-- An ENERGY frame taken (R99, R109, R159). -/
def State.takeEnergy (s : State) (f : LinkFrame) : State :=
  match readEnergy f.header f.payload with
  | some r => s.energyReport r
  | none => s.setFlag .linkError

/-- A TXSTAT frame taken (R87, R159). -/
def State.takeTxStat (s : State) (f : LinkFrame) : State :=
  match readTxStat f.payload with
  | some t => s.applyTxStat t
  | none => s.setFlag .linkError

/-- A RADIO frame taken (R15, R159). -/
def State.takeRadio (s : State) (f : LinkFrame) : State :=
  match readRadio f.payload with
  | some r => s.applyRadio r
  | none => s.setFlag .linkError

/-- A received frame ends that is to be discarded (R5, R17); one that would be taken is left to its own event. -/
def State.discardFrame (s : State) (link : Link) (f : LinkFrame) : State :=
  match link with
  | .north => s.northFrame f.header.kind f fun _ => s
  | .south => s.southFrame f.header.kind f fun s => s

/-- NORTH_LANE_HEADER (R8). -/
def execNorthLaneHeader (h : LaneHeader) (s : State) : Out := s.live fun s => s.northHeader h

/-- DATA_SLOT_RESERVED (R8). -/
def execDataSlotReserved (s : State) : Out := s.live State.reserveHeld

/-- DATA_FRAME (R23). -/
def execDataFrame (f : LinkFrame) (s : State) : Out := s.live fun s => s.northFrame 1 f fun s => s.takeData f

/-- CONTROL_FRAME (R144). -/
def execControlFrame (f : LinkFrame) (s : State) : Out := s.live fun s => s.northFrame 2 f fun s => s.takeControl f

/-- RXDATA_FRAME (R13). -/
def execRxdataFrame (f : LinkFrame) (s : State) : Out := s.live fun s => s.southFrame 5 f fun s => s.takeRxdata f

/-- ENERGY_REPORT (R109). -/
def execEnergyReport (f : LinkFrame) (s : State) : Out := s.live fun s => s.southFrame 6 f fun s => s.takeEnergy f

/-- TXSTAT (R87). -/
def execTxstat (f : LinkFrame) (s : State) : Out := s.live fun s => s.southFrame 7 f fun s => s.takeTxStat f

/-- RADIO_RECORD (R15). -/
def execRadioRecord (f : LinkFrame) (s : State) : Out := s.live fun s => s.southFrame 8 f fun s => s.takeRadio f

/-- RECEIVED_FRAME_DISCARDED (R5). -/
def execReceivedFrameDiscarded (link : Link) (f : LinkFrame) (s : State) : Out := s.live fun s => s.discardFrame link f

end Sys2Proof.Machine
end

