-- ==== Sys2Proof/Machine/Outputs.lean ====
section
/-! DEFINITION. Meanings of the events of the two transmitters and of the release arbiter (1.6 to 1.8, 3.7, 5.4). -/

namespace Sys2Proof.Machine

/-- The north transmitter is free: the partner's ready line is sampled, and with it ready the arbiter's next frame begins (R10, R12). -/
def State.northChoice (s : State) (ready : Bool) : State :=
  if s.north.synced && s.north.sending.isNone then
    let s₁ := s.withNorth { s.north with partnerReady := ready }
    if s₁.north.partnerReady then s₁.chooseNorth else s₁
  else s

/-- The north transmitter is free again. -/
def NorthLink.sent (n : NorthLink) : NorthLink := { n with sending := none }

/-- The end delimiter of a TXDONE frame has been sent: its slot becomes free, unless a part reset has already let it go (R11). -/
def State.txdoneSent (s : State) : State :=
  match s.north.sending with
  | some { item := .txdone _ held, .. } =>
    { s.withNorth s.north.sent with fifo := if held then s.fifo.sent else s.fifo }
  | _ => s

/-- The end delimiter of an RXDATA frame has been sent: its space is released (R13). -/
def State.rxdataSent (s : State) : State :=
  match s.north.sending with
  | some { item := .rxdata, .. } => s.withNorth { s.north.sent with passBuffer := s.north.passBuffer.tail }
  | _ => s

/-- A STATUS frame has been sent whole: after a RESPONSE a held response is queued (R147), after a NOTICE a due one (R156). -/
def State.statusSent (s : State) : State :=
  match s.north.sending with
  | some { item := .status (.response _ _), .. } => (s.withNorth s.north.sent).queueResponse
  | some { item := .status .notice, .. } => (s.withNorth s.north.sent).queueNotice
  | some { item := .status (.started _), .. } => s.withNorth s.north.sent
  | _ => s

/-- The south transmitter is free: the radio MAC's ready line is sampled, and with it ready the next frame starts (R10, R14). -/
def State.southStart (s : State) (ready : Bool) : State :=
  if s.south.synced && s.south.sending.isNone then
    let s₁ := s.withSouth { s.south with partnerReady := ready }
    if s₁.south.partnerReady then s₁.startSouth else s₁
  else s

/-- A TXDATA frame has been sent whole (R14). -/
def State.txdataSent (s : State) : State :=
  match s.south.sending with
  | some { item := .txdata _, .. } => s.withSouth { s.south with sending := none }
  | _ => s

/-- A CANCEL frame has been sent whole (R10). -/
def State.cancelSent (s : State) : State :=
  match s.south.sending with
  | some { item := .cancel _, .. } => s.withSouth { s.south with sending := none }
  | _ => s

/-- The arbiter runs when the outstanding release table has a free entry and the south link is free for a release (R50). -/
def State.runArbiter (s : State) (ready : Bool) : State :=
  let s₁ := s.withSouth { s.south with partnerReady := ready }
  if s₁.gate.table.length < Config.outstandingEntries then
    if s₁.south.freeForRelease then s₁.arbitrate 17 else s₁
  else s₁

/-- NORTH_OUTPUT_CHOICE (R12). -/
def execNorthOutputChoice (ready : Bool) (s : State) : Out := s.live fun s => s.northChoice ready

/-- TXDONE_FRAME_SENT (R11). -/
def execTxdoneFrameSent (s : State) : Out := s.live State.txdoneSent

/-- RXDATA_FRAME_SENT (R13). -/
def execRxdataFrameSent (s : State) : Out := s.live State.rxdataSent

/-- STATUS_FRAME_SENT (R147). -/
def execStatusFrameSent (s : State) : Out := s.live State.statusSent

/-- SOUTH_OUTPUT_START (R14). -/
def execSouthOutputStart (ready : Bool) (s : State) : Out := s.live fun s => s.southStart ready

/-- TXDATA_FRAME_SENT (R14). -/
def execTxdataFrameSent (s : State) : Out := s.live State.txdataSent

/-- CANCEL_FRAME_SENT (R10). -/
def execCancelFrameSent (s : State) : Out := s.live State.cancelSent

/-- RELEASE_ARBITER_RUN (R50). -/
def execReleaseArbiterRun (ready : Bool) (s : State) : Out := s.live fun s => s.runArbiter ready

end Sys2Proof.Machine
end

