-- ==== Sys2Proof/Machine/Timers.lean ====
section
/-! DEFINITION. Meanings of the nine timer expiries. A timer expires once the air clock has reached its instant; a timer that is cancelled or
armed for a later instant gives no expiry (R3), and the event then has no effect. -/

namespace Sys2Proof.Machine

/-- A queue's aging timer expires: the head's aged flag is set and the request re-evaluated (R47). -/
def State.agingExpired (s : State) (q : Fin 16) : State :=
  if reached (s.queue q).aging s.now then
    (s.modQueue q fun x => { (x.modHead fun d => { d with aged := true }) with aging := none }).reevaluate q
  else s

/-- The window timer expires: a new search (R61). -/
def State.windowExpired (s : State) : State := if reached s.window.timer s.now then s.search false else s

/-- Committed-until is reached: it becomes absent, and no search is made (R83). -/
def State.committedExpired (s : State) : State :=
  if reached s.gate.committed s.now then { s with gate := { s.gate with committed := none } } else s

/-- The instant of an outstanding entry's stale timer: its release stamp plus 2^30 µs (R85). -/
def Outstanding.staleAt (e : Outstanding) : Instant := plus e.stamp Config.staleAge

/-- An outstanding entry's stale timer expires (R85). -/
def State.staleExpired (s : State) (id : BitVec 8) : State :=
  { s with
    gate :=
      { s.gate with
        table := s.gate.table.map fun e =>
          if e.id == id && !e.stale && atOrBefore e.staleAt s.now then { e with stale := true } else e } }

/-- The coverage list's aging timer expires (R103). -/
def State.coverageExpired (s : State) : State := if reached s.detector.agingTimer s.now then s.ageCoverage else s

/-- A source entry's check timer expires (R119). -/
def State.checkExpired (s : State) (i : Fin 16) : State :=
  if reached (s.slot i).timer s.now then ((Track.begin s).check i).handOn else s

/-- The current reservation's end is reached (R141, R142). -/
def State.ringEndExpired (s : State) : State :=
  if s.ring.running && reached s.ring.endTimer s.now then s.handRing (s.ring.advance s.now) else s

/-- A reservation entry's load timer expires: the entry is stale (R136). -/
def State.ringLoadExpired (s : State) (i : Fin 32) : State :=
  if reached (s.ring.entry i).loadTimer s.now then
    { s with ring := s.ring.setEntry i { (s.ring.entry i) with loadTimer := none, stale := true } }
  else s

/-- The pacing timer expires: a due NOTICE is queued, which arms it again (R156). -/
def State.pacingExpired (s : State) : State :=
  if reached s.events.pacing s.now then State.queueNotice { s with events := { s.events with pacing := none } } else s

/-- AGING_TIMER_EXPIRY (R47). -/
def execAgingTimerExpiry (q : Fin 16) (s : State) : Out := s.live fun s => s.agingExpired q

/-- WINDOW_TIMER_EXPIRY (R61). -/
def execWindowTimerExpiry (s : State) : Out := s.live State.windowExpired

/-- COMMITTED_UNTIL_EXPIRY (R83). -/
def execCommittedUntilExpiry (s : State) : Out := s.live State.committedExpired

/-- OUTSTANDING_STALE_EXPIRY (R85). -/
def execOutstandingStaleExpiry (id : BitVec 8) (s : State) : Out := s.live fun s => s.staleExpired id

/-- COVERAGE_AGING_EXPIRY (R103). -/
def execCoverageAgingExpiry (s : State) : Out := s.live State.coverageExpired

/-- CHECK_TIMER_EXPIRY (R119). -/
def execCheckTimerExpiry (i : Fin 16) (s : State) : Out := s.live fun s => s.checkExpired i

/-- RING_END_TIMER_EXPIRY (R141). -/
def execRingEndTimerExpiry (s : State) : Out := s.live State.ringEndExpired

/-- RING_LOAD_TIMER_EXPIRY (R136). -/
def execRingLoadTimerExpiry (i : Fin 32) (s : State) : Out := s.live fun s => s.ringLoadExpired i

/-- PACING_TIMER_EXPIRY (R156). -/
def execPacingTimerExpiry (s : State) : Out := s.live State.pacingExpired

end Sys2Proof.Machine
end

