-- ==== Sys2Proof/Machine/QueueCommands.lean ====
section
/-! DEFINITION. Meanings of the queue commands (3.3) and the rate commands (5.1). -/

namespace Sys2Proof.Machine

/-- A queue opened with a configuration (R40). -/
def State.openOne (s : State) (q : Fin 16) (c : QueueConfig) : State :=
  (s.modQueue q fun x => { x with state := .opened, config := c }).reevaluate q

/-- A queue paused when it is OPEN (R41). -/
def State.pauseOne (s : State) (q : Fin 16) : State :=
  if (s.queue q).state = .opened then
    (s.modQueue q fun x => { x with state := .paused, aging := none }).reevaluate q
  else s

/-- A queue resumed when it is PAUSED: its head's aged flag cleared and its aging restarted from now (R42). -/
def State.resumeOne (s : State) (q : Fin 16) : State :=
  if (s.queue q).state = .paused then
    (s.modQueue q fun x =>
      Queue.startAging { (x.modHead fun d => { d with aged := false }) with state := .opened } s.now).reevaluate q
  else s

/-- A queue drained when it is OPEN or PAUSED (R43). -/
def State.drainOne (s : State) (q : Fin 16) : State :=
  if (s.queue q).state = .opened ∨ (s.queue q).state = .paused then s.drain q else s

/-- A queue's three error flags cleared (R44). -/
def State.clearQueueFlags (s : State) (q : Fin 16) : State :=
  s.modQueue q fun x => { x with refusedFlag := false, forcedFlag := false, droppedFlag := false }

/-- The queue that a target names alone is in one of the given states; ALL is in none (R39). -/
def State.targetIn (s : State) (target : Byte) (states : List QueueState) : Bool :=
  match queueTarget target with
  | some q => states.contains (s.queue q).state
  | none => false

/-- The refusal of a queue command that accepts ALL and carries no data (R39, R160). -/
def State.queueRefusal (s : State) (target : Byte) (data : List Byte) (busyIn : List QueueState) : Option Result :=
  refuseIf (queueTargets target).isNone (s.targetIn target busyIn) (!data.isEmpty)

/-- OPEN_QUEUE, code 16 (R40). -/
def execOpenQueue (target : Byte) (data : List Byte) (s : State) : Out :=
  s.live fun s =>
    s.command 16 target data
      (refuseIf (queueTarget target).isNone (s.targetIn target [.opened, .paused, .draining]) (readQueueConfig data).isNone)
      0 fun s =>
        match queueTarget target, readQueueConfig data with
        | some q, some c => (s.openOne q c, [])
        | _, _ => (s, [])

/-- PAUSE_QUEUE, code 17 (R41). -/
def execPauseQueue (target : Byte) (data : List Byte) (s : State) : Out :=
  s.live fun s =>
    s.command 17 target data (s.queueRefusal target data [.closed, .draining]) 0 fun s =>
      (s.forQueues ((queueTargets target).getD []) State.pauseOne, [])

/-- RESUME_QUEUE, code 18 (R42). -/
def execResumeQueue (target : Byte) (data : List Byte) (s : State) : Out :=
  s.live fun s =>
    s.command 18 target data (s.queueRefusal target data [.closed, .draining]) 0 fun s =>
      (s.forQueues ((queueTargets target).getD []) State.resumeOne, [])

/-- DRAIN_QUEUE, code 19 (R43). -/
def execDrainQueue (target : Byte) (data : List Byte) (s : State) : Out :=
  s.live fun s =>
    s.command 19 target data (s.queueRefusal target data [.closed]) 0 fun s =>
      (s.forQueues ((queueTargets target).getD []) State.drainOne, [])

/-- CLEAR_QUEUE_FLAGS, code 20 (R44). -/
def execClearQueueFlags (target : Byte) (data : List Byte) (s : State) : Out :=
  s.live fun s =>
    s.command 20 target data (s.queueRefusal target data []) 0 fun s =>
      (s.forQueues ((queueTargets target).getD []) State.clearQueueFlags, [])

/-- READ_QUEUE, code 21 (R45). -/
def execReadQueue (target : Byte) (data : List Byte) (s : State) : Out :=
  s.live fun s =>
    s.command 21 target data (refuseIf (queueTarget target).isNone false (!data.isEmpty)) 31 fun s =>
      (s, match queueTarget target with
        | some q => queueImage (s.queue q)
        | none => [])

/-- A rate entry written, and every head judged afresh (R69). -/
def State.writeRate (s : State) (i : Fin 64) (r : Rate) : State :=
  State.reevaluateAll { s with gate := { s.gate with rates := s.gate.rates.set i (some r) } }

/-- LOAD_RATE, code 32 (R69). -/
def execLoadRate (target : Byte) (data : List Byte) (s : State) : Out :=
  s.live fun s =>
    s.command 32 target data (refuseIf (rateTarget target).isNone false (readRateImage data).isNone) 0 fun s =>
      match rateTarget target, readRateImage data with
      | some i, some r => (s.writeRate i r, [])
      | _, _ => (s, [])

/-- READ_RATE, code 33 (R70). -/
def execReadRate (target : Byte) (data : List Byte) (s : State) : Out :=
  s.live fun s =>
    s.command 33 target data (refuseIf (rateTarget target).isNone false (!data.isEmpty)) 7 fun s =>
      (s, match rateTarget target with
        | some i => rateImage (s.rate i)
        | none => [])

end Sys2Proof.Machine
end

