-- ==== Sys2Proof/Machine/SourceCommands.lean ====
section
/-! DEFINITION. Meanings of the source commands (8.6). A command that writes an entry, be it only its owner, makes one search (R63); one that
changes nothing makes none (DEDUCED, notes/assumptions/17.md). -/

namespace Sys2Proof.Machine

/-- The owner made HOST (R129). -/
def State.takeSlot (s : State) (i : Fin 16) : State :=
  if (s.slot i).owner = .learn then State.search (s.setSlot i { (s.slot i) with owner := .host }) false else s

/-- S replaced by the earliest S + mP whose check time lies after now (R130). -/
def Source.align (c : Settings) (now : Instant) (e : Source) : Source :=
  let lead := (distance now (e.checkTime c) - 1) % (e.period : Int) + 1
  { e with start := minus (moved now lead) (captureOf c e.kind) }

/-- A whole entry written with owner HOST (R130): its check timer armed, a record naming the slot withdrawn, an addition when it takes part in a
search, and a search. -/
def State.writeSlot (s : State) (i : Fin 16) (e : Source) : State :=
  let e' := e.align s.settings s.now
  let s₁ := s.setSlot i { owner := .host, entry := some e', timer := some (e'.checkTime s.settings), deferred := false }
  let s₂ : State := { s₁ with sources := s₁.sources.withdraw i }
  (s₂.addBusy (.source i)).search false

/-- A host-owned entry returned to learning with its miss run cleared (R131). -/
def State.releaseSlot (s : State) (i : Fin 16) : State :=
  if (s.slot i).owner = .host then
    State.search
      (s.setSlot i { (s.slot i) with owner := .learn, entry := (s.slot i).entry.map fun e => { e with missRun := 0 } }) false
  else s

/-- The release of a slot would leave two learning-owned BEACON entries with one tag and channel (R131). -/
def State.releaseClashes (s : State) (i : Fin 16) : Bool :=
  (s.slot i).owner == .host
    && match (s.slot i).entry with
      | some e =>
        match e.kind with
        | .beacon n tag => (s.learnedBeacon tag n).isSome
        | .oven _ _ => false
      | none => false

/-- An entry freed, whatever its owner and state (R132). -/
def State.freeSource (s : State) (i : Fin 16) : State :=
  if (s.slot i).entry.isSome then (s.freeSlot i).search false else s

/-- The images of consecutive slots (R133). -/
def State.sourceImages (s : State) (first count : Nat) : List Byte :=
  ((allSlots.drop first).take count).flatMap fun i => sourceImage s.settings i (s.slot i)

/-- The slot that a target names satisfies a condition. -/
def slotIs (target : Byte) (p : Fin 16 → Bool) : Bool := ((queueTarget target).map p).getD false

/-- TAKE_SOURCE, code 48 (R129). -/
def execTakeSource (target : Byte) (data : List Byte) (s : State) : Out :=
  s.live fun s =>
    s.command 48 target data (refuseIf (queueTarget target).isNone false (!data.isEmpty)) 32 fun s =>
      match queueTarget target with
      | some i =>
        let s' := s.takeSlot i
        (s', toBytes 1 (s.slot i).owner.code ++ sourceImage s'.settings i (s'.slot i))
      | none => (s, [])

/-- WRITE_SOURCE, code 49 (R130). -/
def execWriteSource (target : Byte) (data : List Byte) (s : State) : Out :=
  s.live fun s =>
    s.command 49 target data
      (refuseIf (queueTarget target).isNone (slotIs target fun i => (s.slot i).owner == .learn)
        (readSourceImage s.settings s.now data).isNone)
      0 fun s =>
        match queueTarget target, readSourceImage s.settings s.now data with
        | some i, some e => (s.writeSlot i e, [])
        | _, _ => (s, [])

/-- RELEASE_SOURCE, code 50 (R131). -/
def execReleaseSource (target : Byte) (data : List Byte) (s : State) : Out :=
  s.live fun s =>
    s.command 50 target data (refuseIf (queueTarget target).isNone (slotIs target s.releaseClashes) (!data.isEmpty)) 0 fun s =>
      match queueTarget target with
      | some i => (s.releaseSlot i, [])
      | none => (s, [])

/-- FREE_SOURCE, code 51 (R132). -/
def execFreeSource (target : Byte) (data : List Byte) (s : State) : Out :=
  s.live fun s =>
    s.command 51 target data (refuseIf (queueTarget target).isNone false (!data.isEmpty)) 0 fun s =>
      match queueTarget target with
      | some i => (s.freeSource i, [])
      | none => (s, [])

/-- The count of a READ_SOURCES is 0, reaches past slot 15, or is not carried as one byte (R133, R160). -/
def badSourceRun (target : Byte) (data : List Byte) : Bool :=
  decide (data.length ≠ 1 ∨ field data 0 1 = 0 ∨ 16 < target.toNat + field data 0 1)

/-- READ_SOURCES, code 52 (R133). -/
def execReadSources (target : Byte) (data : List Byte) (s : State) : Out :=
  s.live fun s =>
    s.command 52 target data (refuseIf (queueTarget target).isNone false (badSourceRun target data)) (31 * field data 0 1)
      fun s => (s, s.sourceImages target.toNat (field data 0 1))

end Sys2Proof.Machine
end

