-- ==== Sys2Proof/Machine/RingCommands.lean ====
section
/-! DEFINITION. Meanings of the ring commands (9.3) and the survey commands (7.5). -/

namespace Sys2Proof.Machine

/-- START_RING, code 64 (R137). -/
def execStartRing (target : Byte) (data : List Byte) (s : State) : Out :=
  s.live fun s =>
    s.command 64 target data (refuseIf (ringTarget target).isNone s.ring.running (!data.isEmpty)) 0 fun s =>
      match ringTarget target with
      | some i => (s.handRing (s.ring.start s.now i), [])
      | none => (s, [])

/-- STOP_RING, code 65 (R138). -/
def execStopRing (target : Byte) (data : List Byte) (s : State) : Out :=
  s.live fun s =>
    s.command 65 target data (refuseIf false false (!data.isEmpty)) 0 fun s =>
      (if s.ring.running then s.handRing (s.ring.stopWith .command) else s, [])

/-- A LOAD_RESERVATIONS would reach the current entry of a RUNNING ring, counting the whole entry images that its data holds (R139). -/
def State.loadReachesCurrent (s : State) (target : Byte) (data : List Byte) : Bool :=
  match ringTarget target with
  | some i => s.ring.running && reachesIndex i (data.length / 8) s.ring.current
  | none => false

/-- The list of a LOAD_RESERVATIONS is empty, malformed or longer than 32 entries, or holds an entry that is not accepted (R139, R160). -/
def badReservations (now : Instant) (data : List Byte) : Bool :=
  decide (data.length = 0 ∨ data.length % 8 ≠ 0 ∨ 256 < data.length) || !(readRingEntries data).all (ringEntryAccepted now)

/-- LOAD_RESERVATIONS, code 66 (R139). -/
def execLoadReservations (target : Byte) (data : List Byte) (s : State) : Out :=
  s.live fun s =>
    s.command 66 target data
      (refuseIf (ringTarget target).isNone (s.loadReachesCurrent target data) (badReservations s.now data)) 0 fun s =>
        match ringTarget target with
        | some i => ({ s with ring := s.ring.writeFrom s.now i (readRingEntries data) }, [])
        | none => (s, [])

/-- READ_RING, code 67 (R140). -/
def execReadRing (target : Byte) (data : List Byte) (s : State) : Out :=
  s.live fun s =>
    s.command 67 target data (refuseIf false false (!data.isEmpty)) 262 fun s => (s, ringImage s.ring)

/-- READ_SURVEY, code 80 (R112). -/
def execReadSurvey (target : Byte) (data : List Byte) (s : State) : Out :=
  s.live fun s =>
    s.command 80 target data (refuseIf false false (!data.isEmpty)) 112 fun s => (s, surveyImage s.detector)

/-- One channel's counts, or all, set to 0 (R112). -/
def Detector.clearSurvey (d : Detector) (target : Byte) : Detector :=
  if target = 255 then { d with survey := Detector.powerOn.survey }
  else
    match surveyIndex target.toNat with
    | some i => { d with survey := d.survey.set i { listen := 0, busy := 0 } }
    | none => d

/-- CLEAR_SURVEY, code 81 (R112). -/
def execClearSurvey (target : Byte) (data : List Byte) (s : State) : Out :=
  s.live fun s =>
    s.command 81 target data
      (refuseIf (target != 255 && (surveyIndex target.toNat).isNone) false (!data.isEmpty)) 0 fun s =>
        (s.withDetector (s.detector.clearSurvey target), [])

end Sys2Proof.Machine
end

