-- ==== Sys2Proof/Machine/ControlCommands.lean ====
section
/-! DEFINITION. Meanings of the command engine's own commands (chapter 10), of what it reports for bytes that are no command, and of the
response being queued. -/

namespace Sys2Proof.Machine

/-- A running pacing timer armed anew for the last notice instant plus the notice gap; an instant at or before now expires at once (R156). -/
def State.rearmPacing (s : State) : State :=
  match s.events.pacing, s.events.lastNotice with
  | some _, some l =>
    let t := plus l (s.settings.noticeGap * 1000)
    if atOrBefore t s.now then State.queueNotice { s with events := { s.events with pacing := none } }
    else { s with events := { s.events with pacing := some t } }
  | _, _ => s

/-- An accepted settings record (R149): the source tracker clamps its entries and re-arms its check timers (R134), the whole busy set is handed on as an
addition, one search is made, and the pacing timer is re-armed. -/
def State.applySettings (s : State) (c : Settings) : State :=
  let t := Track.armAll (Track.begin (s.withSettings c).clampSources)
  let s₁ := (t.state.addBusyAll t.additions).addBusy .whole
  ((s₁.search false).setFlags t.raised).rearmPacing

/-- LOAD_SETTINGS, code 96 (R149). -/
def execLoadSettings (target : Byte) (data : List Byte) (s : State) : Out :=
  s.live fun s =>
    s.command 96 target data (refuseIf false false (readSettingsImage data).isNone) 0 fun s =>
      match readSettingsImage data with
      | some c => (s.applySettings c, [])
      | none => (s, [])

/-- READ_SETTINGS, code 97 (R149). -/
def execReadSettings (target : Byte) (data : List Byte) (s : State) : Out :=
  s.live fun s =>
    s.command 97 target data (refuseIf false false (!data.isEmpty)) 31 fun s => (s, settingsImage s.settings)

/-- SNAPSHOT, code 98 (R150). -/
def execSnapshot (target : Byte) (data : List Byte) (s : State) : Out :=
  s.live fun s =>
    s.command 98 target data (refuseIf false false (!data.isEmpty)) 110 fun s => (s, snapshotImage s)

/-- SET_EVENT_ENABLES, code 99 (R153). -/
def execSetEventEnables (target : Byte) (data : List Byte) (s : State) : Out :=
  s.live fun s =>
    s.command 99 target data (refuseIf false false (readEventBits data).isNone) 0 fun s =>
      (s.writeEnables ((readEventBits data).getD 0), [])

/-- The flags that a CLEAR_EVENTS names: all with target ALL, those of its mask with target 0; none when its data is refused (R153, R160). -/
def clearMask (target : Byte) (data : List Byte) : Option (BitVec 14) :=
  if target = 255 then (if data.isEmpty then some (BitVec.allOnes 14) else none) else readEventBits data

/-- CLEAR_EVENTS, code 100 (R153). -/
def execClearEvents (target : Byte) (data : List Byte) (s : State) : Out :=
  s.live fun s =>
    s.command 100 target data (refuseIf (target != 255 && target != 0) false (clearMask target data).isNone) 0 fun s =>
      (s.clearFlags ((clearMask target data).getD 0), [])

/-- The scope of a reset when a further RESET_PART is accepted: FULL when any named FULL (R151). -/
def ResetScope.join (old : Option ResetScope) (new : ResetScope) : ResetScope :=
  match old with
  | some .full => .full
  | _ => new

/-- A RESET_PART accepted: the reset waits for the list's response to be queued (R151). -/
def State.acceptReset (s : State) (scope : ResetScope) : State :=
  match s.engine.executing with
  | .executing l => s.withExecuting (.executing { l with reset := some (ResetScope.join l.reset scope) })
  | _ => s

/-- RESET_PART, code 101 (R151). -/
def execResetPart (target : Byte) (data : List Byte) (s : State) : Out :=
  s.live fun s =>
    s.command 101 target data (refuseIf false false (readScope data).isNone) 0 fun s =>
      match readScope data with
      | some scope => (s.acceptReset scope, [])
      | none => (s, [])

/-- UNKNOWN_COMMAND (R145, R160): a code that Table 11-10 does not list is reported BAD_OP, whatever its target and data. -/
def execUnknownCommand (code target : Byte) (data : List Byte) (s : State) : Out :=
  s.live fun s =>
    if knownCodes.contains code then s else s.command code target data (some .badOp) 0 fun s => (s, [])

/-- BROKEN_TAIL (R160). -/
def execBrokenTail (bytes : List Byte) (s : State) : Out := s.live fun s => s.reportTail bytes

/-- RESPONSE_QUEUED (R147). -/
def execResponseQueued (s : State) : Out := s.live State.queueResponse

end Sys2Proof.Machine
end

