-- ==== Sys2Proof/Machine/Dispatch.lean ====
section
/-! DEFINITION. Dispatch: one arm per command. -/

namespace Sys2Proof.Machine

/-- The effect of a command on everything but the queue of waiting commands. -/
def exec (i : Instr) (s : State) : Host.Outcome State Fault Refusal :=
  match i with
  | .powerOnReset => Sys2Proof.Machine.execPowerOnReset s
  | .northSyncGained => Sys2Proof.Machine.execNorthSyncGained s
  | .northSyncLost => Sys2Proof.Machine.execNorthSyncLost s
  | .southSyncGained => Sys2Proof.Machine.execSouthSyncGained s
  | .southSyncLost => Sys2Proof.Machine.execSouthSyncLost s
  | .northLaneHeader header => Sys2Proof.Machine.execNorthLaneHeader header s
  | .dataSlotReserved => Sys2Proof.Machine.execDataSlotReserved s
  | .dataFrame frame => Sys2Proof.Machine.execDataFrame frame s
  | .controlFrame frame => Sys2Proof.Machine.execControlFrame frame s
  | .rxdataFrame frame => Sys2Proof.Machine.execRxdataFrame frame s
  | .energyReport frame => Sys2Proof.Machine.execEnergyReport frame s
  | .txstat frame => Sys2Proof.Machine.execTxstat frame s
  | .radioRecord frame => Sys2Proof.Machine.execRadioRecord frame s
  | .northOutputChoice ready => Sys2Proof.Machine.execNorthOutputChoice ready s
  | .txdoneFrameSent => Sys2Proof.Machine.execTxdoneFrameSent s
  | .rxdataFrameSent => Sys2Proof.Machine.execRxdataFrameSent s
  | .statusFrameSent => Sys2Proof.Machine.execStatusFrameSent s
  | .southOutputStart ready => Sys2Proof.Machine.execSouthOutputStart ready s
  | .txdataFrameSent => Sys2Proof.Machine.execTxdataFrameSent s
  | .releaseArbiterRun ready => Sys2Proof.Machine.execReleaseArbiterRun ready s
  | .agingTimerExpiry queue => Sys2Proof.Machine.execAgingTimerExpiry queue s
  | .windowTimerExpiry => Sys2Proof.Machine.execWindowTimerExpiry s
  | .committedUntilExpiry => Sys2Proof.Machine.execCommittedUntilExpiry s
  | .outstandingStaleExpiry id => Sys2Proof.Machine.execOutstandingStaleExpiry id s
  | .coverageAgingExpiry => Sys2Proof.Machine.execCoverageAgingExpiry s
  | .checkTimerExpiry slot => Sys2Proof.Machine.execCheckTimerExpiry slot s
  | .ringEndTimerExpiry => Sys2Proof.Machine.execRingEndTimerExpiry s
  | .ringLoadTimerExpiry index => Sys2Proof.Machine.execRingLoadTimerExpiry index s
  | .pacingTimerExpiry => Sys2Proof.Machine.execPacingTimerExpiry s
  | .openQueue target data => Sys2Proof.Machine.execOpenQueue target data s
  | .pauseQueue target data => Sys2Proof.Machine.execPauseQueue target data s
  | .resumeQueue target data => Sys2Proof.Machine.execResumeQueue target data s
  | .drainQueue target data => Sys2Proof.Machine.execDrainQueue target data s
  | .clearQueueFlags target data => Sys2Proof.Machine.execClearQueueFlags target data s
  | .readQueue target data => Sys2Proof.Machine.execReadQueue target data s
  | .loadRate target data => Sys2Proof.Machine.execLoadRate target data s
  | .readRate target data => Sys2Proof.Machine.execReadRate target data s
  | .takeSource target data => Sys2Proof.Machine.execTakeSource target data s
  | .writeSource target data => Sys2Proof.Machine.execWriteSource target data s
  | .releaseSource target data => Sys2Proof.Machine.execReleaseSource target data s
  | .freeSource target data => Sys2Proof.Machine.execFreeSource target data s
  | .readSources target data => Sys2Proof.Machine.execReadSources target data s
  | .startRing target data => Sys2Proof.Machine.execStartRing target data s
  | .stopRing target data => Sys2Proof.Machine.execStopRing target data s
  | .loadReservations target data => Sys2Proof.Machine.execLoadReservations target data s
  | .readRing target data => Sys2Proof.Machine.execReadRing target data s
  | .readSurvey target data => Sys2Proof.Machine.execReadSurvey target data s
  | .clearSurvey target data => Sys2Proof.Machine.execClearSurvey target data s
  | .loadSettings target data => Sys2Proof.Machine.execLoadSettings target data s
  | .readSettings target data => Sys2Proof.Machine.execReadSettings target data s
  | .snapshot target data => Sys2Proof.Machine.execSnapshot target data s
  | .setEventEnables target data => Sys2Proof.Machine.execSetEventEnables target data s
  | .clearEvents target data => Sys2Proof.Machine.execClearEvents target data s
  | .resetPart target data => Sys2Proof.Machine.execResetPart target data s
  | .unknownCommand code target data => Sys2Proof.Machine.execUnknownCommand code target data s
  | .brokenTail bytes => Sys2Proof.Machine.execBrokenTail bytes s
  | .responseQueued => Sys2Proof.Machine.execResponseQueued s
  | .receivedFrameDiscarded link frame => Sys2Proof.Machine.execReceivedFrameDiscarded link frame s
  | .resetInputAsserted => Sys2Proof.Machine.execResetInputAsserted s
  | .cancelFrameSent => Sys2Proof.Machine.execCancelFrameSent s
  | .airClockAdvance => Sys2Proof.Machine.execAirClockAdvance s

end Sys2Proof.Machine
end

