-- ==== Sys2Proof/Safety.lean ====
section
/-! DEFINITION. The terms in which claims are made: when a command of a CONTROL list is the next to execute and how it is answered, and
the laws that the manual says the part's records keep at every event. -/

namespace Sys2Proof

/-- The command of a CONTROL list that a row executes; none for a row that is no command. -/
def Instr.asCommand : Instr → Option Machine.Command
  | .openQueue target data => some { code := 16, target, data }
  | .pauseQueue target data => some { code := 17, target, data }
  | .resumeQueue target data => some { code := 18, target, data }
  | .drainQueue target data => some { code := 19, target, data }
  | .clearQueueFlags target data => some { code := 20, target, data }
  | .readQueue target data => some { code := 21, target, data }
  | .loadRate target data => some { code := 32, target, data }
  | .readRate target data => some { code := 33, target, data }
  | .takeSource target data => some { code := 48, target, data }
  | .writeSource target data => some { code := 49, target, data }
  | .releaseSource target data => some { code := 50, target, data }
  | .freeSource target data => some { code := 51, target, data }
  | .readSources target data => some { code := 52, target, data }
  | .startRing target data => some { code := 64, target, data }
  | .stopRing target data => some { code := 65, target, data }
  | .loadReservations target data => some { code := 66, target, data }
  | .readRing target data => some { code := 67, target, data }
  | .readSurvey target data => some { code := 80, target, data }
  | .clearSurvey target data => some { code := 81, target, data }
  | .loadSettings target data => some { code := 96, target, data }
  | .readSettings target data => some { code := 97, target, data }
  | .snapshot target data => some { code := 98, target, data }
  | .setEventEnables target data => some { code := 99, target, data }
  | .clearEvents target data => some { code := 100, target, data }
  | .resetPart target data => some { code := 101, target, data }
  | .unknownCommand code target data => some { code, target, data }
  | _ => none

namespace Machine

/-! ### Commands of a list -/

/-- The command is the next of the list in execution. -/
def State.atCommand (s : State) (l : ControlList) (c : Command) : Prop :=
  s.inReset = false ∧ s.engine.executing = .executing l ∧ l.commands.head? = some c

/-- The command is the next of the list in execution, and no earlier command of it was truncated. -/
def State.executes (s : State) (l : ControlList) (c : Command) : Prop := s.atCommand l c ∧ l.truncated = false

/-- The state with the list's next command reported: its result entry joins the response, and the list goes on or is complete. -/
def State.answered (s : State) (l : ControlList) (c : Command) (result : Result) (data : List Byte) : State :=
  s.withExecuting (l.report { code := c.code, result, data } (result == .truncated)).buffer

/-- The whole bytes of a command as a CONTROL payload carries it (section 11.5). -/
def Command.bytes (c : Command) : List Byte := [c.code, c.target] ++ toBytes 2 c.data.length ++ c.data

/-! ### Frames under way -/

/-- A frame that passes the checks of R5 is arriving on the north link: its lane header has been read (with a TXDONE slot reserved for a DATA
frame) and no part reset has executed since. -/
def State.northArriving (s : State) (f : LinkFrame) : Prop :=
  s.inReset = false ∧ s.north.synced = true ∧ s.north.input = .receiving f.header (needsSlot f.header) false
    ∧ passes .north f = true

/-- A frame that passes the checks of R5 arrives on the south link. -/
def State.southArriving (s : State) (f : LinkFrame) : Prop :=
  s.inReset = false ∧ s.south.synced = true ∧ passes .south f = true

/-! ### Admission -/

/-- The queue admits DATA frames: it is OPEN or PAUSED (R25). -/
def State.admitsOn (s : State) (q : Fin 16) : Prop := (s.queue q).state = .opened ∨ (s.queue q).state = .paused

/-- The first admission check of Table 2-4 that a DATA frame fails, as the result it gives and the subframe count reported (R23 to R26, R32). -/
def State.refusedAs (s : State) (f : LinkFrame) (result : DoneResult) (count : Nat) : Prop :=
  (readBundle f.payload = none ∧ result = .refusedFormat ∧ count = 0)
    ∨ ∃ b, readBundle f.payload = some b ∧ count = b.lengths.length
      ∧ ((16 ≤ f.header.lane.toNat ∧ result = .refusedQueue)
        ∨ ∃ q : Fin 16, f.header.lane.toNat = q.val
          ∧ (¬ s.admitsOn q ∧ result = .refusedQueue
            ∨ s.admitsOn q ∧ (s.queue q).config.depth ≤ (s.queue q).descriptors.length ∧ result = .refusedFull
            ∨ s.admitsOn q ∧ (s.queue q).descriptors.length < (s.queue q).config.depth ∧ s.rate b.rate = none ∧ result = .refusedRate
            ∨ s.admitsOn q ∧ (s.queue q).descriptors.length < (s.queue q).config.depth ∧ (s.rate b.rate).isSome = true
              ∧ (s.store.freeDescriptors = [] ∨ 128 * s.store.freeCells.length < b.lengths.sum) ∧ result = .refusedStore))

/-- A DATA frame passes the five admission checks: its bundle, and the queue that its lane names (R23 to R26). -/
def State.admitsFrame (s : State) (f : LinkFrame) (q : Fin 16) (b : Bundle) : Prop :=
  readBundle f.payload = some b ∧ f.header.lane.toNat = q.val ∧ s.admitsOn q
    ∧ (s.queue q).descriptors.length < (s.queue q).config.depth ∧ (s.rate b.rate).isSome = true
    ∧ s.store.freeDescriptors ≠ [] ∧ b.lengths.sum ≤ 128 * s.store.freeCells.length

/-! ### Busy time and bursts -/

/-- An instant is inside a busy interval of a source entry, [S + mP − lead, S + mP + D + trail) for an integer m (R54). -/
def Source.busyAt (c : Settings) (e : Source) (u : Instant) : Prop :=
  ∃ m : Int, m * (e.period : Int) - c.guardLead ≤ distance e.start u
    ∧ distance e.start u < m * (e.period : Int) + e.duration + c.guardTrail

/-- An instant is inside the current reservation of a RUNNING ring (R55). -/
def Ring.busyAt (r : Ring) (u : Instant) : Prop :=
  r.running = true ∧ atOrBefore (r.entry r.current).start u = true ∧ before u (r.entry r.current).stop = true

/-- An instant is inside a busy interval of an applicable source entry or of the ring (R54, R55). -/
def State.busyAt (s : State) (u : Instant) : Prop := (∃ e ∈ s.applicable, e.busyAt s.settings u) ∨ s.ring.busyAt u

/-- An instant is inside a busy interval of a busy-set addition (R65, R66). -/
def State.busyBy (s : State) (x : Addition) (u : Instant) : Prop :=
  match x with
  | .source i => ∃ e, (s.slot i).entry = some e ∧ e.applicable s.south.radio = true ∧ e.busyAt s.settings u
  | .ring => s.ring.busyAt u
  | .whole => s.busyAt u

/-- An addition cancels an outstanding release: it is FITTING, not cancelled before, not stale, its latest start is at or after now, and some instant
of [earliest start, window end) is busy by the addition (R94). -/
def State.cancelledBy (s : State) (x : Addition) (e : Outstanding) : Prop :=
  e.kind = .fitting ∧ e.cancelledSent = false ∧ e.stale = false
    ∧ ∃ l w, e.latest = some l ∧ e.windowEnd = some w ∧ atOrBefore s.clock.now l = true
      ∧ ∃ k, k < (w - e.earliest).toNat ∧ s.busyBy x (plus e.earliest k)

/-- Every busy interval's stored instants lie within 2^30 µs of an instant, and a RUNNING ring's current duration is in its range (R54, R135). -/
def State.busyNear (s : State) (u : Instant) : Prop :=
  (∀ e ∈ s.applicable, (distance e.start u).natAbs ≤ 1073741824)
    ∧ (s.ring.running = true → (distance (s.ring.entry s.ring.current).start u).natAbs ≤ 1073741824
      ∧ 1 ≤ (s.ring.entry s.ring.current).duration ∧ (s.ring.entry s.ring.current).duration ≤ 65535)

/-- The open burst after one evaluated sample (R105, R107): a burst of 2^20 µs or more is closed first, and the sample then evaluated as one that
can only start an UNCERTAIN burst. -/
def burstAfter (c : Settings) (stamp : Instant) (certain : Bool) (level : Int) (o : Option OpenBurst) : Option OpenBurst :=
  match o with
  | none => if c.onLevel ≤ level then some { start := stamp, certain, peak := level } else none
  | some b =>
    if 1048576 ≤ (stamp - b.start).toNat then
      if c.onLevel ≤ level then some { start := stamp, certain := false, peak := level } else none
    else if level < c.offLevel then none
    else some { b with peak := max b.peak level }

/-- A report continues the newest span, whose end is given: its continues flag is set and its first stamp lies within one sample interval of that
end (R101). -/
def EnergyReport.continuesAt (r : EnergyReport) (newest : Instant) : Prop :=
  r.continues = true ∧ atOrBefore (minus newest r.interval) r.first = true ∧ atOrBefore r.first (plus newest r.interval) = true

/-- A report continues the newest span of the coverage list (R101). -/
def State.reportContinues (s : State) (r : EnergyReport) : Prop :=
  ∃ older x, s.detector.spans = older ++ [x] ∧ r.continuesAt x.stop

/-- The stamp of a report's sample (R99). -/
def EnergyReport.stampOf (r : EnergyReport) (k : Nat) : Instant := plus r.first (k * r.interval)

/-- A sample of a detection report is evaluated: its stamp does not lie before the end of a newest span that the report continues (R105). -/
def State.hearsSample (s : State) (r : EnergyReport) (k : Nat) : Prop :=
  ∀ older x, s.detector.spans = older ++ [x] → r.continuesAt x.stop → before (r.stampOf k) x.stop = false

/-- Sample k of a detection report starts a burst, with a CERTAIN start, that is still open at the report's end, and no other burst starts or ends
within the report (R105, R106). -/
def State.startsBurst (s : State) (r : EnergyReport) (k : Nat) : Prop :=
  s.detector.burst = none ∧ s.hearsSample r k ∧ (k ≠ 0 ∨ s.reportContinues r)
    ∧ (∃ x, r.samples[k]? = some x ∧ s.settings.onLevel ≤ x)
    ∧ (∀ j x, j < k → r.samples[j]? = some x → s.hearsSample r j → x < s.settings.onLevel)
    ∧ ∀ j x, k < j → r.samples[j]? = some x → s.settings.offLevel ≤ x

/-- A detection report ends the open burst o at a stamp, and no other burst starts or ends within it: a sample of a continued report below the off
level, with a certain end, or the break before a report that does not continue, at the newest span's end and UNCERTAIN (R105 to R107). -/
def State.endsBurst (s : State) (r : EnergyReport) (o : OpenBurst) (stop : Instant) (certain : Bool) : Prop :=
  s.detector.burst = some o
    ∧ ((certain = true ∧ s.reportContinues r ∧ ∃ k, stop = r.stampOf k ∧ s.hearsSample r k
        ∧ (∃ x, r.samples[k]? = some x ∧ x < s.settings.offLevel)
        ∧ (∀ j x, j < k → r.samples[j]? = some x → s.hearsSample r j → s.settings.offLevel ≤ x)
        ∧ (∀ j, j ≤ k → s.hearsSample r j → (r.stampOf j - o.start).toNat < 1048576)
        ∧ ∀ j x, k < j → r.samples[j]? = some x → x < s.settings.onLevel)
      ∨ (certain = false ∧ ¬ s.reportContinues r ∧ (∃ older x, s.detector.spans = older ++ [x] ∧ stop = x.stop)
        ∧ ∀ x ∈ r.samples, x < s.settings.onLevel))

/-- Nothing but its samples makes a detection report change the source table: no check is deferred, and no span of the coverage list has reached its
age limit, nor does the report's own (R103, R119). -/
def State.onlySamplesTeach (s : State) (r : EnergyReport) : Prop :=
  (∀ i, (s.slot i).deferred = false)
    ∧ (∀ x ∈ s.detector.spans, atOrBefore (plus x.stop 1073741824) s.clock.now = false)
    ∧ atOrBefore (plus (r.stampOf r.samples.length) 1073741824) s.clock.now = false

/-! ### Source slots -/

/-- The slot that a new learned entry takes: the lowest FREE slot owned by LEARN; with none, the learning-owned ACQUIRING entry with the lowest match
count, the lowest slot among equals (R125). -/
def State.newSlotIs (s : State) (i : Fin 16) : Prop :=
  (s.slot i).owner = .learn
    ∧ (((s.slot i).entry = none ∧ ∀ j, j < i → ¬ ((s.slot j).owner = .learn ∧ (s.slot j).entry = none))
      ∨ ((∀ j, (s.slot j).owner = .learn → (s.slot j).entry ≠ none)
        ∧ ∃ e, (s.slot i).entry = some e ∧ e.state = .acquiring
          ∧ ∀ j f, (s.slot j).owner = .learn → (s.slot j).entry = some f → f.state = .acquiring →
              e.matchCount < f.matchCount ∨ (e.matchCount = f.matchCount ∧ i ≤ j)))

/-- No slot for a new learned entry: every slot owned by LEARN holds an entry that is not ACQUIRING (R125). -/
def State.noNewSlot (s : State) : Prop :=
  ∀ i, (s.slot i).owner = .learn → ∃ e, (s.slot i).entry = some e ∧ e.state ≠ .acquiring

/-- A learning-owned slot as a match leaves it: its check timer armed for the entry's check time, or, when that has passed, the occurrence judged
matched at once and S moved on (R118, R119, R122 step 7). -/
def matchedSlot (c : Settings) (now : Instant) (e : Source) : Slot :=
  let check := plus e.start (captureOf c e.kind)
  let next := plus e.start e.period
  if atOrBefore check now then
    { owner := .learn, entry := some { e with start := next, matched := false }, timer := some (plus next (captureOf c e.kind))
      deferred := false }
  else { owner := .learn, entry := some e, timer := some check, deferred := false }

/-! ### Laws of the records -/

/-- ATTN is asserted exactly when a flag is set whose enable is set (R154). -/
def Events.lawful (e : Events) : Prop := e.attn = decide (e.flags &&& e.enables ≠ 0)

/-- For every channel the busy count never exceeds the listen count, and both saturate at 2^32 − 1 (R111). -/
def Detector.lawful (d : Detector) : Prop := ∀ i : Fin 14, d.survey[i].busy ≤ d.survey[i].listen ∧ d.survey[i].listen ≤ 4294967295

/-- A RUNNING ring's current entry is valid and the end timer is armed for its end; an IDLE ring's timer is cancelled (R136). -/
def Ring.lawful (r : Ring) : Prop :=
  (r.running = true → (r.entry r.current).valid = true ∧ r.endTimer = some (r.entry r.current).stop)
    ∧ (r.running = false → r.endTimer = none)

/-- A channel of the 2.4 GHz band (section 4.6 of the scope file). -/
def isChannel (n : Nat) : Prop := 1 ≤ n ∧ n ≤ 14

/-- An entry lies in the ranges of Table 8-1 and R116 under a settings record. -/
def Source.lawful (c : Settings) (e : Source) : Prop :=
  64 ≤ e.duration ∧ e.duration + (c.guardLead + c.guardTrail + 256) ≤ e.period ∧ e.matchCount ≤ 255 ∧ e.missRun ≤ 32
    ∧ match e.kind with
      | .oven low high => c.ovenPeriodMin ≤ e.period ∧ e.period ≤ c.ovenPeriodMax ∧ isChannel low ∧ isChannel high ∧ low ≤ high
      | .beacon n _ => e.period % 1024 = 0 ∧ 10 ≤ e.period / 1024 ∧ e.period / 1024 ≤ 1000 ∧ isChannel n

/-- The radio's channel and its last channel are channels (R15). -/
def SouthLink.lawful (l : SouthLink) : Prop :=
  (∀ n, l.radio = .onChannel n → isChannel n) ∧ (∀ n, l.lastChannel = some n → isChannel n)

/-- The settings record is consistent (R148), the radio is on a channel, and every non-FREE source entry lies in its ranges. -/
def State.sourcesLawful (s : State) : Prop :=
  s.settings.consistent = true ∧ s.south.lawful ∧ ∀ (i : Fin 16) (e : Source), (s.slot i).entry = some e → e.lawful s.settings

/-- No two learning-owned BEACON entries hold the same BSS tag and channel (R127). -/
def State.beaconsDistinct (s : State) : Prop :=
  ∀ (i j : Fin 16) (n : Nat) (tag : BitVec 48) (e f : Source),
    (s.slot i).owner = .learn → (s.slot i).entry = some e → e.kind = .beacon n tag →
    (s.slot j).owner = .learn → (s.slot j).entry = some f → f.kind = .beacon n tag → i = j

/-- The descriptors of all sixteen queues, queue 0 first. -/
def State.allDescriptors (s : State) : List Descriptor := allQueues.flatMap fun q => (s.queue q).descriptors

/-- Every cell is on the free list or in the chain of exactly one descriptor, every descriptor number on the free list or in exactly one queue,
and every chain has the length its descriptor records (R18, R19, R20). -/
def State.storageLawful (s : State) : Prop :=
  (s.store.freeCells ++ s.allDescriptors.flatMap s.store.chain).Nodup
    ∧ s.store.freeCells.length + (s.allDescriptors.map Descriptor.cellCount).sum = 4096
    ∧ (s.store.freeDescriptors ++ s.allDescriptors.map Descriptor.number).Nodup
    ∧ s.store.freeDescriptors.length + s.allDescriptors.length = 1024
    ∧ ∀ d ∈ s.allDescriptors, (s.store.chain d).length = d.cellCount

/-- A reserved TXDONE slot is held by each descriptor and by the DATA frame being received, and by nothing else; no more than 1280 slots are
in use; and a frame held at the north input is one that needs a slot (R8, R11). -/
def State.slotsLawful (s : State) : Prop :=
  s.fifo.reserved = s.allDescriptors.length + (if s.north.input.holdsSlot then 1 else 0)
    ∧ s.fifo.reserved + s.fifo.filled.length ≤ 1280
    ∧ (∀ h reserved doomed, s.north.input = .receiving h reserved doomed → reserved = (needsSlot h && !doomed))
    ∧ ∀ h, s.north.input = .held h → needsSlot h = true

/-- A subframe's attempts are at most its queue's retry limit while PENDING, and at most one more otherwise (R79). -/
def Subframe.lawful (retry : Nat) (e : Subframe) : Prop :=
  14 ≤ e.length ∧ e.length ≤ 2400 ∧ e.attempts ≤ retry + 1 ∧ (e.state = .pending → e.attempts ≤ retry)

/-- A descriptor's subframe list is in ordinal order from 0, its entries lawful; while it is not outstanding none is OUT and some is PENDING
(R22, R29, R79). -/
def Descriptor.lawful (retry : Nat) (d : Descriptor) : Prop :=
  d.subframes.map Subframe.ordinal = List.range d.subframes.length ∧ d.subframes.length ≤ 32
    ∧ (∀ e ∈ d.subframes, e.lawful retry)
    ∧ (d.outstanding = none → (∀ e ∈ d.subframes, e.state ≠ .out) ∧ ∃ e ∈ d.subframes, e.state = .pending)

/-- A CLOSED queue is empty, a DRAINING one holds its outstanding head alone, only the head is ever outstanding, and an aging timer runs only for
the head of an OPEN queue (R37, R38, R43, R46). -/
def Queue.lawful (q : Fin 16) (x : Queue) : Prop :=
  (x.state = .closed → x.descriptors = [])
    ∧ (x.state = .draining → ∃ d, x.descriptors = [d] ∧ d.outstanding.isSome = true)
    ∧ (∀ d ∈ x.descriptors.tail, d.outstanding = none)
    ∧ (x.aging.isSome = true → x.state = .opened ∧ x.descriptors ≠ [])
    ∧ ∀ d ∈ x.descriptors, d.queue = q ∧ d.lawful x.config.retry

/-- The outstanding release table holds at most two entries with different ids and different queues; each belongs to the head of its queue, whose OUT
entries are its included ordinals, at least one; and every outstanding head has its entry (R22, R50, R78, R81, R85). -/
def State.tableLawful (s : State) : Prop :=
  s.gate.table.length ≤ 2
    ∧ (s.gate.table.map Outstanding.id).Nodup
    ∧ (s.gate.table.map Outstanding.queue).Nodup
    ∧ (∀ e ∈ s.gate.table, ∃ d, (s.queue e.queue).head = some d ∧ d.outstanding = some e.id ∧ d.number = e.descriptor
        ∧ (d.subframes.filter fun x => x.state == .out).map Subframe.ordinal = e.ordinals ∧ e.ordinals ≠ [])
    ∧ ∀ (q : Fin 16) (d : Descriptor) (id : BitVec 8), (s.queue q).head = some d → d.outstanding = some id →
        ∃ e ∈ s.gate.table, e.queue = q ∧ e.id = id

/-- While the south link is UNSYNCED the radio state is DOWN and the south output is empty; the window status is CLOSED_RADIO exactly outside
ON_CHANNEL, and no queue requests there (R14, R15, R16, R49, R56, R60). -/
def State.radioLawful (s : State) : Prop :=
  (s.south.synced = false →
      s.south.radio = .down ∧ s.south.txdata = [] ∧ s.south.cancels = [] ∧ s.south.sending = none)
    ∧ ((∃ n, s.south.radio = .onChannel n) ↔ s.window.status ≠ .closedRadio)
    ∧ ((∀ n, s.south.radio ≠ .onChannel n) → ∀ q, (s.queue q).request = false)

/-- The laws of the queues and of the outstanding releases together. -/
def State.releasesLawful (s : State) : Prop := (∀ q : Fin 16, (s.queue q).lawful q) ∧ s.tableLawful

end Machine
end Sys2Proof
end

