-- ==== Sys2Proof/Certificates/Slice0/Obligations.lean ====
section
/-! DEFINITION. The statements for the provers, by family of commands and kind of state. -/

open Sys2Proof Sys2Proof.Machine

/-! ### The block as a whole -/

/-- A step runs the command at the front of the queue on the state with the queue's rest. With no command waiting the block idles, which is
the model's choice (notes/assumptions/4.md). -/
def Obligations.StepRunsTheFrontCommand : Prop :=
  (∀ (c : Instr) (rest : List Instr) (s : State), s.pending = c :: rest → step s = exec c { s with pending := rest })
    ∧ (∀ (c : Instr) (s : State), step (s.withFront c) = exec c s)
    ∧ ∀ s : State, s.pending = [] → step s = .next s

/-- Every command takes a next state in every state, and leaves the queue of waiting commands alone. That no event faults is DEDUCED (notes/assumptions/1.md);
that an event which cannot occur in the state answers a next state, and that a power-on reset keeps the waiting queue, are the model's choices
(notes/assumptions/5.md, 4.md, 26.md). -/
def Obligations.EveryCommandTakesANextState : Prop :=
  ∀ (c : Instr) (s : State), ∃ t : State, exec c s = .next t ∧ t.pending = s.pending

/-- POWER_ON_RESET gives every block its power-on value (R162; R1, R2, R4, R11 to R15, R18, R19, R36, R50, R52, R68, R81, R83, R86, R113, R117, R143, R144,
R148, R152 to R157). The model's choices: the ready lines and the last channel as they read then (notes/assumptions/7.md, 24.md), the cells' bytes (3.md),
the waiting queue kept, and that while the reset input is asserted every block already holds its power-on value and no other event has an effect
(26.md). -/
def Obligations.PowerOnAndResetInput : Prop :=
  (∀ s : State, ∃ t : State, exec .powerOnReset s = .next t ∧ t.pending = s.pending ∧ t.inReset = false
      ∧ t.clock = { now := 0, marking := true, fullCount := some 0 }
      ∧ t.north =
          { synced := false, everSynced := false, input := .awaitHeader, partnerReady := false, sending := none, resend := none
            status := [], lastShared := .rxdata, passBuffer := [] }
      ∧ t.fifo = { reserved := 0, filled := [] }
      ∧ t.south =
          { synced := false, radio := .down, lastChannel := none, partnerReady := false, txdata := [], cancels := [], sending := none }
      ∧ t.store =
          { freeCells := (List.range' 0 4096).map (BitVec.ofNat 12), freeDescriptors := (List.range' 0 1024).map (BitVec.ofNat 10)
            memory := [], nextCell := [] }
      ∧ (∀ q, t.queue q =
          { state := .closed
            config := { priority := 0, depth := 0, hold := 0, ack := 0, retry := 0, mode := .gated, report := .summary }
            descriptors := [], refusedFlag := false, forcedFlag := false, droppedFlag := false, aging := none, request := false })
      ∧ (∀ level : Fin 4, t.pointers[level] = 15)
      ∧ t.window = { status := .closedRadio, saturated := false, clear := none, horizon := none, stop := none, timer := none }
      ∧ (∀ i, t.rate i = none) ∧ t.gate.table = [] ∧ t.gate.committed = none ∧ t.gate.nextId = 0
      ∧ t.detector.burst = none ∧ t.detector.spans = [] ∧ t.detector.agingTimer = none
      ∧ (∀ i : Fin 14, t.detector.survey[i] = { listen := 0, busy := 0 })
      ∧ (∀ i, t.slot i = { owner := .learn, entry := none, timer := none, deferred := false }) ∧ t.sources.record = none
      ∧ (∀ i, t.ring.entry i =
          { valid := false, wrap := false, last := false, start := 0, duration := 0, label := 0, loadTimer := none, stale := false })
      ∧ t.ring.running = false ∧ t.ring.startIndex = 0 ∧ t.ring.current = 0 ∧ t.ring.reason = none ∧ t.ring.lastLabel = none
      ∧ t.ring.endTimer = none
      ∧ t.engine = { executing := .empty, waiting := none, settings := Settings.default, lastDropped := none }
      ∧ t.events = { flags := 0, enables := 0, attn := false, noticeDue := false, pacing := none, lastNotice := none })
    ∧ (∀ s : State, exec .resetInputAsserted s =
        .next { State.reset with
          inReset := true, clock := { now := 0, marking := false, fullCount := none }, pending := s.pending })
    ∧ ∀ (c : Instr) (s : State), s.inReset = true → c ≠ .powerOnReset → c ≠ .resetInputAsserted → exec c s = .next s

/-- AIR_CLOCK_ADVANCE moves the count by one and carries the full count at each multiple of 4096; no other event but a power-on reset moves
the clock (R1, R2). -/
def Obligations.OnlyItsTickMovesTheAirClock : Prop :=
  (∀ s : State, s.inReset = false → exec .airClockAdvance s =
      .next { s with
        clock :=
          { now := s.clock.now + 1, marking := s.clock.marking
            fullCount := if (s.clock.now + 1).toNat % 4096 = 0 then some (s.clock.now + 1) else none } })
    ∧ ∀ (c : Instr) (s t : State), exec c s = .next t → c ≠ .airClockAdvance → c ≠ .powerOnReset → c ≠ .resetInputAsserted →
        t.clock.now = s.clock.now ∧ t.clock.marking = s.clock.marking
          ∧ (c ≠ .southSyncGained → t.clock.fullCount = s.clock.fullCount)

/-! ### The links -/

/-- The gains of synchronisation on both links and the loss on the north link (R2, R4, R8, R16, R157). A frame being sent at the loss becomes the first
that waits, and at most one STARTED waits after the loss where at most one waited before (R12). Which STARTED then stays is the model's choice
(notes/assumptions/13.md): one of scope POWER_ON is withdrawn when one of scope FULL waits, any other takes the place of one that waits. -/
def Obligations.SyncGainsAndNorthLoss : Prop :=
  (∀ s : State, s.inReset = false → s.north.synced = false → exec .northSyncGained s =
      .next { s with
        north :=
          { s.north with
            synced := true, everSynced := true
            status := if s.north.everSynced then s.north.status else s.north.status ++ [.started .powerOn] } })
    ∧ (∀ s : State, s.inReset = false → s.south.synced = false → exec .southSyncGained s =
        .next { s with
          south := { s.south with synced := true }
          clock := { s.clock with fullCount := some s.clock.now } })
    ∧ ∀ s : State, s.inReset = false → s.north.synced = true →
        let started := fun f : StatusFrame => f == .started .powerOn || f == .started .full
        let waiting := fun n : NorthLink =>
          (n.status.filter started).length
            + if n.resend = some (.status (.started .powerOn)) ∨ n.resend = some (.status (.started .full)) then 1 else 0
        let lost := fun (resend : Option NorthItem) (status : List StatusFrame) =>
          { s with
            fifo := { s.fifo with reserved := if s.north.input.holdsSlot then s.fifo.reserved - 1 else s.fifo.reserved }
            north := { s.north with synced := false, input := .awaitHeader, sending := none, resend, status } }
        (s.north.sending = none → exec .northSyncLost s = .next (lost s.north.resend s.north.status))
        ∧ (∀ x, s.north.sending = some x →
            ((∀ scope, x.item ≠ .status (.started scope)) → exec .northSyncLost s = .next (lost (some x.item) s.north.status))
            ∧ (x.item = .status (.started .powerOn) → .started .full ∈ s.north.status →
                exec .northSyncLost s = .next (lost none s.north.status))
            ∧ (∀ scope, x.item = .status (.started scope) → ¬ (scope = .powerOn ∧ .started .full ∈ s.north.status) →
                exec .northSyncLost s = .next (lost (some x.item) (s.north.status.filter fun f => !started f))))
        ∧ ∀ t, exec .northSyncLost s = .next t → waiting s.north ≤ 1 → waiting t.north ≤ 1

/-- Loss of south synchronisation: every outstanding release is resolved, in the order of decision, as SENT with an empty ack map (R97): each included
subframe is DROPPED above its queue's retry limit, with the queue's DROPPED flag and SUBFRAME_DROPPED, and PENDING otherwise; the first release stamp
is set when absent; a finished head, or one of a DRAINING queue, completes with its TXDONE record. The radio goes DOWN, the south output is emptied, the
window closes, the detector's list is emptied, and RADIO_LOST is set (R14 to R16, R110). -/
def Obligations.SouthSyncLossResolvesEveryRelease : Prop :=
  ∀ s : State, s.inReset = false → s.south.synced = true → ∃ t : State, exec .southSyncLost s = .next t
    ∧ t.south = { s.south with synced := false, radio := .down, txdata := [], cancels := [], sending := none }
    ∧ t.gate = { s.gate with table := [] }
    ∧ t.flag .radioLost = true ∧ t.events.enables = s.events.enables
    ∧ (s.south.radio ≠ .down → t.window = Window.powerOn ∧ t.detector.burst = none ∧ t.detector.spans = []
        ∧ t.detector.agingTimer = none ∧ ∀ q, (t.queue q).request = false)
    ∧ (s.south.radio = .down → t.window = s.window ∧ t.detector = s.detector ∧ t.sources = s.sources)
    ∧ (s.releasesLawful → ∀ q, ∀ d ∈ (t.queue q).descriptors, d.outstanding = none ∧ ∀ e ∈ d.subframes, e.state ≠ .out)
    ∧ (let lost := fun (e : Outstanding) (d : Descriptor) =>
          ({ d with
              subframes := d.subframes.map fun y =>
                if y.ordinal ∈ e.ordinals then
                  { y with state := if (s.queue e.queue).config.retry < y.attempts then .dropped else .pending }
                else y
              outstanding := none
              firstRelease := some (d.firstRelease.getD e.stamp) } : Descriptor)
        let completes := fun (k : Queue) (d : Descriptor) =>
          k.state = .draining ∨ ∀ y ∈ d.subframes, y.state = .delivered ∨ y.state = .dropped
        let completed : List (Queue × Descriptor) := s.gate.table.filterMap fun e =>
          (s.queue e.queue).head.bind fun d =>
            if completes (s.queue e.queue) (lost e d) then some (s.queue e.queue, lost e d) else none
        s.releasesLawful →
          t.fifo =
            { reserved := s.fifo.reserved - completed.length
              filled := s.fifo.filled ++ completed.map fun p => doneRecord p.1 p.2 s.clock.now }
          ∧ t.store = completed.foldl (fun f p => f.free p.2) s.store
          ∧ (∀ e ∈ s.gate.table, ∀ d rest, (s.queue e.queue).descriptors = d :: rest →
              let k := s.queue e.queue
              let drops := ∃ y ∈ d.subframes, y.ordinal ∈ e.ordinals ∧ k.config.retry < y.attempts
              (drops → (t.queue e.queue).droppedFlag = true ∧ t.flag .subframeDropped = true)
              ∧ (¬ drops → (t.queue e.queue).droppedFlag = k.droppedFlag)
              ∧ (t.queue e.queue).config = k.config ∧ (t.queue e.queue).refusedFlag = k.refusedFlag
              ∧ (t.queue e.queue).forcedFlag = k.forcedFlag
              ∧ (k.state = .draining →
                  (t.queue e.queue).descriptors = rest ∧ (t.queue e.queue).state = .closed ∧ t.flag .drainDone = true)
              ∧ (k.state ≠ .draining → completes k (lost e d) →
                  (t.queue e.queue).descriptors = rest ∧ (t.queue e.queue).state = k.state
                  ∧ (t.queue e.queue).aging =
                      (if k.state = .opened ∧ rest ≠ [] then some (plus s.clock.now (k.config.hold * 1000)) else none))
              ∧ (¬ completes k (lost e d) →
                  (t.queue e.queue).descriptors = lost e d :: rest ∧ (t.queue e.queue).state = k.state
                  ∧ (t.queue e.queue).aging = k.aging))
          ∧ ∀ q, (∀ e ∈ s.gate.table, e.queue ≠ q) → t.queue q = { s.queue q with request := (t.queue q).request })
    ∧ t.clock = s.clock ∧ t.ring = s.ring ∧ t.engine = s.engine ∧ t.pointers = s.pointers ∧ t.inReset = false
    ∧ t.detector.survey = s.detector.survey ∧ t.store.memory = s.store.memory
    ∧ t.north = { s.north with status := t.north.status }

/-- A lane header that needs a TXDONE slot reserves a free one or is held; a held frame reserves a slot that has become free; every other
header is received without a hold (R8). -/
def Obligations.DataHeaderReservesASlotOrWaits : Prop :=
  ∀ (s : State) (h : LaneHeader), s.inReset = false → s.north.synced = true →
    (s.north.input = .awaitHeader → h.kind = 1 → h.version = 1 → s.fifo.reserved + s.fifo.filled.length < 1280 →
      exec (.northLaneHeader h) s =
        .next { s with
          north := { s.north with input := .receiving h true false }
          fifo := { s.fifo with reserved := s.fifo.reserved + 1 } })
    ∧ (s.north.input = .awaitHeader → h.kind = 1 → h.version = 1 → 1280 ≤ s.fifo.reserved + s.fifo.filled.length →
      exec (.northLaneHeader h) s = .next { s with north := { s.north with input := .held h } }
        ∧ State.northInputReady { s with north := { s.north with input := .held h } } = false)
    ∧ (s.north.input = .awaitHeader → (h.kind ≠ 1 ∨ h.version ≠ 1) →
      exec (.northLaneHeader h) s = .next { s with north := { s.north with input := .receiving h false false } })
    ∧ (s.north.input = .held h → s.fifo.reserved + s.fifo.filled.length < 1280 →
      exec .dataSlotReserved s =
        .next { s with
          north := { s.north with input := .receiving h true false }
          fifo := { s.fifo with reserved := s.fifo.reserved + 1 } })
    ∧ (s.north.input = .held h → 1280 ≤ s.fifo.reserved + s.fifo.filled.length → exec .dataSlotReserved s = .next s)

/-- A received frame that fails the checks of R5 has no effect but LINK_ERROR and the return of its reservation, whichever event brings it; a frame
that a part reset has doomed is discarded without the flag (R5, R8, R17). -/
def Obligations.DiscardedFrameOnlySetsLinkError : Prop :=
  (∀ (s : State) (f : LinkFrame) (reserved : Bool) (i : Instr), s.inReset = false → s.north.synced = true →
      s.north.input = .receiving f.header reserved false → passes .north f = false →
      i ∈ [Instr.receivedFrameDiscarded .north f, .dataFrame f, .controlFrame f] →
      exec i s =
        .next (State.setFlag
          { s with
            north := { s.north with input := .awaitHeader }
            fifo := { s.fifo with reserved := if reserved then s.fifo.reserved - 1 else s.fifo.reserved } }
          .linkError))
    ∧ (∀ (s : State) (f : LinkFrame) (i : Instr), s.inReset = false → s.north.synced = true →
      s.north.input = .receiving f.header false true →
      i ∈ [Instr.receivedFrameDiscarded .north f, .dataFrame f, .controlFrame f] →
      exec i s = .next { s with north := { s.north with input := .awaitHeader } })
    ∧ ∀ (s : State) (f : LinkFrame) (i : Instr), s.inReset = false → s.south.synced = true → passes .south f = false →
      i ∈ [Instr.receivedFrameDiscarded .south f, .rxdataFrame f, .energyReport f, .txstat f, .radioRecord f] →
      exec i s = .next (s.setFlag .linkError)

/-! ### Event flags and NOTICE -/

/-- Setting an event flag: one already set stays; a flag going from clear to set makes ATTN follow, and with its enable set joins a NOTICE not begun,
queues one when the pacing timer is not running, or makes one due. That a NOTICE being sent still delays the next is the model's choice
(R152, R154, R155, R156; notes/assumptions/12.md). -/
def Obligations.SettingAFlagRaisesAttnAndANotice : Prop :=
  ∀ (s : State) (f : EventFlag),
    (s.flag f = true → s.setFlag f = s)
    ∧ (s.flag f = false → (s.events.enables.getLsbD f.index = false ∨ s.north.noticeWaits = true) →
        s.setFlag f =
          { s with
            events :=
              { s.events with
                flags := s.events.flags ||| BitVec.twoPow 14 f.index
                attn := decide ((s.events.flags ||| BitVec.twoPow 14 f.index) &&& s.events.enables ≠ 0) } })
    ∧ (s.flag f = false → s.events.enables.getLsbD f.index = true → s.north.noticeWaits = false → s.events.pacing = none →
        s.north.noticeSending = false →
        s.setFlag f =
          { s with
            north := { s.north with status := s.north.status ++ [.notice] }
            events :=
              { s.events with
                flags := s.events.flags ||| BitVec.twoPow 14 f.index
                attn := true, noticeDue := false, lastNotice := some s.clock.now
                pacing := if s.settings.noticeGap = 0 then none else some (plus s.clock.now (s.settings.noticeGap * 1000)) } })
    ∧ (s.flag f = false → s.events.enables.getLsbD f.index = true → s.north.noticeWaits = false →
        (s.events.pacing.isSome = true ∨ s.north.noticeSending = true) →
        s.setFlag f =
          { s with
            events :=
              { s.events with
                flags := s.events.flags ||| BitVec.twoPow 14 f.index, attn := true, noticeDue := true } })

/-! ### The frame store -/

/-- A refused DATA frame takes nothing, fills its TXDONE slot, sets FRAME_REFUSED and, on a queue's lane, that queue's REFUSED flag (R27); `refusedAs`
says which of the five checks fails first. -/
def Obligations.RefusedDataFrameFillsItsSlot : Prop :=
  ∀ (s : State) (f : LinkFrame) (result : DoneResult) (count : Nat), s.northArriving f → f.header.kind = 1 →
    s.refusedAs f result count →
    exec (.dataFrame f) s =
      .next (State.setFlag
        { s with
          north := { s.north with input := .awaitHeader }
          fifo :=
            { reserved := s.fifo.reserved - 1
              filled := s.fifo.filled ++
                [{ tag := f.header.sequence, queue := f.header.lane, result, count, delivered := 0, dropped := 0, releases := 0
                   forced := false, arrival := s.clock.now, firstRelease := none, completion := s.clock.now
                   ordinals := none }] }
          queues := Vector.ofFn fun q : Fin 16 =>
            if q.val = f.header.lane.toNat then { s.queue q with refusedFlag := true } else s.queue q }
        .frameRefused)

/-- An admitted DATA frame: its descriptor from the heads of the free lists joins the tail of its queue; as the new head of an OPEN queue it begins
to age, and the request is re-evaluated (R20, R22, R28, R46). -/
def Obligations.AdmittedDataFrameJoinsItsQueue : Prop :=
  ∀ (s : State) (f : LinkFrame) (q : Fin 16) (b : Bundle), s.northArriving f → f.header.kind = 1 → s.admitsFrame f q b →
    let cells := s.store.freeCells.take ((b.lengths.sum + 127) / 128)
    let x := s.queue q
    let d : Descriptor :=
      { number := s.store.freeDescriptors.headD 0, tag := f.header.sequence, queue := q, rate := b.rate, arrival := s.clock.now
        firstCell := cells.headD 0, cellCount := (b.lengths.sum + 127) / 128
        subframes := b.lengths.zipIdx.map fun p => { ordinal := p.2, length := p.1, attempts := 0, state := .pending }
        outstanding := none, firstRelease := none, aged := false, waited := false, forcedUsed := false, releases := 0 }
    let x' :=
      { x with
        descriptors := x.descriptors ++ [d]
        aging :=
          if x.descriptors = [] then
            (if x.state = .opened then some (plus s.clock.now (x.config.hold * 1000)) else none)
          else x.aging }
    let u := State.setQueue { s with north := { s.north with input := .awaitHeader }, store := s.store.takeIn b } q x'
    exec (.dataFrame f) s = .next (if x.descriptors = [] then u.reevaluate q else u)
      ∧ (s.store.takeIn b).freeCells = s.store.freeCells.drop ((b.lengths.sum + 127) / 128)
      ∧ (s.store.takeIn b).freeDescriptors = s.store.freeDescriptors.tail
      ∧ (s.store.freeCells.Nodup → (s.store.takeIn b).chain d = cells)

/-- The bodies of an admitted bundle stand end to end in the cells taken, every other byte reads as before, and each ordinal's body reads back from
its offset (R20). -/
def Obligations.AdmittedBodiesReadBack : Prop :=
  ∀ (s : State) (f : LinkFrame) (q : Fin 16) (b : Bundle), s.northArriving f → f.header.kind = 1 → s.admitsFrame f q b →
    s.store.memory.wf = true → s.store.freeCells.Nodup →
    ∃ (t : State) (d : Descriptor), exec (.dataFrame f) s = .next t ∧ (t.queue q).descriptors = (s.queue q).descriptors ++ [d]
      ∧ (∀ j, j < b.lengths.sum →
          t.store.memory.read (128 * (s.store.freeCells.getD (j / 128) 0).toNat + j % 128) = b.bodies.getD j 0)
      ∧ (∀ a, (∀ j, j < b.lengths.sum → a ≠ 128 * (s.store.freeCells.getD (j / 128) 0).toNat + j % 128) →
          t.store.memory.read a = s.store.memory.read a)
      ∧ ∀ o, o < b.lengths.length →
          t.store.body d o = (b.bodies.drop (b.lengths.take o).sum).take (b.lengths.getD o 0)

/-! ### CONTROL frames and responses -/

/-- A CONTROL frame enters the executing buffer, enters the waiting buffer, or is dropped as an overrun (R144). The model's reading
(notes/assumptions/11.md, DEDUCED): the frame's event executes no command itself, and an empty list is HOLDING at once. -/
def Obligations.ControlFrameTakesABuffer : Prop :=
  ∀ (s : State) (f : LinkFrame), s.northArriving f → f.header.kind = 2 →
    (s.engine.waiting = none → s.engine.executing = .empty →
      let p := readCommands f.payload
      let l : ControlList :=
        { sequence := f.header.sequence, commands := p.1, tail := p.2, results := []
          room := 4096 - 4 * (p.1.length + if p.2 = [] then 0 else 1), truncated := false, reset := none }
      exec (.controlFrame f) s =
        .next { s with
          north := { s.north with input := .awaitHeader }
          engine := { s.engine with executing := if p.1 = [] ∧ p.2 = [] then .holding l else .executing l } })
    ∧ (s.engine.waiting = none → s.engine.executing ≠ .empty →
      exec (.controlFrame f) s =
        .next { s with
          north := { s.north with input := .awaitHeader }
          engine := { s.engine with waiting := some { sequence := f.header.sequence, payload := f.payload } } })
    ∧ (s.engine.waiting ≠ none →
      exec (.controlFrame f) s =
        .next (State.setFlag
          { s with
            north := { s.north with input := .awaitHeader }
            engine := { s.engine with lastDropped := some f.header.sequence } }
          .controlOverrun))

/-- A complete response without a reset is queued once no RESPONSE waits, and the waiting list moves up; until then it is held (R144, R147). The model's
reading: RESPONSE_QUEUED is an event of its own (notes/assumptions/14.md, DEDUCED), and an empty list that moves up is HOLDING at once (11.md, DEDUCED). -/
def Obligations.ResponseQueuedMovesTheNextListUp : Prop :=
  ∀ (s : State) (l : ControlList), s.inReset = false → s.engine.executing = .holding l →
    (s.north.responseWaits = true → exec .responseQueued s = .next s)
    ∧ (s.north.responseWaits = false → l.reset = none →
      exec .responseQueued s =
        .next { s with
          north := { s.north with status := s.north.status ++ [.response l.sequence (responsePayload l.results)] }
          engine :=
            { s.engine with
              executing := (s.engine.waiting.map fun f => f.list.buffer).getD .empty
              waiting := none } })

/-- A part reset, executed within the event that queues its list's response, gives each block what its chapter says for the scope. Links: a frame being
received is doomed and a held one stays held, the buffers are emptied but for a frame in transmission, waiting STATUS frames stay before the RESPONSE
(R11 to R14, R17). Store, queues, releases and their tables as at power-on (R34, R36, R68, R86). The window unit, its timer cancelled and its saturation
clear, searches with a window-opened event while ON_CHANNEL (R52, R56, R62). Detector, sources, ring and engine as R113, R117, R143 and R151 say. The event
block keeps the pacing timer, the last notice instant and, at TRAFFIC, what is due, but for the flags that the reset itself sets (R152, R155 to R157).
The model's choices: the cells' bytes stand (notes/assumptions/3.md), a STARTED being sent does not wait (13.md); and its readings, DEDUCED: deferred
checks are judged within the event (23.md), RESPONSE_QUEUED is an event of its own (14.md), and an abandoned TXDONE or RXDATA frame goes with its buffer,
while one being sent is finished and holds no slot (21.md). -/
def Obligations.PartResetLeavesEachBlockAsSaid : Prop :=
  ∀ (s : State) (l : ControlList) (scope : ResetScope), s.inReset = false → s.engine.executing = .holding l →
    l.reset = some scope → s.north.responseWaits = false →
    let waiting := s.north.status ++ [.response l.sequence (responsePayload l.results)]
    ∃ t : State, exec .responseQueued s = .next t
      ∧ t.clock = s.clock ∧ t.inReset = false ∧ t.pending = s.pending
      ∧ .response l.sequence (responsePayload l.results) ∈ t.north.status
      ∧ t.north.synced = s.north.synced ∧ t.north.everSynced = s.north.everSynced ∧ t.north.partnerReady = s.north.partnerReady
      ∧ t.north.lastShared = .rxdata
      ∧ t.north.passBuffer = (if s.north.sendsRxdata then s.north.passBuffer.take 1 else [])
      ∧ (s.north.input = .awaitHeader → t.north.input = .awaitHeader)
      ∧ (∀ h, s.north.input = .held h → t.north.input = .held h)
      ∧ (∀ h reserved doomed, s.north.input = .receiving h reserved doomed → t.north.input = .receiving h false true)
      ∧ (s.north.sending = none → t.north.sending = none)
      ∧ (∀ x, s.north.sending = some x → ∃ item, t.north.sending = some { x with item }
          ∧ (∀ r held, x.item = .txdone r held → item = .txdone r false)
          ∧ ((∀ r held, x.item ≠ .txdone r held) → item = x.item))
      ∧ ((∀ f, s.north.resend ≠ some (.status f)) → t.north.resend = none)
      ∧ t.south = { s.south with txdata := [], cancels := [] }
      ∧ t.fifo = { reserved := 0, filled := [] }
      ∧ t.store =
          { freeCells := (List.range' 0 4096).map (BitVec.ofNat 12), freeDescriptors := (List.range' 0 1024).map (BitVec.ofNat 10)
            memory := s.store.memory, nextCell := [] }
      ∧ (∀ q, t.queue q = Queue.powerOn) ∧ (∀ level : Fin 4, t.pointers[level] = 15)
      ∧ ((∀ n, s.south.radio ≠ .onChannel n) → t.window = Window.powerOn)
      ∧ (∀ n, s.south.radio = .onChannel n →
          t.window = (State.search { t with window := { s.window with timer := none, saturated := false } } true).window
          ∧ (t.window.saturated = true → t.flag .channelSaturated = true))
      ∧ t.gate.table = [] ∧ t.gate.committed = s.gate.committed ∧ t.gate.nextId = s.gate.nextId
      ∧ t.detector.burst = none ∧ t.detector.spans = [] ∧ t.detector.agingTimer = none ∧ t.sources.record = none
      ∧ t.engine.executing = .empty ∧ t.engine.waiting = none
      ∧ (scope = .traffic →
          t.gate.rates = s.gate.rates ∧ t.detector.survey = s.detector.survey ∧ t.settings = s.settings
          ∧ t.engine.lastDropped = s.engine.lastDropped ∧ t.events.enables = s.events.enables
          ∧ t.ring = { s.ring with running := false, reason := some .command, endTimer := none }
          ∧ (s.ring.running = true → t.flag .ringStopped = true)
          ∧ (∀ f, s.flag f = true → t.flag f = true)
          ∧ (∀ f, f ≠ .ringStopped → f ≠ .channelSaturated → t.flag f = s.flag f)
          ∧ (s.ring.running = false → t.window.saturated = false → t.events = s.events ∧ t.north.status = waiting)
          ∧ (t.north.status = waiting ∧ t.events.pacing = s.events.pacing ∧ t.events.lastNotice = s.events.lastNotice
                ∧ (s.events.noticeDue = true → t.events.noticeDue = true)
              ∨ t.north.status = waiting ++ [.notice] ∧ s.north.noticeWaits = false ∧ s.events.pacing = none
                ∧ t.events.lastNotice = some s.clock.now ∧ t.events.noticeDue = false)
          ∧ (∀ f, s.north.resend = some (.status f) → t.north.resend = some (.status f))
          ∧ (∀ i, (t.slot i).owner = (s.slot i).owner)
          ∧ (∀ i, (s.slot i).deferred = false → t.slot i = s.slot i)
          ∧ (∀ i e, (s.slot i).deferred = true → (s.slot i).owner = .learn → (s.slot i).entry = some e → e.matched = false →
              let next := plus e.start e.period
              let check := plus next (captureOf s.settings e.kind)
              atOrBefore check s.clock.now = false →
              t.slot i = { owner := .learn, entry := some { e with start := next }, timer := some check, deferred := false }))
      ∧ (scope = .full →
          t.gate.rates = Vector.replicate 64 none ∧ t.detector = Detector.powerOn ∧ t.settings = Settings.default
          ∧ t.engine.lastDropped = none ∧ t.sources = Sources.powerOn ∧ t.ring = Ring.powerOn
          ∧ t.events = { s.events with flags := 0, enables := 0, attn := false, noticeDue := false }
          ∧ (.started .full ∈ t.north.status ∨ t.north.resend = some (.status (.started .full)))
          ∧ .started .powerOn ∉ t.north.status
          ∧ t.north.status = waiting.filter (fun f => f != .started .powerOn) ++
              (if .started .full ∈ s.north.status ∨ s.north.resend = some (.status (.started .full)) then [] else [.started .full])
          ∧ (s.north.resend = some (.status (.started .powerOn)) → t.north.resend = none)
          ∧ (∀ f, s.north.resend = some (.status f) → f ≠ .started .powerOn → t.north.resend = some (.status f)))

/-! ### Frames from the radio MAC -/

/-- An RXDATA frame is stored whole when it fits the 65 536 bytes of the pass buffer and dropped whole with RX_DROPPED otherwise, whatever its trailer
teaches the tracker; nothing else changes when the trailer is not learned from (R13). -/
def Obligations.RxdataFrameIsStoredWholeOrDropped : Prop :=
  ∀ (s : State) (f : LinkFrame), s.southArriving f → f.header.kind = 5 →
    let fits := (s.north.passBuffer.map fun g => g.payload.length + 8).sum + (f.payload.length + 8) ≤ 65536
    ((∀ x, readTrailer f.payload = some x → x.qualifies = false) →
      (fits → exec (.rxdataFrame f) s = .next { s with north := { s.north with passBuffer := s.north.passBuffer ++ [f] } })
      ∧ (¬ fits → exec (.rxdataFrame f) s = .next (s.setFlag .rxDropped)))
    ∧ ∃ t : State, exec (.rxdataFrame f) s = .next t
      ∧ (fits → t.north.passBuffer = s.north.passBuffer ++ [f])
      ∧ (¬ fits → t.north.passBuffer = s.north.passBuffer ∧ t.flag .rxDropped = true)

/-- What a qualifying beacon trailer teaches (R125 to R127). No BEACON entry of its tag and channel: a new learned entry in the slot that R125 chooses,
replacing an ACQUIRING one when no FREE slot is left, or SOURCE_TABLE_FULL and the table stands. A learned entry of that tag and channel: a match
corrects S by a quarter of the error and D by an eighth and counts toward the lock; another period, or an error beyond the capture, re-anchors
it in place; a second match of one occurrence changes nothing. Only host-owned entries: nothing changes. -/
def Obligations.BeaconTrailersTeachTheTable : Prop :=
  (∀ (e : Source) (b : Instant), 0 < e.period →
    ∃ m : Int, distance e.start b = m * (e.period : Int) + e.error b
      ∧ -(e.period : Int) < 2 * e.error b ∧ 2 * e.error b ≤ (e.period : Int))
  ∧ ∀ (s : State) (f : LinkFrame) (x : Trailer), s.southArriving f → f.header.kind = 5 → readTrailer f.payload = some x →
    x.qualifies = true →
    let c := s.settings
    let period := x.interval * 1024
    let measured := x.airtime + c.beaconTail
    let anchored : Source :=
      { kind := .beacon x.channel x.tag, state := if c.beaconLockCount ≤ 1 then .locked else .acquiring
        start := plus x.start period, period
        duration := clampNat 64 (period - c.guardLead - c.guardTrail - 256) measured
        matchCount := 1, missRun := 0, matched := false }
    let check := plus (plus x.start period) c.beaconCapture
    let outside := fun t : State =>
      t.detector = s.detector ∧ t.ring = s.ring ∧ t.engine = s.engine ∧ t.fifo = s.fifo ∧ t.store = s.store ∧ t.clock = s.clock
    ((∀ j e, (s.slot j).entry = some e → e.kind ≠ .beacon x.channel x.tag) →
      (∀ i, s.newSlotIs i → atOrBefore check s.clock.now = false →
        ∃ t : State, exec (.rxdataFrame f) s = .next t
          ∧ t.slot i = { owner := .learn, entry := some anchored, timer := some check, deferred := false }
          ∧ (∀ j, j ≠ i → t.slot j = s.slot j) ∧ t.sources.record = (s.sources.withdraw i).record
          ∧ (c.beaconLockCount ≤ 1 → t.flag .sourceLocked = true
              ∧ t.gate = (State.addBusy { s with sources := t.sources } (.source i)).gate)
          ∧ (1 < c.beaconLockCount → t.gate = s.gate) ∧ outside t)
      ∧ (s.noNewSlot → ∃ t : State, exec (.rxdataFrame f) s = .next t ∧ t.flag .sourceTableFull = true ∧ t.sources = s.sources))
    ∧ (∀ i e, s.sourcesLawful → s.beaconsDistinct → (s.slot i).owner = .learn → (s.slot i).entry = some e →
        e.kind = .beacon x.channel x.tag →
        let err := e.error x.start
        let seen := e.matched = true ∧ err = distance e.start x.start
        ∃ t : State, exec (.rxdataFrame f) s = .next t ∧ (∀ j, j ≠ i → t.slot j = s.slot j)
          ∧ t.sources.record = s.sources.record ∧ outside t
          ∧ (e.period = period → err.natAbs ≤ c.beaconCapture → seen → t.slot i = s.slot i)
          ∧ (e.period = period → err.natAbs ≤ c.beaconCapture → ¬ seen →
              let count := min 255 (e.matchCount + 1)
              let e' : Source :=
                { kind := e.kind
                  state := if e.state = .acquiring ∧ count < c.beaconLockCount then .acquiring else .locked
                  start := moved (moved x.start (-err)) (clampInt (-(c.phaseStepMax : Int)) c.phaseStepMax (err.tdiv 4))
                  period
                  duration := clampNat 64 (period - c.guardLead - c.guardTrail - 256)
                    ((e.duration : Int) + ((measured : Int) - e.duration).tdiv 8).toNat
                  matchCount := count, missRun := 0, matched := true }
              t.slot i = matchedSlot c s.clock.now e'
              ∧ (e.state = .acquiring → e'.state = .locked → t.flag .sourceLocked = true
                  ∧ t.gate = (State.addBusy { s with sources := t.sources } (.source i)).gate)
              ∧ (¬ (e.state = .acquiring ∧ e'.state = .locked) → t.gate = s.gate))
          ∧ ((e.period ≠ period ∨ c.beaconCapture < err.natAbs) → atOrBefore check s.clock.now = false →
              t.slot i = { owner := .learn, entry := some anchored, timer := some check, deferred := false }
              ∧ (c.beaconLockCount ≤ 1 → t.flag .sourceLocked = true)))
    ∧ ((∃ j e, (s.slot j).entry = some e ∧ e.kind = .beacon x.channel x.tag) →
        (∀ j e, (s.slot j).owner = .learn → (s.slot j).entry = some e → e.kind ≠ .beacon x.channel x.tag) →
        ∃ t : State, exec (.rxdataFrame f) s = .next t ∧ t.sources = s.sources ∧ t.gate = s.gate ∧ outside t)

/-- Every accepted ENERGY report adds each sample's interval to its channel's listen count, and to the busy count for the samples at or above the on
level; a survey-only report does nothing else (R99, R109, R111). -/
def Obligations.EnergyReportsCountInTheSurvey : Prop :=
  ∀ (s : State) (f : LinkFrame) (r : EnergyReport) (i : Fin 14), s.southArriving f → f.header.kind = 6 →
    readEnergy f.header f.payload = some r → r.channel = i.val + 1 → s.detector.lawful →
    ∃ t : State, exec (.energyReport f) s = .next t
      ∧ t.detector.survey[i] =
          { listen := min 4294967295 (s.detector.survey[i].listen + r.samples.length * r.interval)
            busy := min 4294967295
              (s.detector.survey[i].busy + (r.samples.filter fun x => decide (s.settings.onLevel ≤ x)).length * r.interval) }
      ∧ (∀ j : Fin 14, j ≠ i → t.detector.survey[j] = s.detector.survey[j])
      ∧ (s.south.radio ≠ .onChannel r.channel → t = { s with detector := { s.detector with survey := t.detector.survey } })
      ∧ t.clock = s.clock ∧ t.fifo = s.fifo ∧ t.store = s.store ∧ t.ring = s.ring ∧ t.engine = s.engine

/-- The coverage list after a detection report: the newest span moved on by a report that continues it, a new span appended within the 8 places, or
the new span alone when the stamps have gone backwards (R101, R102); without the oldest spans whose end plus 2^30 µs is at or before now, for which the
aging timer expires at once; and the timer (R3, R103). That it expires within the report's event is the model's reading (notes/assumptions/16.md, DEDUCED);
that a first stamp exactly 2^31 µs from the newest span's end counts as gone backwards is the model's choice (34.md), and so is that a span which
continued reports extend keeps its start, 2^31 µs and more behind its end too (35.md). -/
def Obligations.DetectionReportsExtendTheCoverage : Prop :=
  ∀ (s : State) (f : LinkFrame) (r : EnergyReport), s.southArriving f → f.header.kind = 6 →
    readEnergy f.header f.payload = some r → s.south.radio = .onChannel r.channel →
    let stop := plus r.first (r.samples.length * r.interval)
    let new : Span := { start := r.first, stop }
    let young := List.dropWhile fun x : Span => atOrBefore (plus x.stop 1073741824) s.clock.now
    ∃ t : State, exec (.energyReport f) s = .next t
      ∧ (s.detector.spans = [] → t.detector.spans = young [new])
      ∧ (∀ (older : List Span) (x : Span), s.detector.spans = older ++ [x] →
          (r.continuesAt x.stop → t.detector.spans = young (older ++ [{ start := x.start, stop }]))
          ∧ (¬ r.continuesAt x.stop → atOrBefore x.stop r.first = true →
              t.detector.spans = young ((if 8 ≤ s.detector.spans.length then s.detector.spans.tail else s.detector.spans) ++ [new]))
          ∧ (¬ r.continuesAt x.stop → atOrBefore x.stop r.first = false → t.detector.spans = young [new]))
      ∧ t.detector.agingTimer = t.detector.spans.head?.map fun x => plus x.stop 1073741824

/-- The open burst after a detection report: every sample of one that continues is evaluated from the newest span's end on, with certain starts; a
report that does not continue closes the burst first, and a start at its first sample is uncertain (R105, R106, R107). When the report leaves no span,
because every one had reached its age limit, an open burst is closed with them (R103; notes/assumptions/16.md, DEDUCED). -/
def Obligations.DetectionReportsOpenAndCloseBursts : Prop :=
  ∀ (s : State) (f : LinkFrame) (r : EnergyReport), s.southArriving f → f.header.kind = 6 →
    readEnergy f.header f.payload = some r → s.south.radio = .onChannel r.channel →
    ∃ t : State, exec (.energyReport f) s = .next t
      ∧ (t.detector.spans = [] → t.detector.burst = none)
      ∧ (∀ (older : List Span) (x : Span), s.detector.spans = older ++ [x] → r.continuesAt x.stop → t.detector.spans ≠ [] →
          t.detector.burst =
            r.samples.zipIdx.foldl
              (fun o p =>
                let stamp := plus r.first (p.2 * r.interval)
                if before stamp x.stop then o else burstAfter s.settings stamp true p.1 o)
              s.detector.burst)
      ∧ ((s.detector.spans = [] ∨ ∃ older x, s.detector.spans = older ++ [x] ∧ ¬ r.continuesAt x.stop) → t.detector.spans ≠ [] →
          t.detector.burst =
            r.samples.zipIdx.foldl
              (fun o p => burstAfter s.settings (plus r.first (p.2 * r.interval)) (decide (p.2 ≠ 0)) p.1 o) none)

/-- What bursts teach about ovens, for a detection report with one burst edge. A start event: the matched burst record names the OVEN entry nearest to it
within the oven capture, lowest slot among equals, or none; a learning-owned one takes a quarter of the error on S, a sixteenth on P, the channel
into its span, and counts toward the lock, with the addition that a lock hands on. An end event of the record's burst: a certain end of oven length
moves the matched entry's D by an eighth; an unmatched one founds an ACQUIRING entry of the default period; and the record is discarded (R121 to R125). -/
def Obligations.BurstsTeachTheOvens : Prop :=
  ∀ (s : State) (f : LinkFrame) (r : EnergyReport), s.southArriving f → f.header.kind = 6 →
    readEnergy f.header f.payload = some r → s.south.radio = .onChannel r.channel → s.sourcesLawful → s.onlySamplesTeach r →
    let c := s.settings
    let n := r.channel
    ∃ t : State, exec (.energyReport f) s = .next t
      ∧ t.fifo = s.fifo ∧ t.store = s.store ∧ t.ring = s.ring ∧ t.engine = s.engine ∧ t.clock = s.clock
      ∧ (∀ k, s.startsBurst r k →
          let b := r.stampOf k
          ((∀ j e low high, (s.slot j).entry = some e → e.kind = .oven low high → c.ovenCapture < (e.error b).natAbs) →
            t.sources = { s.sources with record := some { start := b, result := .unmatched } } ∧ t.gate = s.gate)
          ∧ ∀ i e low high, (s.slot i).entry = some e → e.kind = .oven low high → (e.error b).natAbs ≤ c.ovenCapture →
            (∀ j e' low' high', j ≠ i → (s.slot j).entry = some e' → e'.kind = .oven low' high' →
              (e.error b).natAbs < (e'.error b).natAbs ∨ ((e.error b).natAbs = (e'.error b).natAbs ∧ i < j)) →
            let err := e.error b
            let seen := e.matched = true ∧ err = distance e.start b
            t.sources.record = some { start := b, result := .slot i } ∧ (∀ j, j ≠ i → t.slot j = s.slot j)
            ∧ (((s.slot i).owner = .host ∨ seen) → t.slot i = s.slot i ∧ t.gate = s.gate)
            ∧ ((s.slot i).owner = .learn → ¬ seen →
                let count := min 255 (e.matchCount + 1)
                let period := clampNat c.ovenPeriodMin c.ovenPeriodMax ((e.period : Int) + clampInt (-8) 8 (err.tdiv 16)).toNat
                let e' : Source :=
                  { kind := .oven (min low n) (max high n)
                    state := if e.state = .acquiring ∧ count < c.ovenLockCount then .acquiring else .locked
                    start := moved (moved b (-err)) (clampInt (-(c.phaseStepMax : Int)) c.phaseStepMax (err.tdiv 4))
                    period
                    duration := clampNat 64 (period - c.guardLead - c.guardTrail - 256) e.duration
                    matchCount := count, missRun := 0, matched := true }
                t.slot i = matchedSlot c s.clock.now e'
                ∧ (e.state = .acquiring → e'.state = .locked → t.flag .sourceLocked = true
                    ∧ t.gate = (State.addBusy { s with sources := t.sources } (.source i)).gate
                    ∧ t.south = (State.addBusy { s with sources := t.sources } (.source i)).south)
                ∧ (¬ (e.state = .acquiring ∧ e'.state = .locked) → t.gate = s.gate ∧ t.south = s.south)))
      ∧ (∀ o stop certain, s.endsBurst r o stop certain →
          let measured := (stop - o.start).toNat
          let ofOven := c.ovenBurstMin ≤ measured ∧ measured ≤ c.ovenBurstMax
          t.gate = s.gate
          ∧ ((∀ v, s.sources.record = some v → v.start ≠ o.start) → t.sources = s.sources)
          ∧ (s.sources.record = some { start := o.start, result := .withdrawn } → t.sources = { s.sources with record := none })
          ∧ (∀ i, s.sources.record = some { start := o.start, result := .slot i } →
              t.sources.record = none ∧ (∀ j, j ≠ i → t.slot j = s.slot j)
              ∧ (∀ e low high, (s.slot i).owner = .learn → (s.slot i).entry = some e → e.kind = .oven low high → certain = true →
                  ofOven →
                  t.slot i =
                    { (s.slot i) with
                      entry := some
                        { e with
                          duration := clampNat 64 (e.period - c.guardLead - c.guardTrail - 256)
                            ((e.duration : Int) + ((measured : Int) - e.duration).tdiv 8).toNat } })
              ∧ (((s.slot i).owner = .host ∨ certain = false ∨ ¬ ofOven) → t.slot i = s.slot i))
          ∧ (s.sources.record = some { start := o.start, result := .unmatched } →
              t.sources.record = none
              ∧ (¬ ofOven → t.sources.slots = s.sources.slots)
              ∧ (ofOven → s.noNewSlot → t.sources.slots = s.sources.slots ∧ t.flag .sourceTableFull = true)
              ∧ (∀ i, ofOven → s.newSlotIs i →
                  let period := c.ovenPeriodDefault
                  let check := plus (plus o.start period) c.ovenCapture
                  atOrBefore check s.clock.now = false →
                  t.slot i =
                    { owner := .learn
                      entry := some
                        { kind := .oven n n, state := .acquiring, start := plus o.start period, period
                          duration := clampNat 64 (period - c.guardLead - c.guardTrail - 256) measured
                          matchCount := 1, missRun := 0, matched := false }
                      timer := some check, deferred := false }
                  ∧ ∀ j, j ≠ i → t.slot j = s.slot j)))

/-- A south frame whose payload cannot be read sets LINK_ERROR and nothing else; a TXSTAT that no release sent whole answers to sets STRAY_STATUS and
nothing else (R15, R87, R99, R159). -/
def Obligations.UnreadableAndStrayRecordsOnlySetAFlag : Prop :=
  ∀ (s : State) (f : LinkFrame), s.southArriving f →
    (f.header.kind = 6 → readEnergy f.header f.payload = none → exec (.energyReport f) s = .next (s.setFlag .linkError))
    ∧ (f.header.kind = 7 → readTxStat f.payload = none → exec (.txstat f) s = .next (s.setFlag .linkError))
    ∧ (f.header.kind = 8 → readRadio f.payload = none → exec (.radioRecord f) s = .next (s.setFlag .linkError))
    ∧ ∀ x, f.header.kind = 7 → readTxStat f.payload = some x →
        ((∀ e ∈ s.gate.table, e.id ≠ x.id) ∨ s.south.txdataUnsent x.id = true) →
        exec (.txstat f) s = .next (s.setFlag .strayStatus)

/-- A matched SENT TXSTAT: each included subframe is DELIVERED, DROPPED or PENDING by its ack flag and its attempts, the others stand (R90); the
release is resolved, and a finished or drained head completes (R29 to R31, R43, R88, R89, R91, R93). -/
def Obligations.SentTxStatResolvesItsRelease : Prop :=
  ∀ (s : State) (f : LinkFrame) (x : TxStat) (e : Outstanding) (d : Descriptor) (rest : List Descriptor),
    s.southArriving f → f.header.kind = 7 → readTxStat f.payload = some x → x.result = .sent → s.releasesLawful →
    e ∈ s.gate.table → e.id = x.id → s.south.txdataUnsent x.id = false → (s.queue e.queue).descriptors = d :: rest →
    let k := s.queue e.queue
    let acked := fun o : Nat => x.acks.getD (e.ordinals.idxOf o) false
    let d' : Descriptor :=
      { d with
        subframes := d.subframes.map fun y =>
          if y.ordinal ∈ e.ordinals then
            { y with
              state := if acked y.ordinal then .delivered else if k.config.retry < y.attempts then .dropped else .pending }
          else y
        outstanding := none
        firstRelease := some (d.firstRelease.getD e.stamp) }
    let drops := ∃ y ∈ d.subframes, y.ordinal ∈ e.ordinals ∧ acked y.ordinal = false ∧ k.config.retry < y.attempts
    let finished := ∀ y ∈ d'.subframes, y.state = .delivered ∨ y.state = .dropped
    let completed : DoneFifo := { reserved := s.fifo.reserved - 1, filled := s.fifo.filled ++ [doneRecord k d' s.clock.now] }
    ∃ t : State, exec (.txstat f) s = .next t
      ∧ t.gate = { s.gate with table := s.gate.table.filter fun y => y.id != e.id }
      ∧ t.south = { s.south with cancels := s.south.cancels.filter fun y => y.id != e.id }
      ∧ (drops → (t.queue e.queue).droppedFlag = true ∧ t.flag .subframeDropped = true)
      ∧ (¬ drops → (t.queue e.queue).droppedFlag = k.droppedFlag)
      ∧ (x.malformedFor e = true → t.flag .linkError = true)
      ∧ (k.state ≠ .draining → ¬ finished →
          (t.queue e.queue).descriptors = d' :: rest ∧ (t.queue e.queue).state = k.state ∧ (t.queue e.queue).aging = k.aging
          ∧ t.fifo = s.fifo ∧ t.store = s.store)
      ∧ (k.state ≠ .draining → finished →
          (t.queue e.queue).descriptors = rest ∧ (t.queue e.queue).state = k.state ∧ t.fifo = completed
          ∧ t.store = s.store.free d')
      ∧ (k.state = .draining →
          (t.queue e.queue).descriptors = rest ∧ (t.queue e.queue).state = .closed ∧ t.fifo = completed
          ∧ t.store = s.store.free d' ∧ t.flag .drainDone = true)
      ∧ (∀ p, p ≠ e.queue → t.queue p = s.queue p)
      ∧ t.clock = s.clock ∧ t.window = s.window ∧ t.detector = s.detector ∧ t.sources = s.sources ∧ t.ring = s.ring
      ∧ t.engine = s.engine ∧ t.pointers = s.pointers

/-- A matched EXPIRED or CANCELLED TXSTAT: every included ordinal goes back from OUT to PENDING with its attempt taken back, no flag is set, and the
total release count, the forced-used flag and the first release stamp stand (R92). -/
def Obligations.UnsentTxStatRestoresTheSubframes : Prop :=
  ∀ (s : State) (f : LinkFrame) (x : TxStat) (e : Outstanding) (d : Descriptor) (rest : List Descriptor),
    s.southArriving f → f.header.kind = 7 → readTxStat f.payload = some x → x.result ≠ .sent → s.releasesLawful →
    e ∈ s.gate.table → e.id = x.id → s.south.txdataUnsent x.id = false → (s.queue e.queue).descriptors = d :: rest →
    let d' : Descriptor :=
      { d with
        subframes := d.subframes.map fun y =>
          if y.ordinal ∈ e.ordinals then { y with state := .pending, attempts := y.attempts - 1 } else y
        outstanding := none }
    (∀ y ∈ d.subframes, y.ordinal ∈ e.ordinals → y.state = .out)
    ∧ ∃ t : State, exec (.txstat f) s = .next t
      ∧ t.gate = { s.gate with table := s.gate.table.filter fun y => y.id != e.id }
      ∧ t.south = { s.south with cancels := s.south.cancels.filter fun y => y.id != e.id }
      ∧ ((s.queue e.queue).state ≠ .draining →
          t = { s with gate := t.gate, south := t.south, queues := t.queues }
          ∧ t.queue e.queue = { s.queue e.queue with descriptors := d' :: rest, request := (t.queue e.queue).request })
      ∧ ((s.queue e.queue).state = .draining →
          (t.queue e.queue).descriptors = rest ∧ (t.queue e.queue).state = .closed
          ∧ t.fifo = { reserved := s.fifo.reserved - 1, filled := s.fifo.filled ++ [doneRecord (s.queue e.queue) d' s.clock.now] }
          ∧ t.flag .drainDone = true)
      ∧ (∀ g, g ≠ .drainDone → t.flag g = s.flag g)
      ∧ (t.queue e.queue).droppedFlag = (s.queue e.queue).droppedFlag
      ∧ ∀ p, p ≠ e.queue → t.queue p = s.queue p

/-- The radio state machine: CHANNEL, and BACK from AWAY, enter ON_CHANNEL, empty the detector and mark the heads of the OPEN queues; AWAY closes the
window and ends every request; neither resolves nor cancels a release; the other records change nothing (R15, R48, R56, R62, R110, R164). -/
def Obligations.RadioRecordMovesTheRadio : Prop :=
  ∀ (s : State) (f : LinkFrame) (r : RadioRecord), s.southArriving f → f.header.kind = 8 → readRadio f.payload = some r →
    (∀ n, (r = .channel n ∨ r = .back ∧ s.south.radio = .away ∧ s.south.lastChannel = some n) →
      ∃ t : State, exec (.radioRecord f) s = .next t
        ∧ t.south = { s.south with radio := .onChannel n, lastChannel := some n } ∧ t.gate = s.gate
        ∧ t.detector.burst = none ∧ t.detector.spans = [] ∧ t.detector.agingTimer = none
        ∧ t.detector.survey = s.detector.survey ∧ t.window.status ≠ .closedRadio
        ∧ (∀ q, (s.queue q).state = .opened → ∀ d, (t.queue q).head = some d → d.waited = true)
        ∧ (∀ q, (t.queue q).state = (s.queue q).state ∧ (t.queue q).config = (s.queue q).config
            ∧ (t.queue q).descriptors.map Descriptor.subframes = (s.queue q).descriptors.map Descriptor.subframes)
        ∧ t.ring = s.ring ∧ t.engine = s.engine ∧ t.fifo = s.fifo ∧ t.store = s.store ∧ t.clock = s.clock)
    ∧ (∀ n, r = .away → s.south.radio = .onChannel n →
      ∃ t : State, exec (.radioRecord f) s = .next t
        ∧ t.south = { s.south with radio := .away } ∧ t.gate = s.gate ∧ t.window = Window.powerOn
        ∧ t.detector.burst = none ∧ t.detector.spans = [] ∧ t.detector.agingTimer = none
        ∧ t.detector.survey = s.detector.survey
        ∧ (∀ q, t.queue q = { s.queue q with request := false })
        ∧ t.ring = s.ring ∧ t.engine = s.engine ∧ t.fifo = s.fifo ∧ t.store = s.store ∧ t.clock = s.clock)
    ∧ ((r = .away ∧ (∀ n, s.south.radio ≠ .onChannel n) ∨ r = .back ∧ s.south.radio ≠ .away) →
      exec (.radioRecord f) s = .next s)

/-! ### The two outputs -/

/-- The north transmitter, free on a SYNCED link with the partner ready, sends an abandoned frame again, else the oldest STATUS, else TXDONE and RXDATA
by turns (R4, R10, R12); what is sent whole gives up its place (R11, R13). The model's choices: the ready line is sampled by the event (notes/assumptions/7.md);
the end of a NOTICE queues the next one that is due (12.md); a held response is queued within the end of the RESPONSE before it (14.md, DEDUCED); and a
TXDONE frame being sent when a part reset emptied the FIFO holds no slot (21.md, DEDUCED). -/
def Obligations.NorthOutputChoosesByRank : Prop :=
  (∀ s : State, s.inReset = false → s.north.synced = true → s.north.sending = none →
    let n := { s.north with partnerReady := true }
    exec (.northOutputChoice false) s = .next { s with north := { s.north with partnerReady := false } }
    ∧ (∀ item g, s.north.resend = some item → s.itemFrame item = some g →
        exec (.northOutputChoice true) s =
          .next { s with north := { n with resend := none, sending := some { item, frame := g } } })
    ∧ (∀ x rest, s.north.resend = none → s.north.status = x :: rest →
        exec (.northOutputChoice true) s =
          .next { s with north := { n with status := rest, sending := some { item := .status x, frame := s.statusFrame x } } })
    ∧ (∀ r rest, s.north.resend = none → s.north.status = [] → s.fifo.filled = r :: rest →
        (s.north.passBuffer = [] ∨ s.north.lastShared = .rxdata) →
        exec (.northOutputChoice true) s =
          .next { s with
            north :=
              { n with
                lastShared := .txdone
                sending := some { item := .txdone r true, frame := originate 4 0 r.tag 0 r.payload } } })
    ∧ (∀ g rest, s.north.resend = none → s.north.status = [] → s.north.passBuffer = g :: rest →
        (s.fifo.filled = [] ∨ s.north.lastShared = .txdone) →
        exec (.northOutputChoice true) s =
          .next { s with north := { n with lastShared := .rxdata, sending := some { item := .rxdata, frame := g } } })
    ∧ (s.north.resend = none → s.north.status = [] → s.fifo.filled = [] → s.north.passBuffer = [] →
        exec (.northOutputChoice true) s = .next { s with north := n }))
  ∧ ∀ (s : State) (x : NorthSending), s.inReset = false → s.north.sending = some x →
    let u := { s with north := { s.north with sending := none } }
    (∀ r held, x.item = .txdone r held →
      exec .txdoneFrameSent s =
        .next { u with fifo := { s.fifo with filled := if held then s.fifo.filled.tail else s.fifo.filled } })
    ∧ (x.item = .rxdata →
      exec .rxdataFrameSent s =
        .next { s with north := { s.north with sending := none, passBuffer := s.north.passBuffer.tail } })
    ∧ (∀ sq p, x.item = .status (.response sq p) → exec .statusFrameSent s = exec .responseQueued u)
    ∧ (x.item = .status .notice → exec .statusFrameSent s = .next u.queueNotice)
    ∧ ∀ scope, x.item = .status (.started scope) → exec .statusFrameSent s = .next u

/-- The south transmitter sends the oldest CANCEL first, otherwise the oldest TXDATA, whose subframes are read from the head's cells (R10, R14, R20). The
model's choice: the ready line is the event's operand, kept in partnerReady (notes/assumptions/7.md); and its reading: a TXDATA frame's bytes are fixed from
the cells at SOUTH_OUTPUT_START (25.md, DEDUCED). -/
def Obligations.SouthOutputSendsCancelsFirst : Prop :=
  (∀ s : State, s.inReset = false → s.south.synced = true → s.south.sending = none →
    let l := { s.south with partnerReady := true }
    exec (.southOutputStart false) s = .next { s with south := { s.south with partnerReady := false } }
    ∧ (∀ c rest, s.south.cancels = c :: rest →
        exec (.southOutputStart true) s =
          .next { s with
            south :=
              { l with
                cancels := rest
                sending := some { item := .cancel c.id, frame := originate 10 0 (c.id.setWidth 16) 0 c.payload } } })
    ∧ (∀ r rest d, s.south.cancels = [] → s.south.txdata = r :: rest → (s.queue r.queue).head = some d →
        exec (.southOutputStart true) s =
          .next { s with
            south :=
              { l with
                txdata := rest
                sending := some
                  { item := .txdata r.id
                    frame := originate 9 0 (r.id.setWidth 16) 0
                      (r.bytes d.lengthOf ++ r.ordinals.flatMap fun o => subframeBytes o (s.store.body d o)) } } })
    ∧ (s.south.cancels = [] → s.south.txdata = [] → exec (.southOutputStart true) s = .next { s with south := l }))
  ∧ ∀ (s : State) (x : SouthSending), s.inReset = false → s.south.sending = some x →
    (∀ id, x.item = .txdata id → exec .txdataFrameSent s = .next { s with south := { s.south with sending := none } })
    ∧ ∀ id, x.item = .cancel id → exec .cancelFrameSent s = .next { s with south := { s.south with sending := none } }

/-! ### The arbiter and the release gate -/

/-- A run of the release arbiter serves, at the highest requesting priority, the first requesting queue after the pointer, and decides its head's
release (R50, R78 to R85); with no releasable head every request is lost and no pointer moves (R51); without a free link or table entry nothing is
decided. The model's reading: one run goes on to the next requesting queue when a chosen head cannot be released (notes/assumptions/19.md, DEDUCED), and
the run samples the radio MAC's ready line (19.md, 7.md). -/
def Obligations.ArbiterReleasesTheChosenHead : Prop :=
  (∀ (s : State) (level : Fin 4) (q : Fin 16) (d : Descriptor) (r : Rate) (v : Verdict), s.inReset = false → s.south.synced = true →
    s.south.txdata = [] → (∀ x id, s.south.sending = some x → x.item ≠ .txdata id) → s.gate.table.length < 2 →
    (s.queue q).request = true → (s.queue q).config.priority = level.val →
    (∀ p, (s.queue p).request = true → (s.queue p).config.priority ≤ level.val) →
    (∀ p, (s.queue p).request = true → (s.queue p).config.priority = level.val →
      (q - s.pointers[level] - 1).val ≤ (p - s.pointers[level] - 1).val) →
    s.offer q = some (d, r, v) →
    let id := if s.gate.table.any fun e => e.id == s.gate.nextId then s.gate.nextId + 1 else s.gate.nextId
    let ordinals := ((d.subframes.filter fun e => e.state == .pending).take v.count).map Subframe.ordinal
    let u := s.releaseStart
    let required := d.required r (s.queue q).config.ack v.count
    let windowEnd := if v.kind = .fitting then s.window.horizon else none
    let latest := windowEnd.map fun h => minus h required
    ∃ t : State, exec (.releaseArbiterRun true) s = .next t
      ∧ t.pointers = s.pointers.set level q
      ∧ t.gate =
          { s.gate with
            table := s.gate.table ++
              [{ id, queue := q, descriptor := d.number, ordinals, kind := v.kind, earliest := u, latest, windowEnd
                 airtime := d.airtime r v.count, cancelledSent := false, stamp := s.clock.now, stale := false }]
            committed := some (plus u required), nextId := id + 1 }
      ∧ t.south =
          { s.south with
            partnerReady := true
            txdata := [{ id, queue := q, tag := d.tag, rate := d.rate, kind := v.kind, ordinals, earliest := u, latest, windowEnd
                         airtime := d.airtime r v.count }] }
      ∧ (∃ d', (t.queue q).head = some d' ∧ d'.number = d.number ∧ d'.tag = d.tag ∧ d'.outstanding = some id
          ∧ d'.subframes =
              (d.subframes.map fun e =>
                if e.ordinal ∈ ordinals then { e with state := .out, attempts := e.attempts + 1 } else e)
          ∧ d'.releases = min 255 (d.releases + 1) ∧ d'.forcedUsed = (d.forcedUsed || v.kind == .forced)
          ∧ d'.aged = d.aged ∧ d'.firstRelease = d.firstRelease)
      ∧ (t.queue q).forcedFlag = ((s.queue q).forcedFlag || v.kind == .forced)
      ∧ (v.kind = .forced → t.flag .frameForced = true) ∧ (t.queue q).request = false
      ∧ t.fifo = s.fifo ∧ t.store = s.store ∧ t.detector = s.detector ∧ t.sources = s.sources ∧ t.ring = s.ring
      ∧ t.engine = s.engine ∧ t.clock = s.clock)
  ∧ (∀ s : State, s.inReset = false → s.south.synced = true →
    s.south.txdata = [] → (∀ x id, s.south.sending = some x → x.item ≠ .txdata id) → s.gate.table.length < 2 →
    (∀ p, (s.queue p).request = true → (s.queue p).config.priority ≤ 3 ∧ s.offer p = none) →
    exec (.releaseArbiterRun true) s =
      .next { s with
        south := { s.south with partnerReady := true }
        queues := Vector.ofFn fun p : Fin 16 => { s.queue p with request := false } })
  ∧ ∀ (s : State) (ready : Bool), s.inReset = false →
    (ready = false ∨ s.south.synced = false ∨ s.south.txdata ≠ [] ∨ 2 ≤ s.gate.table.length) →
    exec (.releaseArbiterRun ready) s = .next { s with south := { s.south with partnerReady := ready } }

/-- A head offered as a fitting release carries the most subframes whose required time fits the window; its latest start is at or after its
earliest, and a required time later ends at the horizon (R72, R73, R74, R75, R80). -/
def Obligations.FittingReleaseStaysInItsWindow : Prop :=
  (∀ (d : Descriptor) (r : Rate) (ack j k : Nat), j ≤ k → d.required r ack j ≤ d.required r ack k)
  ∧ ∀ (s : State) (q : Fin 16) (d : Descriptor) (r : Rate) (v : Verdict), s.offer q = some (d, r, v) → v.kind = .fitting →
    ∃ h, s.window.horizon = some h ∧ before s.releaseStart h = true
      ∧ (let required := d.required r (s.queue q).config.ack
         let W := (h - s.releaseStart).toNat
         1 ≤ v.count ∧ v.count ≤ d.pendingEntries.length ∧ (∀ k, k ≤ v.count → required k ≤ W)
         ∧ (v.count < d.pendingEntries.length → W < required (v.count + 1))
         ∧ atOrBefore s.releaseStart (minus h (required v.count)) = true
         ∧ plus (minus h (required v.count)) (required v.count) = h)

/-- Airtime(k) of a head, from the first k entries of its pending prefix and its rate entry (R71). -/
def Obligations.AirtimeIsPricedByTheRateTable : Prop :=
  ∀ (d : Descriptor) (r : Rate) (k : Nat), 1 ≤ k → k ≤ d.pendingEntries.length →
    let included := (d.subframes.filter fun e => e.state == .pending).take k
    let bits := (included.map fun e => 8 * ((e.length + 3) / 4 * 4 + 4)).sum + r.fixedBits
    let symbols := (bits + r.bits - 1) / r.bits
    d.airtime r k = min 65535 ((r.preamble * 1000 + symbols * r.symbol + 999) / 1000)

/-- The judgement of a head under its queue's release mode, the window status and its aged and waited flags (Table 5-3; R49, R64, R67, R74 to R76). -/
def Obligations.JudgementFollowsTheReleaseMode : Prop :=
  ∀ (s : State) (q : Fin 16) (d : Descriptor) (r : Rate) (n : Nat), (s.queue q).head = some d → s.rate d.rate = some r →
    (¬ ((s.queue q).state = .opened ∧ d.outstanding = none) → s.offer q = none)
    ∧ ((s.queue q).state = .opened → d.outstanding = none → d.pendingEntries ≠ [] → s.south.radio = .onChannel n →
      let mode := (s.queue q).config.mode
      let u := s.releaseStart
      let entry := s.ring.entry s.ring.current
      let covered := s.ring.running = true ∧ atOrBefore entry.start u = true ∧ before u (plus entry.start entry.duration) = true
      let whole := some (d, r, ({ kind := .ungated, count := d.pendingEntries.length } : Verdict))
      let required := d.required r (s.queue q).config.ack
      (s.window.status = .closedRadio → s.offer q = none)
      ∧ (s.window.status = .saturated ∨ mode = .ungated ∧ s.window.status ≠ .closedRadio →
          (covered → s.offer q = none) ∧ (¬ covered → s.offer q = whole))
      ∧ (mode ≠ .ungated → s.window.status = .blocked → s.offer q = none)
      ∧ (mode ≠ .ungated → s.window.status = .opened → ∀ h, s.window.horizon = some h →
          (before u h = false → s.offer q = none)
          ∧ (before u h = true → required 1 ≤ (h - u).toNat → (d.aged = true ∨ mode = .gated ∨ d.waited = true) →
              ∃ k, 1 ≤ k ∧ s.offer q = some (d, r, { kind := .fitting, count := k }))
          ∧ (before u h = true → required 1 ≤ (h - u).toNat → ¬ (d.aged = true ∨ mode = .gated ∨ d.waited = true) →
              s.offer q = none)
          ∧ (before u h = true → (h - u).toNat < required 1 → d.aged = true →
              s.offer q = some (d, r, { kind := .forced, count := 1 }))
          ∧ (before u h = true → (h - u).toNat < required 1 → d.aged = false → s.offer q = none)))

/-! ### Timers and the window -/

/-- The expiries. Once its instant is reached: aging marks the head and re-evaluates the request, the window unit searches, committed-until becomes absent,
an outstanding or a reservation entry becomes stale, the oldest span goes, and with it each next one whose own instant has passed, a due NOTICE is
queued (R3, R47, R61, R83, R85, R103, R136, R156). While its timer is cancelled or armed for a later instant an expiry has no effect: the
model's choice for an event that cannot then occur (notes/assumptions/5.md). -/
def Obligations.ExpiriesActOnceTheirInstantIsReached : Prop :=
  ∀ s : State, s.inReset = false →
    (let waits := fun timer : Option Instant => ∀ a, timer = some a → atOrBefore a s.clock.now = false
     (∀ q, waits (s.queue q).aging → exec (.agingTimerExpiry q) s = .next s)
      ∧ (waits s.window.timer → exec .windowTimerExpiry s = .next s)
      ∧ (waits s.gate.committed → exec .committedUntilExpiry s = .next s)
      ∧ (∀ id, (∀ e ∈ s.gate.table, e.id = id → e.stale = true ∨ atOrBefore (plus e.stamp 1073741824) s.clock.now = false) →
          exec (.outstandingStaleExpiry id) s = .next s)
      ∧ (waits s.detector.agingTimer → exec .coverageAgingExpiry s = .next s)
      ∧ (∀ i, waits (s.slot i).timer → exec (.checkTimerExpiry i) s = .next s)
      ∧ (waits s.ring.endTimer → exec .ringEndTimerExpiry s = .next s)
      ∧ (∀ i, waits (s.ring.entry i).loadTimer → exec (.ringLoadTimerExpiry i) s = .next s)
      ∧ (waits s.events.pacing → exec .pacingTimerExpiry s = .next s))
    ∧ (∀ q a d rest, (s.queue q).aging = some a → atOrBefore a s.clock.now = true → (s.queue q).descriptors = d :: rest →
      exec (.agingTimerExpiry q) s =
        .next ((s.setQueue q { s.queue q with descriptors := { d with aged := true } :: rest, aging := none }).reevaluate q))
    ∧ (∀ a, s.window.timer = some a → atOrBefore a s.clock.now = true → exec .windowTimerExpiry s = .next (s.search false))
    ∧ (∀ a, s.gate.committed = some a → atOrBefore a s.clock.now = true →
      exec .committedUntilExpiry s = .next { s with gate := { s.gate with committed := none } })
    ∧ (∀ older newer e, s.gate.table = older ++ e :: newer → (∀ x ∈ older ++ newer, x.id ≠ e.id) →
      atOrBefore (plus e.stamp 1073741824) s.clock.now = true →
      exec (.outstandingStaleExpiry e.id) s =
        .next { s with gate := { s.gate with table := older ++ { e with stale := true } :: newer } })
    ∧ (∀ a gone y rest, s.detector.agingTimer = some a → atOrBefore a s.clock.now = true → gone ≠ [] →
      s.detector.spans = gone ++ y :: rest → (∀ x ∈ gone.tail, atOrBefore (plus x.stop 1073741824) s.clock.now = true) →
      atOrBefore (plus y.stop 1073741824) s.clock.now = false →
      exec .coverageAgingExpiry s =
        .next { s with
          detector := { s.detector with spans := y :: rest, agingTimer := some (plus y.stop 1073741824) } })
    ∧ (∀ a gone n, s.detector.agingTimer = some a → atOrBefore a s.clock.now = true → s.detector.spans = gone → gone ≠ [] →
      (∀ x ∈ gone.tail, atOrBefore (plus x.stop 1073741824) s.clock.now = true) → s.south.radio = .onChannel n →
      ∃ t : State, exec .coverageAgingExpiry s = .next t
        ∧ t.detector = { s.detector with burst := none, spans := [], agingTimer := none } ∧ t.fifo = s.fifo ∧ t.store = s.store
        ∧ t.ring = s.ring ∧ t.engine = s.engine ∧ t.clock = s.clock ∧ t.gate.rates = s.gate.rates)
    ∧ (∀ i a, (s.ring.entry i).loadTimer = some a → atOrBefore a s.clock.now = true →
      exec (.ringLoadTimerExpiry i) s =
        .next { s with
          ring := { s.ring with entries := s.ring.entries.set i { s.ring.entry i with loadTimer := none, stale := true } } })
    ∧ (∀ a, s.events.pacing = some a → atOrBefore a s.clock.now = true →
      (s.events.noticeDue = false → exec .pacingTimerExpiry s = .next { s with events := { s.events with pacing := none } })
      ∧ (s.events.noticeDue = true → s.north.noticeWaits = false → s.north.noticeSending = false →
        exec .pacingTimerExpiry s =
          .next { s with
            north := { s.north with status := s.north.status ++ [.notice] }
            events :=
              { s.events with
                noticeDue := false, lastNotice := some s.clock.now
                pacing :=
                  if s.settings.noticeGap = 0 then none else some (plus s.clock.now (s.settings.noticeGap * 1000)) } }))

/-- A search made while the radio is ON_CHANNEL finds the first instant from the search start that is in no busy interval, with a horizon before which no
busy time begins; it is saturated exactly when every instant of the 32 768 µs span is busy (R54, R55, R57 to R61). -/
def Obligations.SearchFindsTheFirstClearInstant : Prop :=
  ∀ (s : State) (opened : Bool) (n : Nat), s.sourcesLawful → s.south.radio = .onChannel n → s.busyNear s.releaseStart →
    let w := (s.search opened).window
    let u := s.releaseStart
    (w.status = .saturated ↔ ∀ k, k ≤ 32768 → s.busyAt (plus u k))
    ∧ (w.clear.isSome = true ↔ w.status = .opened ∨ w.status = .blocked) ∧ (w.horizon.isSome = w.clear.isSome)
    ∧ (∀ c, w.clear = some c →
        ∃ k, k ≤ 32768 ∧ c = plus u k ∧ ¬ s.busyAt c ∧ (∀ j, j < k → s.busyAt (plus u j)) ∧ (w.status = .opened ↔ k = 0))
    ∧ (∀ c h, w.clear = some c → w.horizon = some h →
        ∃ k, 1 ≤ k ∧ k ≤ s.settings.txopCeiling ∧ h = plus c k ∧ (∀ j, j < k → ¬ s.busyAt (plus c j))
          ∧ (k = s.settings.txopCeiling ∨ s.busyAt h))
    ∧ (w.status = .opened → w.timer = w.horizon) ∧ (w.status = .blocked → w.timer = w.clear)
    ∧ (w.status = .saturated → ∃ f, w.stop = some f ∧ w.timer = some (minus f 32768))

/-- A busy-set addition sets the cancelled-sent flag of exactly the cancellable FITTING releases whose [earliest start, window end) meets it, and places
their CANCEL frames behind those that wait, in the order of decision; outside ON_CHANNEL it does nothing (R65, R66, R94, R95). -/
def Obligations.BusyAdditionsCancelWhatTheyMeet : Prop :=
  ∀ (s : State) (x : Addition),
    ((∀ n, s.south.radio ≠ .onChannel n) → s.addBusy x = s)
    ∧ ∀ n, s.south.radio = .onChannel n → s.sourcesLawful →
      (∀ e ∈ s.gate.table, s.busyNear e.earliest
        ∧ ∀ w, e.windowEnd = some w → 1 ≤ (w - e.earliest).toNat ∧ (w - e.earliest).toNat ≤ 65535) →
      ∃ hit : Outstanding → Bool, (∀ e ∈ s.gate.table, hit e = true ↔ s.cancelledBy x e)
        ∧ s.addBusy x =
          { s with
            gate :=
              { s.gate with table := s.gate.table.map fun e => if hit e then { e with cancelledSent := true } else e }
            south :=
              { s.south with
                cancels := s.south.cancels ++ (s.gate.table.filter hit).map fun e =>
                  { id := e.id, queue := e.queue, tag := ((s.queue e.queue).head.map Descriptor.tag).getD 0
                    placed := s.clock.now } } }

/-! ### The source table -/

/-- The check of an occurrence, its next check time still to come: S moves by P for a host-owned, a matched and an unobserved entry, one that does not apply
or whose capture range the coverage list neither covers nor defers; a deferral keeps S; a miss moves the entry toward COASTING or frees it (R118, R119, R120). -/
def Obligations.CheckTimerExpiryJudgesTheOccurrence : Prop :=
  ∀ (s : State) (i : Fin 16) (a : Instant) (e : Source), s.inReset = false → (s.slot i).timer = some a →
    atOrBefore a s.clock.now = true → (s.slot i).entry = some e →
    let cap := captureOf s.settings e.kind
    let next := plus e.start e.period
    let first := minus e.start cap
    let last := plus e.start cap
    let applies := e.kind.appliesTo s.south.radio
    let advanced := fun e' : Source =>
      s.setSlot i { (s.slot i) with entry := some e', timer := some (plus next cap), deferred := false }
    atOrBefore (plus next cap) s.clock.now = false →
    ((s.slot i).owner = .host → exec (.checkTimerExpiry i) s = .next (advanced { e with start := next }))
    ∧ ((s.slot i).owner = .learn → e.matched = true →
        exec (.checkTimerExpiry i) s = .next (advanced { e with start := next, matched := false }))
    ∧ ((s.slot i).owner = .learn → e.matched = false →
        (applies = false
          ∨ (s.covered first last = false
            ∧ ∀ older x, s.detector.spans = older ++ [x] →
                ¬ (before first x.stop = true ∧ before x.stop last = true ∧ s.covered first x.stop = true))) →
        exec (.checkTimerExpiry i) s = .next (advanced { e with start := next }))
    ∧ (∀ older x, (s.slot i).owner = .learn → e.matched = false → applies = true → s.covered first last = false →
        s.detector.spans = older ++ [x] → before first x.stop = true → before x.stop last = true → s.covered first x.stop = true →
        exec (.checkTimerExpiry i) s = .next (s.setSlot i { (s.slot i) with timer := none, deferred := true }))
    ∧ ((s.slot i).owner = .learn → e.matched = false → applies = true → s.covered first last = true →
        (e.state = .acquiring → exec (.checkTimerExpiry i) s = .next (s.freeSlot i) ∧ ((s.freeSlot i).slot i).entry = none)
        ∧ (e.state ≠ .acquiring → e.missRun + 1 < s.settings.missLimit →
            ∃ t : State, exec (.checkTimerExpiry i) s = .next t
              ∧ t.sources = (advanced { e with state := .coasting, missRun := e.missRun + 1, start := next }).sources
              ∧ t.detector = s.detector ∧ t.ring = s.ring ∧ t.engine = s.engine ∧ t.fifo = s.fifo ∧ t.store = s.store)
        ∧ (e.state ≠ .acquiring → s.settings.missLimit ≤ e.missRun + 1 →
            ∃ t : State, exec (.checkTimerExpiry i) s = .next t ∧ t.sources = (s.freeSlot i).sources ∧ (t.slot i).entry = none
              ∧ (t.slot i).owner = .learn ∧ t.flag .sourceLost = true
              ∧ t.detector = s.detector ∧ t.ring = s.ring ∧ t.engine = s.engine ∧ t.fifo = s.fifo ∧ t.store = s.store))

/-- TAKE_SOURCE returns the owner it found with the entry and leaves HOST; RELEASE_SOURCE returns a host-owned entry to learning unless its tag and
channel are already learned; FREE_SOURCE frees the entry and keeps the owner (R129, R131, R132). That a command which changes nothing makes no search,
although R63 names it a trigger, is the model's reading (notes/assumptions/17.md, DEDUCED, unsafe); each real change makes one search. A slot of 16 to 255
is BAD_TARGET to each of them. -/
def Obligations.SourceCommandsMoveOwnership : Prop :=
  (∀ (s : State) (l : ControlList) (target : Byte) (data : List Byte), 16 ≤ target.toNat →
    let refused := fun (i : Instr) (code : Byte) =>
      s.executes l { code, target, data } → exec i s = .next (s.answered l { code, target, data } .badTarget [])
    refused (.takeSource target data) 48 ∧ refused (.releaseSource target data) 50 ∧ refused (.freeSource target data) 51)
  ∧ ∀ (s : State) (l : ControlList) (i : Fin 16) (target : Byte), target.toNat = i.val →
    (s.executes l { code := 48, target, data := [] } → 32 ≤ l.room →
      ((s.slot i).owner = .learn →
        exec (.takeSource target []) s =
          .next (((s.setSlot i { (s.slot i) with owner := .host }).search false).answered l { code := 48, target, data := [] } .ok
            (0 :: sourceImage s.settings i { (s.slot i) with owner := .host })))
      ∧ ((s.slot i).owner = .host →
        exec (.takeSource target []) s =
          .next (s.answered l { code := 48, target, data := [] } .ok (1 :: sourceImage s.settings i (s.slot i)))))
    ∧ (s.executes l { code := 50, target, data := [] } →
      ((s.slot i).owner = .learn →
        exec (.releaseSource target []) s = .next (s.answered l { code := 50, target, data := [] } .ok []))
      ∧ (∀ j e e' n tag, (s.slot i).owner = .host → (s.slot i).entry = some e → e.kind = .beacon n tag →
        (s.slot j).owner = .learn → (s.slot j).entry = some e' → e'.kind = .beacon n tag →
        exec (.releaseSource target []) s = .next (s.answered l { code := 50, target, data := [] } .busy []))
      ∧ ((s.slot i).owner = .host →
        (∀ j e e' n tag, (s.slot i).entry = some e → e.kind = .beacon n tag → (s.slot j).owner = .learn →
          (s.slot j).entry = some e' → e'.kind ≠ .beacon n tag) →
        exec (.releaseSource target []) s =
          .next (((s.setSlot i
            { (s.slot i) with owner := .learn, entry := (s.slot i).entry.map fun e => { e with missRun := 0 } }).search false).answered l
              { code := 50, target, data := [] } .ok [])))
    ∧ (s.executes l { code := 51, target, data := [] } →
      ((s.slot i).entry = none →
        exec (.freeSource target []) s = .next (s.answered l { code := 51, target, data := [] } .ok []))
      ∧ (∀ e, (s.slot i).entry = some e →
        exec (.freeSource target []) s = .next (((s.freeSlot i).search false).answered l { code := 51, target, data := [] } .ok [])
          ∧ (s.freeSlot i).slot i = { (s.slot i) with entry := none, timer := none, deferred := false }))

/-- WRITE_SOURCE writes a whole host-owned entry, with S moved by whole periods to the first occurrence whose check time lies after now; a
learning-owned slot is BUSY, a slot of 16 to 255 BAD_TARGET, and an entry that R130 does not accept BAD_VALUE (RecordImagesReadBack says which bytes are
accepted and as what); the entry written is a busy-set addition, followed by one search (R65, R118, R128, R130). -/
def Obligations.WriteSourceAlignsAHostEntry : Prop :=
  (∀ (s : State) (l : ControlList) (target : Byte) (data : List Byte), 16 ≤ target.toNat → s.executes l { code := 49, target, data } →
    exec (.writeSource target data) s = .next (s.answered l { code := 49, target, data } .badTarget []))
  ∧ ∀ (s : State) (l : ControlList) (i : Fin 16) (target : Byte) (data : List Byte), target.toNat = i.val →
    s.executes l { code := 49, target, data } →
    ((s.slot i).owner = .learn → exec (.writeSource target data) s = .next (s.answered l { code := 49, target, data } .busy []))
    ∧ ((s.slot i).owner = .host → readSourceImage s.settings s.clock.now data = none →
      exec (.writeSource target data) s = .next (s.answered l { code := 49, target, data } .badValue []))
    ∧ ∀ e, (s.slot i).owner = .host → readSourceImage s.settings s.clock.now data = some e →
      ∃ (t : State) (start : Instant), exec (.writeSource target data) s = .next (t.answered l { code := 49, target, data } .ok [])
        ∧ (∃ m : Int, start = moved e.start (m * (e.period : Int)))
        ∧ (let check := plus start (captureOf s.settings e.kind)
           1 ≤ (check - s.clock.now).toNat ∧ (check - s.clock.now).toNat ≤ e.period
           ∧ t.slot i = { owner := .host, entry := some { e with start }, timer := some check, deferred := false })
        ∧ (∀ j, j ≠ i → t.slot j = s.slot j) ∧ (t.sources.record = (s.sources.withdraw i).record)
        ∧ t = State.search (State.addBusy { s with sources := t.sources } (.source i)) false

/-! ### The reservation ring -/

/-- The current reservation's end is reached: the entry is consumed and its label recorded; the walk ends after a last entry or on an invalid one,
goes on to a valid entry, and passes a late or stale one as if its own end had been reached; then the current entry of a ring still RUNNING is handed on
as an addition, one search is made, and a stop sets RING_STOPPED (R141, R142). That the consumed entry keeps its load timer and its stale mark, which R136
and R141 leave open, is the model's reading (notes/assumptions/32.md, DEDUCED). -/
def Obligations.RingWalkConsumesAndAdvances : Prop :=
  ∀ (s : State) (a : Instant), s.inReset = false → s.ring.running = true → s.ring.endTimer = some a →
    atOrBefore a s.clock.now = true →
    let e := s.ring.entry s.ring.current
    let consumed : Ring :=
      { s.ring with entries := s.ring.entries.set s.ring.current { e with valid := false }, lastLabel := some e.label }
    let j : Fin 32 := if e.wrap then s.ring.startIndex else s.ring.current + 1
    ∃ t : State, exec .ringEndTimerExpiry s = .next t
      ∧ (e.last = true →
          t.ring = { consumed with running := false, reason := some .last, endTimer := none } ∧ t.flag .ringStopped = true)
      ∧ (e.last = false → (consumed.entry j).valid = false →
          t.ring = { consumed with current := j, running := false, reason := some .invalid, endTimer := none }
          ∧ t.flag .ringStopped = true)
      ∧ (e.last = false → (consumed.entry j).valid = true → (consumed.entry j).stale = false →
          atOrBefore (consumed.entry j).stop s.clock.now = false →
          t.ring = { consumed with current := j, endTimer := some (consumed.entry j).stop })
      ∧ (e.last = false → (consumed.entry j).valid = true →
          ((consumed.entry j).stale = true ∨ atOrBefore (consumed.entry j).stop s.clock.now = true) →
          t.ring = Ring.advance s.clock.now { consumed with current := j })
      ∧ t = State.setFlagIf
          (State.search (if t.ring.running then State.addBusy { s with ring := t.ring } .ring else { s with ring := t.ring }) false)
          (!t.ring.running) .ringStopped

/-- START_RING starts the walk at an index, stops it at once on an invalid entry, passes a late or stale one as the walk does, and is BUSY while the ring
runs; LOAD_RESERVATIONS writes its entries at successive indexes, is BUSY when it would reach the current entry of a RUNNING ring, and BAD_VALUE for a list
or an entry out of range; an index from 32 up is BAD_TARGET; STOP_RING makes a RUNNING ring IDLE with reason COMMAND and changes nothing in IDLE
(R136 to R139, R141, R142). That the duration of an entry written with valid clear is checked too is the model's reading of R139 (notes/assumptions/18.md,
DEDUCED), and that an entry consumed on the way keeps its load timer and stale mark 32.md (DEDUCED). -/
def Obligations.RingCommandsStartStopAndLoad : Prop :=
  (∀ (s : State) (l : ControlList) (target : Byte) (data : List Byte), 32 ≤ target.toNat →
    (s.executes l { code := 64, target, data } → exec (.startRing target data) s = .next (s.answered l { code := 64, target, data } .badTarget []))
    ∧ (s.executes l { code := 66, target, data } →
        exec (.loadReservations target data) s = .next (s.answered l { code := 66, target, data } .badTarget [])))
  ∧ (∀ (s : State) (l : ControlList) (target : Byte), s.executes l { code := 65, target, data := [] } →
    (s.ring.running = true →
      exec (.stopRing target []) s =
        .next ((State.setFlag
          (State.search { s with ring := { s.ring with running := false, reason := some .command, endTimer := none } } false)
          .ringStopped).answered l { code := 65, target, data := [] } .ok []))
    ∧ (s.ring.running = false → exec (.stopRing target []) s = .next (s.answered l { code := 65, target, data := [] } .ok [])))
  ∧ ∀ (s : State) (l : ControlList) (i : Fin 32) (target : Byte) (data : List Byte), target.toNat = i.val →
    (s.executes l { code := 64, target, data := [] } →
      (s.ring.running = true → exec (.startRing target []) s = .next (s.answered l { code := 64, target, data := [] } .busy []))
      ∧ (s.ring.running = false → (s.ring.entry i).valid = false →
        exec (.startRing target []) s =
          .next (((State.search
            { s with
              ring := { s.ring with startIndex := i, current := i, reason := some .invalid, endTimer := none } }
            false).setFlag .ringStopped).answered l { code := 64, target, data := [] } .ok []))
      ∧ (s.ring.running = false → (s.ring.entry i).valid = true → (s.ring.entry i).stale = false →
        atOrBefore (s.ring.entry i).stop s.clock.now = false →
        exec (.startRing target []) s =
          .next (((State.addBusy
            { s with
              ring := { s.ring with startIndex := i, current := i, running := true, endTimer := some (s.ring.entry i).stop } }
            .ring).search false).answered l { code := 64, target, data := [] } .ok []))
      ∧ (s.ring.running = false → (s.ring.entry i).valid = true →
        ((s.ring.entry i).stale = true ∨ atOrBefore (s.ring.entry i).stop s.clock.now = true) →
        let ring := Ring.advance s.clock.now { s.ring with startIndex := i, current := i, running := true }
        let u : State := { s with ring }
        exec (.startRing target []) s =
          .next ((((if ring.running then u.addBusy .ring else u).search false).setFlagIf (!ring.running) .ringStopped).answered l
            { code := 64, target, data := [] } .ok [])))
    ∧ (s.executes l { code := 66, target, data } →
      (s.ring.running = true → (s.ring.current - i).val < data.length / 8 →
        exec (.loadReservations target data) s = .next (s.answered l { code := 66, target, data } .busy []))
      ∧ (¬ (s.ring.running = true ∧ (s.ring.current - i).val < data.length / 8) →
        (data.length = 0 ∨ data.length % 8 ≠ 0 ∨ 256 < data.length) →
        exec (.loadReservations target data) s = .next (s.answered l { code := 66, target, data } .badValue []))
      ∧ (¬ (s.ring.running = true ∧ (s.ring.current - i).val < data.length / 8) →
        (∃ k, k < data.length / 8
          ∧ (let e := readRingEntry ((data.drop (8 * k)).take 8)
             e.duration = 0 ∨ 65535 < e.duration
              ∨ (e.valid = true ∧ 1073741824 ≤ (distance s.clock.now e.start).natAbs))) →
        exec (.loadReservations target data) s = .next (s.answered l { code := 66, target, data } .badValue []))
      ∧ ∀ n, data.length = 8 * n → 1 ≤ n → n ≤ 32 →
        (∀ k, k < n → ringEntryAccepted s.clock.now (readRingEntry ((data.drop (8 * k)).take 8)) = true) →
        ¬ (s.ring.running = true ∧ (s.ring.current - i).val < n) →
        exec (.loadReservations target data) s =
          .next (State.answered
            { s with
              ring :=
                { s.ring with
                  entries := Vector.ofFn fun j : Fin 32 =>
                    if (j - i).val < n then
                      let e := readRingEntry ((data.drop (8 * (j - i).val)).take 8)
                      { e with loadTimer := if e.valid then some (plus s.clock.now 1073741824) else none, stale := false }
                    else s.ring.entry j } }
            l { code := 66, target, data } .ok []))

/-! ### The survey -/

/-- READ_SURVEY returns all 14 entries and changes nothing; CLEAR_SURVEY sets a channel's counts, or all, to 0; other targets are BAD_TARGET; a report taken
after a clear gives the entry's first counts (R112). -/
def Obligations.SurveyCommandsReadAndClear : Prop :=
  ∀ (s : State) (l : ControlList) (target : Byte),
    (s.executes l { code := 80, target, data := [] } → 112 ≤ l.room →
      exec (.readSurvey target []) s = .next (s.answered l { code := 80, target, data := [] } .ok (surveyImage s.detector)))
    ∧ (s.executes l { code := 81, target, data := [] } →
      (∀ i : Fin 14, target.toNat = i.val + 1 →
        exec (.clearSurvey target []) s =
          .next (State.answered
            { s with detector := { s.detector with survey := s.detector.survey.set i { listen := 0, busy := 0 } } }
            l { code := 81, target, data := [] } .ok []))
      ∧ (target = 255 →
        exec (.clearSurvey target []) s =
          .next (State.answered
            { s with detector := { s.detector with survey := Vector.replicate 14 { listen := 0, busy := 0 } } }
            l { code := 81, target, data := [] } .ok []))
      ∧ ((target = 0 ∨ 15 ≤ target.toNat ∧ target.toNat ≤ 254) →
        exec (.clearSurvey target []) s = .next (s.answered l { code := 81, target, data := [] } .badTarget [])))
    ∧ ∀ (f : LinkFrame) (r : EnergyReport) (i : Fin 14), s.southArriving f → f.header.kind = 6 →
      readEnergy f.header f.payload = some r → r.channel = i.val + 1 → s.detector.survey[i] = { listen := 0, busy := 0 } →
      ∃ t : State, exec (.energyReport f) s = .next t
        ∧ t.detector.survey[i] =
            { listen := r.samples.length * r.interval
              busy := (r.samples.filter fun x => decide (s.settings.onLevel ≤ x)).length * r.interval }

/-! ### Queue and rate commands -/

/-- OPEN_QUEUE, PAUSE_QUEUE, RESUME_QUEUE and CLEAR_QUEUE_FLAGS on the queue they name, or on all with target 255 where that is accepted, and their
refusals; every queue command with a target of 16 to 254, and OPEN_QUEUE and READ_QUEUE with ALL, are BAD_TARGET (R39 to R42, R44, R46). -/
def Obligations.QueueCommandsChangeTheirQueues : Prop :=
  ∀ (s : State) (l : ControlList) (target : Byte) (data : List Byte),
    (let refused := fun (i : Instr) (code : Byte) =>
        s.executes l { code, target, data } → exec i s = .next (s.answered l { code, target, data } .badTarget [])
     (16 ≤ target.toNat → refused (.openQueue target data) 16 ∧ refused (.readQueue target data) 21)
      ∧ (16 ≤ target.toNat → target ≠ 255 →
          refused (.pauseQueue target data) 17 ∧ refused (.resumeQueue target data) 18 ∧ refused (.drainQueue target data) 19
          ∧ refused (.clearQueueFlags target data) 20))
    ∧ (∀ q, target.toNat = q.val → s.executes l { code := 16, target, data } →
      ((s.queue q).state ≠ .closed → exec (.openQueue target data) s = .next (s.answered l { code := 16, target, data } .busy []))
      ∧ ((s.queue q).state = .closed → readQueueConfig data = none →
        exec (.openQueue target data) s = .next (s.answered l { code := 16, target, data } .badValue []))
      ∧ ∀ c, (s.queue q).state = .closed → (s.queue q).descriptors = [] → readQueueConfig data = some c →
        exec (.openQueue target data) s =
          .next ((s.setQueue q { s.queue q with state := .opened, config := c, request := false }).answered l
            { code := 16, target, data } .ok []))
    ∧ (∀ q, target.toNat = q.val → ((s.queue q).state = .closed ∨ (s.queue q).state = .draining) →
      (s.executes l { code := 17, target, data } →
        exec (.pauseQueue target data) s = .next (s.answered l { code := 17, target, data } .busy []))
      ∧ (s.executes l { code := 18, target, data } →
        exec (.resumeQueue target data) s = .next (s.answered l { code := 18, target, data } .busy [])))
    ∧ ∀ qs : List (Fin 16), (target = 255 ∧ qs = allQueues ∨ ∃ q, target.toNat = q.val ∧ qs = [q]) →
      (s.executes l { code := 20, target, data := [] } →
        exec (.clearQueueFlags target []) s =
          .next (State.answered
            { s with
              queues := Vector.ofFn fun q : Fin 16 =>
                if q ∈ qs then { s.queue q with refusedFlag := false, forcedFlag := false, droppedFlag := false } else s.queue q }
            l { code := 20, target, data := [] } .ok []))
      ∧ ((target = 255 ∨ ∀ q ∈ qs, (s.queue q).state = .opened ∨ (s.queue q).state = .paused) →
        (s.executes l { code := 17, target, data := [] } →
          exec (.pauseQueue target []) s =
            .next (State.answered
              { s with
                queues := Vector.ofFn fun q : Fin 16 =>
                  if q ∈ qs ∧ (s.queue q).state = .opened then
                    { s.queue q with state := .paused, aging := none, request := false }
                  else s.queue q }
              l { code := 17, target, data := [] } .ok []))
        ∧ (s.executes l { code := 18, target, data := [] } →
          ∃ t : State, exec (.resumeQueue target []) s = .next (t.answered l { code := 18, target, data := [] } .ok [])
            ∧ t = { s with queues := t.queues }
            ∧ ∀ q, t.queue q =
                if q ∈ qs ∧ (s.queue q).state = .paused then
                  { s.queue q with
                    state := .opened
                    descriptors := (s.queue q).descriptors.modifyHead fun d => { d with aged := false }
                    aging :=
                      if (s.queue q).descriptors = [] then none
                      else some (plus s.clock.now ((s.queue q).config.hold * 1000))
                    request := (t.offer q).isSome }
                else s.queue q))

/-- DRAIN_QUEUE: every descriptor of an OPEN or PAUSED queue that is not outstanding completes DRAINED in list order and returns its storage; the queue
closes with DRAIN_DONE, or stays DRAINING with its outstanding head alone (R30, R31, R43). -/
def Obligations.DrainCompletesWaitingDescriptors : Prop :=
  ∀ (s : State) (l : ControlList) (target : Byte), s.executes l { code := 19, target, data := [] } →
    (∀ q, target.toNat = q.val → (s.queue q).state = .closed →
      exec (.drainQueue target []) s = .next (s.answered l { code := 19, target, data := [] } .busy []))
    ∧ (∀ q, target.toNat = q.val → (s.queue q).state = .draining →
      exec (.drainQueue target []) s = .next (s.answered l { code := 19, target, data := [] } .ok []))
    ∧ (∀ q, target.toNat = q.val → ((s.queue q).state = .opened ∨ (s.queue q).state = .paused) →
      let left := (s.queue q).descriptors.filter fun d => d.outstanding.isSome
      let done := (s.queue q).descriptors.filter fun d => d.outstanding.isNone
      let records := done.map fun d => doneRecord { s.queue q with state := .draining } d s.clock.now
      ∃ t : State, exec (.drainQueue target []) s = .next (t.answered l { code := 19, target, data := [] } .ok [])
        ∧ t.fifo = { reserved := s.fifo.reserved - done.length, filled := s.fifo.filled ++ records }
        ∧ (∀ r ∈ records, r.result = .drained)
        ∧ t.store.freeDescriptors = s.store.freeDescriptors ++ done.map Descriptor.number
        ∧ (s.storageLawful → t.store.freeCells = s.store.freeCells ++ done.flatMap s.store.chain)
        ∧ t.queue q =
            { s.queue q with
              state := if left = [] then .closed else .draining, descriptors := left, aging := none, request := false }
        ∧ (left = [] → t.flag .drainDone = true)
        ∧ (∀ p, p ≠ q → t.queue p = s.queue p)
        ∧ t.gate = s.gate ∧ t.south = s.south ∧ t.store.memory = s.store.memory ∧ t.engine = s.engine ∧ t.clock = s.clock)
    ∧ (target = 255 →
      ∃ t : State, exec (.drainQueue target []) s = .next (t.answered l { code := 19, target, data := [] } .ok [])
        ∧ ∀ q, (((s.queue q).state = .opened ∨ (s.queue q).state = .paused) →
              (t.queue q).descriptors = ((s.queue q).descriptors.filter fun d => d.outstanding.isSome)
              ∧ ((t.queue q).state = .closed ∨ (t.queue q).state = .draining))
            ∧ (((s.queue q).state = .closed ∨ (s.queue q).state = .draining) → t.queue q = s.queue q))

/-- LOAD_RATE writes the four fields of a rate entry together and every head is judged afresh, with no search and no busy-set addition; a wrong index or
a field out of range refuses it whole (R69). READ_RATE returns the entry as it stands, absent when invalid, and changes nothing (R70). -/
def Obligations.RateCommandsWriteAndRead : Prop :=
  ∀ (s : State) (l : ControlList) (target : Byte) (data : List Byte),
    (s.executes l { code := 32, target, data } →
      (64 ≤ target.toNat → exec (.loadRate target data) s = .next (s.answered l { code := 32, target, data } .badTarget []))
      ∧ ∀ i : Fin 64, target.toNat = i.val → data.length = 6 →
        let inRange := field data 0 1 ≤ 100 ∧ 1000 ≤ field data 1 2 ∧ field data 1 2 ≤ 16000 ∧ 6 ≤ field data 3 2
          ∧ field data 3 2 ≤ 4000 ∧ field data 5 1 ≤ 64
        (¬ inRange → exec (.loadRate target data) s = .next (s.answered l { code := 32, target, data } .badValue []))
        ∧ (inRange →
          exec (.loadRate target data) s =
            .next ((State.reevaluateAll
              { s with
                gate :=
                  { s.gate with
                    rates := s.gate.rates.set i
                      (some { preamble := field data 0 1, symbol := field data 1 2, bits := field data 3 2
                              fixedBits := field data 5 1 }) } }).answered l { code := 32, target, data } .ok [])))
    ∧ (s.executes l { code := 33, target, data := [] } →
      (64 ≤ target.toNat →
        exec (.readRate target []) s = .next (s.answered l { code := 33, target, data := [] } .badTarget []))
      ∧ ∀ i : Fin 64, target.toNat = i.val → 7 ≤ l.room →
        (s.rate i = none →
          exec (.readRate target []) s =
            .next (s.answered l { code := 33, target, data := [] } .ok [0, 0, 0, 0, 0, 0, 0]))
        ∧ ∀ r, s.rate i = some r →
          exec (.readRate target []) s =
            .next (s.answered l { code := 33, target, data := [] } .ok
              ([1] ++ toBytes 1 r.preamble ++ toBytes 2 r.symbol ++ toBytes 2 r.bits ++ toBytes 1 r.fixedBits)))

/-- READ_QUEUE, READ_SOURCES, READ_RING, READ_SETTINGS and SNAPSHOT return their records as they stand and change nothing; where the data does not fit the
room still free the command is TRUNCATED and nothing is returned. READ_SOURCES is BAD_TARGET for a first slot of 16 to 255 and BAD_VALUE for a count of 0,
one that reaches past slot 15, or one not carried as a single byte (R45, R133, R140, R146, R149, R150, R160). -/
def Obligations.ReadCommandsReturnRecordsUnchanged : Prop :=
  ∀ (s : State) (l : ControlList) (target : Byte),
    let reads := fun (i : Instr) (code : Byte) (data image : List Byte) =>
      s.executes l { code, target, data } →
        (image.length ≤ l.room → exec i s = .next (s.answered l { code, target, data } .ok image))
        ∧ (l.room < image.length → exec i s = .next (s.answered l { code, target, data } .truncated []))
    (∀ q, target.toNat = q.val → reads (.readQueue target []) 21 [] (queueImage (s.queue q)))
    ∧ (∀ n : Byte, 1 ≤ n.toNat → target.toNat + n.toNat ≤ 16 →
        reads (.readSources target [n]) 52 [n]
          (((allSlots.drop target.toNat).take n.toNat).flatMap fun i => sourceImage s.settings i (s.slot i)))
    ∧ (∀ data, s.executes l { code := 52, target, data } →
        (16 ≤ target.toNat → exec (.readSources target data) s = .next (s.answered l { code := 52, target, data } .badTarget []))
        ∧ (target.toNat < 16 → (data.length ≠ 1 ∨ ∃ n : Byte, data = [n] ∧ (n = 0 ∨ 16 < target.toNat + n.toNat)) →
          exec (.readSources target data) s = .next (s.answered l { code := 52, target, data } .badValue [])))
    ∧ reads (.readRing target []) 67 [] (ringImage s.ring)
    ∧ reads (.readSettings target []) 97 [] (settingsImage s.settings)
    ∧ reads (.snapshot target []) 98 [] (snapshotImage s)

/-! ### The command engine and the event block -/

/-- LOAD_SETTINGS replaces the whole record; an inconsistent one is BAD_VALUE and changes nothing. Every source entry is clamped to the new record and its
check timer re-armed; where none of those check times has passed, the whole busy set is then one addition, one search is made, and a running pacing
timer is re-armed for the last notice instant plus the new gap (R65, R116, R134, R148, R149, R156). -/
def Obligations.LoadSettingsReplacesTheRecord : Prop :=
  ∀ (s : State) (l : ControlList) (target : Byte) (data : List Byte), s.executes l { code := 96, target, data } →
    (readSettingsImage data = none →
      exec (.loadSettings target data) s = .next (s.answered l { code := 96, target, data } .badValue []))
    ∧ ∀ c, readSettingsImage data = some c →
      ∃ t : State, exec (.loadSettings target data) s = .next (t.answered l { code := 96, target, data } .ok [])
        ∧ t.engine = { s.engine with settings := c }
        ∧ (s.sourcesLawful → ∀ i e, (t.slot i).entry = some e → e.lawful c)
        ∧ (∀ i, (t.slot i).owner = (s.slot i).owner)
        ∧ t.detector = s.detector ∧ t.ring = s.ring ∧ t.fifo = s.fifo ∧ t.store = s.store ∧ t.clock = s.clock
        ∧ t.gate.rates = s.gate.rates ∧ t.gate.committed = s.gate.committed ∧ t.south.txdata = s.south.txdata
        ∧ ((∀ i, (s.slot i).entry = none) → t.sources = s.sources)
        ∧ (let clamped := fun e : Source =>
              let period :=
                match e.kind with
                | .oven _ _ => clampNat c.ovenPeriodMin c.ovenPeriodMax e.period
                | .beacon _ _ => e.period
              ({ e with period, duration := clampNat 64 (period - c.guardLead - c.guardTrail - 256) e.duration } : Source)
            let check := fun e : Source => plus e.start (captureOf c e.kind)
            (∀ i e, (s.slot i).entry = some e → atOrBefore (check e) s.clock.now = false) →
              (∀ i, (s.slot i).entry = none → t.slot i = s.slot i)
              ∧ (∀ i e, (s.slot i).entry = some e →
                  t.slot i =
                    { owner := (s.slot i).owner, entry := some (clamped e), timer := some (check e), deferred := false })
              ∧ t.sources.record = s.sources.record
              ∧ t = State.rearmPacing
                  (State.search
                    (State.addBusy { s with sources := t.sources, engine := { s.engine with settings := c } } .whole) false))
    ∧ ∀ u : State,
        ((u.events.pacing = none ∨ u.events.lastNotice = none) → u.rearmPacing = u)
        ∧ ∀ p m, u.events.pacing = some p → u.events.lastNotice = some m →
          let a := plus m (u.settings.noticeGap * 1000)
          (atOrBefore a u.clock.now = false → u.rearmPacing = { u with events := { u.events with pacing := some a } })
          ∧ (atOrBefore a u.clock.now = true →
              u.rearmPacing = State.queueNotice { u with events := { u.events with pacing := none } }
              ∧ (u.events.noticeDue = false → u.rearmPacing = { u with events := { u.events with pacing := none } }))

/-- SET_EVENT_ENABLES writes the 14 enables together and CLEAR_EVENTS clears the flags it names, or all with target 255; ATTN follows, and a field that names
more than the 14 is BAD_VALUE (R153, R154). That a NOTICE which is due stays due when the flags that made it due are cleared or disabled is the model's
choice (notes/assumptions/33.md). -/
def Obligations.EventCommandsWriteEnablesAndClearFlags : Prop :=
  ∀ (s : State) (l : ControlList) (target : Byte) (data : List Byte),
    (s.executes l { code := 99, target, data } → data.length = 2 →
      (16384 ≤ field data 0 2 → exec (.setEventEnables target data) s = .next (s.answered l { code := 99, target, data } .badValue []))
      ∧ (field data 0 2 < 16384 →
        let enables := BitVec.ofNat 14 (field data 0 2)
        exec (.setEventEnables target data) s =
          .next (State.answered
            { s with events := { s.events with enables, attn := decide (s.events.flags &&& enables ≠ 0) } }
            l { code := 99, target, data } .ok [])))
    ∧ (s.executes l { code := 100, target, data } →
      (target ≠ 0 → target ≠ 255 → exec (.clearEvents target data) s = .next (s.answered l { code := 100, target, data } .badTarget []))
      ∧ (target = 255 → data = [] →
        exec (.clearEvents target data) s =
          .next (State.answered { s with events := { s.events with flags := 0, attn := false } }
            l { code := 100, target, data } .ok []))
      ∧ (target = 0 → data.length = 2 → 16384 ≤ field data 0 2 →
        exec (.clearEvents target data) s = .next (s.answered l { code := 100, target, data } .badValue []))
      ∧ (target = 0 → data.length = 2 → field data 0 2 < 16384 →
        let flags := s.events.flags &&& ~~~ BitVec.ofNat 14 (field data 0 2)
        exec (.clearEvents target data) s =
          .next (State.answered
            { s with events := { s.events with flags, attn := decide (flags &&& s.events.enables ≠ 0) } }
            l { code := 100, target, data } .ok [])))

/-- RESET_PART only notes its scope until the list's response is queued, FULL prevailing; an unknown code is BAD_OP whatever else it carries; a broken tail is
one entry of code 0 and BAD_OP (R145, R151, R160). -/
def Obligations.ResetUnknownAndBrokenCommandsAreReported : Prop :=
  (∀ (s : State) (l : ControlList) (target scope : Byte), s.executes l { code := 101, target, data := [scope] } →
    (2 ≤ scope.toNat →
      exec (.resetPart target [scope]) s = .next (s.answered l { code := 101, target, data := [scope] } .badValue []))
    ∧ (scope = 0 →
      let l' := { l with reset := if l.reset = some .full then some .full else some .traffic }
      exec (.resetPart target [scope]) s = .next (s.answered l' { code := 101, target, data := [scope] } .ok []))
    ∧ (scope = 1 →
      exec (.resetPart target [scope]) s =
        .next (s.answered { l with reset := some .full } { code := 101, target, data := [scope] } .ok [])))
  ∧ (∀ (s : State) (l : ControlList) (code target : Byte) (data : List Byte), s.executes l { code, target, data } →
    code ∉ knownCodes → exec (.unknownCommand code target data) s = .next (s.answered l { code, target, data } .badOp []))
  ∧ ∀ (s : State) (l : ControlList) (bytes : List Byte), s.inReset = false → s.engine.executing = .executing l → l.commands = [] →
    l.tail = bytes → bytes ≠ [] →
    exec (.brokenTail bytes) s =
      .next { s with
        engine :=
          { s.engine with
            executing := .holding
              { l with
                tail := []
                results := l.results ++
                  [{ code := 0, result := if l.truncated then .truncated else .badOp, data := [] }] } } }

/-- Every command of a list is answered by exactly one result entry within the room still free; a command refused or truncated changes nothing else, and after
a truncated command every later one is truncated (R145, R146). -/
def Obligations.EachCommandIsAnsweredOnce : Prop :=
  ∀ (i : Instr) (c : Command) (s : State) (l : ControlList), i.asCommand = some c → i.wellFormed = true → s.atCommand l c →
    ∃ (t : State) (l' : ControlList) (result : Result) (data : List Byte), exec i s = .next t ∧ t.engine.executing = l'.buffer
      ∧ l'.results = l.results ++ [{ code := c.code, result, data }] ∧ l'.commands = l.commands.tail ∧ l'.tail = l.tail
      ∧ l'.sequence = l.sequence ∧ data.length ≤ l.room ∧ l'.room = l.room - data.length
      ∧ l'.truncated = (l.truncated || result == .truncated)
      ∧ (l.truncated = true → result = .truncated)
      ∧ (result ≠ .ok → data = [] ∧ t = s.answered l c result [])

/-- The commands of a CONTROL payload are separated as they were joined, with whatever broken tail follows them, and no payload byte is lost (section 11.5, R160). -/
def Obligations.CommandListsReadBack : Prop :=
  (∀ (cs : List Command) (tail : List Byte), (∀ c ∈ cs, c.data.length < 65536) → (tail = [] ∨ isBrokenTail tail = true) →
    readCommands (cs.flatMap Command.bytes ++ tail) = (cs, tail))
  ∧ ∀ payload : List Byte, (readCommands payload).1.flatMap Command.bytes ++ (readCommands payload).2 = payload

/-- The images of the settings record, of a queue's configuration, of a rate entry, of a source entry and of a ring entry: each record in its ranges reads
back from its image. Settings, configurations and rates: each image that is accepted is the image of what was read. Source images: what the bytes hold,
which images WRITE_SOURCE accepts and as what entry, and the image of a FREE slot (sections 11.5 and 11.6; R69, R130, R133, R135, R148, R161). -/
def Obligations.RecordImagesReadBack : Prop :=
  (∀ c : Settings, c.consistent = true → readSettingsImage (settingsImage c) = some c)
  ∧ (∀ data c, readSettingsImage data = some c → settingsImage c = data)
  ∧ (∀ c : QueueConfig, c.priority ≤ 3 → 1 ≤ c.depth → c.depth ≤ 1024 → 1 ≤ c.hold → c.hold ≤ 1000 → c.ack ≤ 500 → c.retry ≤ 15 →
      readQueueConfig (configImage c) = some c)
  ∧ (∀ data c, readQueueConfig data = some c → configImage c = data)
  ∧ (∀ data r, readRateImage data = some r → rateImage (some r) = 1 :: data)
  ∧ (∀ r : Rate, r.preamble ≤ 100 → 1000 ≤ r.symbol → r.symbol ≤ 16000 → 6 ≤ r.bits → r.bits ≤ 4000 → r.fixedBits ≤ 64 →
      readRateImage ((rateImage (some r)).drop 1) = some r)
  ∧ (∀ e : RingEntry, e.duration ≤ 65535 → readRingEntry (ringEntryImage e) = { e with loadTimer := none, stale := false })
  ∧ (∀ (c : Settings) (now : Instant) (i : Fin 16) (x : Slot) (e : Source), c.consistent = true → e.lawful c → x.entry = some e →
      let image := sourceImage c i x
      image.length = 31 ∧ field image 0 1 = i.val ∧ field image 2 1 = (match x.owner with | .learn => 0 | .host => 1)
      ∧ field image 4 1 = (if e.matched then 1 else 0) ∧ field image 26 1 = e.missRun
      ∧ field image 27 4 = (plus e.start (captureOf c e.kind)).toNat
      ∧ ((distance now e.start).natAbs < 1073741824 →
          readSourceImage c now (image.drop 1) = some { e with missRun := 0, matched := false }))
  ∧ (∀ (c : Settings) (i : Fin 16) (x : Slot), x.entry = none →
      sourceImage c i x = [BitVec.ofNat 8 i.val, 0, (match x.owner with | .learn => 0 | .host => 1), 0] ++ List.replicate 27 0)
  ∧ ∀ (c : Settings) (now : Instant) (data : List Byte),
      let start : Instant := BitVec.ofNat 32 (field data 4 4)
      let period := field data 8 4
      let duration := field data 12 4
      let low := field data 16 1
      let high := field data 17 1
      let isOven := field data 0 1 = 0 ∧ c.ovenPeriodMin ≤ period ∧ period ≤ c.ovenPeriodMax ∧ 1 ≤ low ∧ low ≤ high ∧ high ≤ 14
      let isBeacon := field data 0 1 = 1 ∧ period % 1024 = 0 ∧ 10 ≤ period / 1024 ∧ period / 1024 ≤ 1000 ∧ 1 ≤ low ∧ low ≤ 14
      let accepted := data.length = 30 ∧ 64 ≤ duration ∧ duration + (c.guardLead + c.guardTrail + 256) ≤ period
        ∧ (distance now start).natAbs < 1073741824 ∧ 1 ≤ field data 2 1 ∧ field data 2 1 ≤ 3 ∧ (isOven ∨ isBeacon)
      (¬ accepted → readSourceImage c now data = none)
      ∧ (accepted →
          readSourceImage c now data = some
            { kind := if field data 0 1 = 0 then .oven low high else .beacon low (BitVec.ofNat 48 (field data 18 6))
              state := if field data 2 1 = 1 then .acquiring else if field data 2 1 = 2 then .locked else .coasting
              start, period, duration, matchCount := field data 24 1, missRun := 0, matched := false })

/-! ### What every step keeps -/

/-- ATTN is asserted exactly when a flag is set whose enable is set, at power-on and after every step; it is deasserted at power-on, by a FULL part
reset and by CLEAR_EVENTS of all (R154). -/
def Obligations.AttnFollowsTheFlags : Prop :=
  State.reset.events.lawful ∧ State.reset.events.attn = false
    ∧ (∀ s t : State, s.events.lawful → step s = .next t → t.events.lawful)
    ∧ (∀ (s : State) (l : ControlList), s.inReset = false → s.engine.executing = .holding l → l.reset = some .full →
        s.north.responseWaits = false → ∃ t : State, exec .responseQueued s = .next t ∧ t.events.attn = false)
    ∧ ∀ (s : State) (l : ControlList), s.executes l { code := 100, target := 255, data := [] } →
        ∃ t : State, exec (.clearEvents 255 []) s = .next t ∧ t.events.attn = false

/-- Every step keeps the storage law: each cell and each descriptor is free or held exactly once, and every chain has its recorded length (R18, R19, R20,
R31, R34); and the cells' memory keeps the model's canonical form. -/
def Obligations.StorageIsNeverLost : Prop :=
  (∀ s t : State, s.storageLawful → step s = .next t → t.storageLawful)
    ∧ ∀ s t : State, s.store.memory.wf = true → step s = .next t → t.store.memory.wf = true

/-- Every step keeps the slot law: the reserved TXDONE slots are those of the descriptors and of the DATA frame being received, and at most 1280 slots are in
use (R8, R11, R31). -/
def Obligations.TxdoneSlotsAreNeverLost : Prop := ∀ s t : State, s.slotsLawful → step s = .next t → t.slotsLawful

/-- Every step keeps the laws of the queues and of the outstanding releases (R22, R37, R38, R43, R46, R79, R81, R85, R93). -/
def Obligations.OutstandingReleasesStayMatched : Prop := ∀ s t : State, s.releasesLawful → step s = .next t → t.releasesLawful

/-- Every step keeps a RUNNING ring's current entry valid with the end timer armed for its end, and an IDLE ring's timer cancelled (R136). -/
def Obligations.RunningRingHasAValidEntry : Prop := ∀ s t : State, s.ring.lawful → step s = .next t → t.ring.lawful

/-- Every step keeps, for every channel, the busy count at or below the listen count and both within their maximum (R111). -/
def Obligations.BusyCountNeverPassesListenCount : Prop := ∀ s t : State, s.detector.lawful → step s = .next t → t.detector.lawful

/-- Every step keeps the settings consistent and every source entry in its ranges; and no two learned BEACON entries ever share a tag and a channel (R116, R127,
R131, R148). -/
def Obligations.SourceEntriesStayInRange : Prop :=
  (∀ s t : State, s.sourcesLawful → step s = .next t → t.sourcesLawful)
    ∧ ∀ s t : State, s.beaconsDistinct → step s = .next t → t.beaconsDistinct

/-- Every step keeps the radio law: DOWN and an empty south output while the south link is UNSYNCED, CLOSED_RADIO exactly outside ON_CHANNEL, and no request
there (R14, R15, R49, R56). -/
def Obligations.RadioStateGovernsTheWindow : Prop := ∀ s t : State, s.radioLawful → step s = .next t → t.radioLawful

/-- Event flags are cleared only by CLEAR_EVENTS, by a FULL part reset at the queueing of its response, and by power-on reset (R152). -/
def Obligations.EventFlagsAreClearedOnlyByCommand : Prop :=
  ∀ (c : Instr) (s t : State) (f : EventFlag), exec c s = .next t → s.flag f = true → t.flag f = false →
    c = .powerOnReset ∨ c = .resetInputAsserted ∨ (∃ target data, c = .clearEvents target data)
      ∨ ((c = .responseQueued ∨ c = .statusFrameSent) ∧ ∃ l, s.engine.executing = .holding l ∧ l.reset = some .full)

/-- The state after reset meets every law that the steps keep. -/
def Obligations.ResetMeetsTheLaws : Prop :=
  State.reset.storageLawful ∧ State.reset.store.memory.wf = true ∧ State.reset.slotsLawful ∧ State.reset.releasesLawful
    ∧ State.reset.ring.lawful ∧ State.reset.detector.lawful ∧ State.reset.sourcesLawful ∧ State.reset.beaconsDistinct
    ∧ State.reset.radioLawful
end

