-- ==== Sys2Proof/Laws/State.lean ====
section
/-! SUPPORT. One lemma for each field under each update of the state: what the update gives the field, or that it leaves it. -/

namespace Sys2Proof.Machine

/-! ### State.withNorth -/

@[simp] theorem State.withNorth_inReset (s : State) (n : NorthLink) : (s.withNorth n).inReset = s.inReset := rfl
@[simp] theorem State.withNorth_clock (s : State) (n : NorthLink) : (s.withNorth n).clock = s.clock := rfl
@[simp] theorem State.withNorth_north (s : State) (n : NorthLink) : (s.withNorth n).north = n := rfl
@[simp] theorem State.withNorth_fifo (s : State) (n : NorthLink) : (s.withNorth n).fifo = s.fifo := rfl
@[simp] theorem State.withNorth_south (s : State) (n : NorthLink) : (s.withNorth n).south = s.south := rfl
@[simp] theorem State.withNorth_store (s : State) (n : NorthLink) : (s.withNorth n).store = s.store := rfl
@[simp] theorem State.withNorth_queues (s : State) (n : NorthLink) : (s.withNorth n).queues = s.queues := rfl
@[simp] theorem State.withNorth_pointers (s : State) (n : NorthLink) : (s.withNorth n).pointers = s.pointers := rfl
@[simp] theorem State.withNorth_window (s : State) (n : NorthLink) : (s.withNorth n).window = s.window := rfl
@[simp] theorem State.withNorth_gate (s : State) (n : NorthLink) : (s.withNorth n).gate = s.gate := rfl
@[simp] theorem State.withNorth_detector (s : State) (n : NorthLink) : (s.withNorth n).detector = s.detector := rfl
@[simp] theorem State.withNorth_sources (s : State) (n : NorthLink) : (s.withNorth n).sources = s.sources := rfl
@[simp] theorem State.withNorth_ring (s : State) (n : NorthLink) : (s.withNorth n).ring = s.ring := rfl
@[simp] theorem State.withNorth_engine (s : State) (n : NorthLink) : (s.withNorth n).engine = s.engine := rfl
@[simp] theorem State.withNorth_events (s : State) (n : NorthLink) : (s.withNorth n).events = s.events := rfl
@[simp] theorem State.withNorth_pending (s : State) (n : NorthLink) : (s.withNorth n).pending = s.pending := rfl

/-! ### State.withSouth -/

@[simp] theorem State.withSouth_inReset (s : State) (n : SouthLink) : (s.withSouth n).inReset = s.inReset := rfl
@[simp] theorem State.withSouth_clock (s : State) (n : SouthLink) : (s.withSouth n).clock = s.clock := rfl
@[simp] theorem State.withSouth_north (s : State) (n : SouthLink) : (s.withSouth n).north = s.north := rfl
@[simp] theorem State.withSouth_fifo (s : State) (n : SouthLink) : (s.withSouth n).fifo = s.fifo := rfl
@[simp] theorem State.withSouth_south (s : State) (n : SouthLink) : (s.withSouth n).south = n := rfl
@[simp] theorem State.withSouth_store (s : State) (n : SouthLink) : (s.withSouth n).store = s.store := rfl
@[simp] theorem State.withSouth_queues (s : State) (n : SouthLink) : (s.withSouth n).queues = s.queues := rfl
@[simp] theorem State.withSouth_pointers (s : State) (n : SouthLink) : (s.withSouth n).pointers = s.pointers := rfl
@[simp] theorem State.withSouth_window (s : State) (n : SouthLink) : (s.withSouth n).window = s.window := rfl
@[simp] theorem State.withSouth_gate (s : State) (n : SouthLink) : (s.withSouth n).gate = s.gate := rfl
@[simp] theorem State.withSouth_detector (s : State) (n : SouthLink) : (s.withSouth n).detector = s.detector := rfl
@[simp] theorem State.withSouth_sources (s : State) (n : SouthLink) : (s.withSouth n).sources = s.sources := rfl
@[simp] theorem State.withSouth_ring (s : State) (n : SouthLink) : (s.withSouth n).ring = s.ring := rfl
@[simp] theorem State.withSouth_engine (s : State) (n : SouthLink) : (s.withSouth n).engine = s.engine := rfl
@[simp] theorem State.withSouth_events (s : State) (n : SouthLink) : (s.withSouth n).events = s.events := rfl
@[simp] theorem State.withSouth_pending (s : State) (n : SouthLink) : (s.withSouth n).pending = s.pending := rfl

/-! ### State.withInput -/

@[simp] theorem State.withInput_inReset (s : State) (i : NorthInput) : (s.withInput i).inReset = s.inReset := rfl
@[simp] theorem State.withInput_clock (s : State) (i : NorthInput) : (s.withInput i).clock = s.clock := rfl
@[simp] theorem State.withInput_north (s : State) (i : NorthInput) : (s.withInput i).north = { s.north with input := i } := rfl
@[simp] theorem State.withInput_fifo (s : State) (i : NorthInput) : (s.withInput i).fifo = s.fifo := rfl
@[simp] theorem State.withInput_south (s : State) (i : NorthInput) : (s.withInput i).south = s.south := rfl
@[simp] theorem State.withInput_store (s : State) (i : NorthInput) : (s.withInput i).store = s.store := rfl
@[simp] theorem State.withInput_queues (s : State) (i : NorthInput) : (s.withInput i).queues = s.queues := rfl
@[simp] theorem State.withInput_pointers (s : State) (i : NorthInput) : (s.withInput i).pointers = s.pointers := rfl
@[simp] theorem State.withInput_window (s : State) (i : NorthInput) : (s.withInput i).window = s.window := rfl
@[simp] theorem State.withInput_gate (s : State) (i : NorthInput) : (s.withInput i).gate = s.gate := rfl
@[simp] theorem State.withInput_detector (s : State) (i : NorthInput) : (s.withInput i).detector = s.detector := rfl
@[simp] theorem State.withInput_sources (s : State) (i : NorthInput) : (s.withInput i).sources = s.sources := rfl
@[simp] theorem State.withInput_ring (s : State) (i : NorthInput) : (s.withInput i).ring = s.ring := rfl
@[simp] theorem State.withInput_engine (s : State) (i : NorthInput) : (s.withInput i).engine = s.engine := rfl
@[simp] theorem State.withInput_events (s : State) (i : NorthInput) : (s.withInput i).events = s.events := rfl
@[simp] theorem State.withInput_pending (s : State) (i : NorthInput) : (s.withInput i).pending = s.pending := rfl

/-! ### State.withEngine -/

@[simp] theorem State.withEngine_inReset (s : State) (e : Engine) : (s.withEngine e).inReset = s.inReset := rfl
@[simp] theorem State.withEngine_clock (s : State) (e : Engine) : (s.withEngine e).clock = s.clock := rfl
@[simp] theorem State.withEngine_north (s : State) (e : Engine) : (s.withEngine e).north = s.north := rfl
@[simp] theorem State.withEngine_fifo (s : State) (e : Engine) : (s.withEngine e).fifo = s.fifo := rfl
@[simp] theorem State.withEngine_south (s : State) (e : Engine) : (s.withEngine e).south = s.south := rfl
@[simp] theorem State.withEngine_store (s : State) (e : Engine) : (s.withEngine e).store = s.store := rfl
@[simp] theorem State.withEngine_queues (s : State) (e : Engine) : (s.withEngine e).queues = s.queues := rfl
@[simp] theorem State.withEngine_pointers (s : State) (e : Engine) : (s.withEngine e).pointers = s.pointers := rfl
@[simp] theorem State.withEngine_window (s : State) (e : Engine) : (s.withEngine e).window = s.window := rfl
@[simp] theorem State.withEngine_gate (s : State) (e : Engine) : (s.withEngine e).gate = s.gate := rfl
@[simp] theorem State.withEngine_detector (s : State) (e : Engine) : (s.withEngine e).detector = s.detector := rfl
@[simp] theorem State.withEngine_sources (s : State) (e : Engine) : (s.withEngine e).sources = s.sources := rfl
@[simp] theorem State.withEngine_ring (s : State) (e : Engine) : (s.withEngine e).ring = s.ring := rfl
@[simp] theorem State.withEngine_engine (s : State) (e : Engine) : (s.withEngine e).engine = e := rfl
@[simp] theorem State.withEngine_events (s : State) (e : Engine) : (s.withEngine e).events = s.events := rfl
@[simp] theorem State.withEngine_pending (s : State) (e : Engine) : (s.withEngine e).pending = s.pending := rfl

/-! ### State.withExecuting -/

@[simp] theorem State.withExecuting_inReset (s : State) (x : ExecBuffer) : (s.withExecuting x).inReset = s.inReset := rfl
@[simp] theorem State.withExecuting_clock (s : State) (x : ExecBuffer) : (s.withExecuting x).clock = s.clock := rfl
@[simp] theorem State.withExecuting_north (s : State) (x : ExecBuffer) : (s.withExecuting x).north = s.north := rfl
@[simp] theorem State.withExecuting_fifo (s : State) (x : ExecBuffer) : (s.withExecuting x).fifo = s.fifo := rfl
@[simp] theorem State.withExecuting_south (s : State) (x : ExecBuffer) : (s.withExecuting x).south = s.south := rfl
@[simp] theorem State.withExecuting_store (s : State) (x : ExecBuffer) : (s.withExecuting x).store = s.store := rfl
@[simp] theorem State.withExecuting_queues (s : State) (x : ExecBuffer) : (s.withExecuting x).queues = s.queues := rfl
@[simp] theorem State.withExecuting_pointers (s : State) (x : ExecBuffer) : (s.withExecuting x).pointers = s.pointers := rfl
@[simp] theorem State.withExecuting_window (s : State) (x : ExecBuffer) : (s.withExecuting x).window = s.window := rfl
@[simp] theorem State.withExecuting_gate (s : State) (x : ExecBuffer) : (s.withExecuting x).gate = s.gate := rfl
@[simp] theorem State.withExecuting_detector (s : State) (x : ExecBuffer) : (s.withExecuting x).detector = s.detector := rfl
@[simp] theorem State.withExecuting_sources (s : State) (x : ExecBuffer) : (s.withExecuting x).sources = s.sources := rfl
@[simp] theorem State.withExecuting_ring (s : State) (x : ExecBuffer) : (s.withExecuting x).ring = s.ring := rfl
@[simp] theorem State.withExecuting_engine (s : State) (x : ExecBuffer) : (s.withExecuting x).engine = { s.engine with executing := x } := rfl
@[simp] theorem State.withExecuting_events (s : State) (x : ExecBuffer) : (s.withExecuting x).events = s.events := rfl
@[simp] theorem State.withExecuting_pending (s : State) (x : ExecBuffer) : (s.withExecuting x).pending = s.pending := rfl

/-! ### State.withDetector -/

@[simp] theorem State.withDetector_inReset (s : State) (d : Detector) : (s.withDetector d).inReset = s.inReset := rfl
@[simp] theorem State.withDetector_clock (s : State) (d : Detector) : (s.withDetector d).clock = s.clock := rfl
@[simp] theorem State.withDetector_north (s : State) (d : Detector) : (s.withDetector d).north = s.north := rfl
@[simp] theorem State.withDetector_fifo (s : State) (d : Detector) : (s.withDetector d).fifo = s.fifo := rfl
@[simp] theorem State.withDetector_south (s : State) (d : Detector) : (s.withDetector d).south = s.south := rfl
@[simp] theorem State.withDetector_store (s : State) (d : Detector) : (s.withDetector d).store = s.store := rfl
@[simp] theorem State.withDetector_queues (s : State) (d : Detector) : (s.withDetector d).queues = s.queues := rfl
@[simp] theorem State.withDetector_pointers (s : State) (d : Detector) : (s.withDetector d).pointers = s.pointers := rfl
@[simp] theorem State.withDetector_window (s : State) (d : Detector) : (s.withDetector d).window = s.window := rfl
@[simp] theorem State.withDetector_gate (s : State) (d : Detector) : (s.withDetector d).gate = s.gate := rfl
@[simp] theorem State.withDetector_detector (s : State) (d : Detector) : (s.withDetector d).detector = d := rfl
@[simp] theorem State.withDetector_sources (s : State) (d : Detector) : (s.withDetector d).sources = s.sources := rfl
@[simp] theorem State.withDetector_ring (s : State) (d : Detector) : (s.withDetector d).ring = s.ring := rfl
@[simp] theorem State.withDetector_engine (s : State) (d : Detector) : (s.withDetector d).engine = s.engine := rfl
@[simp] theorem State.withDetector_events (s : State) (d : Detector) : (s.withDetector d).events = s.events := rfl
@[simp] theorem State.withDetector_pending (s : State) (d : Detector) : (s.withDetector d).pending = s.pending := rfl

/-! ### State.withRecord -/

@[simp] theorem State.withRecord_inReset (s : State) (r : Option MatchRecord) : (s.withRecord r).inReset = s.inReset := rfl
@[simp] theorem State.withRecord_clock (s : State) (r : Option MatchRecord) : (s.withRecord r).clock = s.clock := rfl
@[simp] theorem State.withRecord_north (s : State) (r : Option MatchRecord) : (s.withRecord r).north = s.north := rfl
@[simp] theorem State.withRecord_fifo (s : State) (r : Option MatchRecord) : (s.withRecord r).fifo = s.fifo := rfl
@[simp] theorem State.withRecord_south (s : State) (r : Option MatchRecord) : (s.withRecord r).south = s.south := rfl
@[simp] theorem State.withRecord_store (s : State) (r : Option MatchRecord) : (s.withRecord r).store = s.store := rfl
@[simp] theorem State.withRecord_queues (s : State) (r : Option MatchRecord) : (s.withRecord r).queues = s.queues := rfl
@[simp] theorem State.withRecord_pointers (s : State) (r : Option MatchRecord) : (s.withRecord r).pointers = s.pointers := rfl
@[simp] theorem State.withRecord_window (s : State) (r : Option MatchRecord) : (s.withRecord r).window = s.window := rfl
@[simp] theorem State.withRecord_gate (s : State) (r : Option MatchRecord) : (s.withRecord r).gate = s.gate := rfl
@[simp] theorem State.withRecord_detector (s : State) (r : Option MatchRecord) : (s.withRecord r).detector = s.detector := rfl
@[simp] theorem State.withRecord_sources (s : State) (r : Option MatchRecord) : (s.withRecord r).sources = { s.sources with record := r } := rfl
@[simp] theorem State.withRecord_ring (s : State) (r : Option MatchRecord) : (s.withRecord r).ring = s.ring := rfl
@[simp] theorem State.withRecord_engine (s : State) (r : Option MatchRecord) : (s.withRecord r).engine = s.engine := rfl
@[simp] theorem State.withRecord_events (s : State) (r : Option MatchRecord) : (s.withRecord r).events = s.events := rfl
@[simp] theorem State.withRecord_pending (s : State) (r : Option MatchRecord) : (s.withRecord r).pending = s.pending := rfl

/-! ### State.withSettings -/

@[simp] theorem State.withSettings_inReset (s : State) (c : Settings) : (s.withSettings c).inReset = s.inReset := rfl
@[simp] theorem State.withSettings_clock (s : State) (c : Settings) : (s.withSettings c).clock = s.clock := rfl
@[simp] theorem State.withSettings_north (s : State) (c : Settings) : (s.withSettings c).north = s.north := rfl
@[simp] theorem State.withSettings_fifo (s : State) (c : Settings) : (s.withSettings c).fifo = s.fifo := rfl
@[simp] theorem State.withSettings_south (s : State) (c : Settings) : (s.withSettings c).south = s.south := rfl
@[simp] theorem State.withSettings_store (s : State) (c : Settings) : (s.withSettings c).store = s.store := rfl
@[simp] theorem State.withSettings_queues (s : State) (c : Settings) : (s.withSettings c).queues = s.queues := rfl
@[simp] theorem State.withSettings_pointers (s : State) (c : Settings) : (s.withSettings c).pointers = s.pointers := rfl
@[simp] theorem State.withSettings_window (s : State) (c : Settings) : (s.withSettings c).window = s.window := rfl
@[simp] theorem State.withSettings_gate (s : State) (c : Settings) : (s.withSettings c).gate = s.gate := rfl
@[simp] theorem State.withSettings_detector (s : State) (c : Settings) : (s.withSettings c).detector = s.detector := rfl
@[simp] theorem State.withSettings_sources (s : State) (c : Settings) : (s.withSettings c).sources = s.sources := rfl
@[simp] theorem State.withSettings_ring (s : State) (c : Settings) : (s.withSettings c).ring = s.ring := rfl
@[simp] theorem State.withSettings_engine (s : State) (c : Settings) : (s.withSettings c).engine = { s.engine with settings := c } := rfl
@[simp] theorem State.withSettings_events (s : State) (c : Settings) : (s.withSettings c).events = s.events := rfl
@[simp] theorem State.withSettings_pending (s : State) (c : Settings) : (s.withSettings c).pending = s.pending := rfl

/-! ### State.setQueue -/

@[simp] theorem State.setQueue_inReset (s : State) (q : Fin 16) (x : Queue) : (s.setQueue q x).inReset = s.inReset := rfl
@[simp] theorem State.setQueue_clock (s : State) (q : Fin 16) (x : Queue) : (s.setQueue q x).clock = s.clock := rfl
@[simp] theorem State.setQueue_north (s : State) (q : Fin 16) (x : Queue) : (s.setQueue q x).north = s.north := rfl
@[simp] theorem State.setQueue_fifo (s : State) (q : Fin 16) (x : Queue) : (s.setQueue q x).fifo = s.fifo := rfl
@[simp] theorem State.setQueue_south (s : State) (q : Fin 16) (x : Queue) : (s.setQueue q x).south = s.south := rfl
@[simp] theorem State.setQueue_store (s : State) (q : Fin 16) (x : Queue) : (s.setQueue q x).store = s.store := rfl
@[simp] theorem State.setQueue_queues (s : State) (q : Fin 16) (x : Queue) : (s.setQueue q x).queues = s.queues.set q x := rfl
@[simp] theorem State.setQueue_pointers (s : State) (q : Fin 16) (x : Queue) : (s.setQueue q x).pointers = s.pointers := rfl
@[simp] theorem State.setQueue_window (s : State) (q : Fin 16) (x : Queue) : (s.setQueue q x).window = s.window := rfl
@[simp] theorem State.setQueue_gate (s : State) (q : Fin 16) (x : Queue) : (s.setQueue q x).gate = s.gate := rfl
@[simp] theorem State.setQueue_detector (s : State) (q : Fin 16) (x : Queue) : (s.setQueue q x).detector = s.detector := rfl
@[simp] theorem State.setQueue_sources (s : State) (q : Fin 16) (x : Queue) : (s.setQueue q x).sources = s.sources := rfl
@[simp] theorem State.setQueue_ring (s : State) (q : Fin 16) (x : Queue) : (s.setQueue q x).ring = s.ring := rfl
@[simp] theorem State.setQueue_engine (s : State) (q : Fin 16) (x : Queue) : (s.setQueue q x).engine = s.engine := rfl
@[simp] theorem State.setQueue_events (s : State) (q : Fin 16) (x : Queue) : (s.setQueue q x).events = s.events := rfl
@[simp] theorem State.setQueue_pending (s : State) (q : Fin 16) (x : Queue) : (s.setQueue q x).pending = s.pending := rfl

/-! ### State.modQueue -/

@[simp] theorem State.modQueue_inReset (s : State) (q : Fin 16) (f : Queue → Queue) : (s.modQueue q f).inReset = s.inReset := rfl
@[simp] theorem State.modQueue_clock (s : State) (q : Fin 16) (f : Queue → Queue) : (s.modQueue q f).clock = s.clock := rfl
@[simp] theorem State.modQueue_north (s : State) (q : Fin 16) (f : Queue → Queue) : (s.modQueue q f).north = s.north := rfl
@[simp] theorem State.modQueue_fifo (s : State) (q : Fin 16) (f : Queue → Queue) : (s.modQueue q f).fifo = s.fifo := rfl
@[simp] theorem State.modQueue_south (s : State) (q : Fin 16) (f : Queue → Queue) : (s.modQueue q f).south = s.south := rfl
@[simp] theorem State.modQueue_store (s : State) (q : Fin 16) (f : Queue → Queue) : (s.modQueue q f).store = s.store := rfl
@[simp] theorem State.modQueue_queues (s : State) (q : Fin 16) (f : Queue → Queue) : (s.modQueue q f).queues = s.queues.set q (f (s.queue q)) := rfl
@[simp] theorem State.modQueue_pointers (s : State) (q : Fin 16) (f : Queue → Queue) : (s.modQueue q f).pointers = s.pointers := rfl
@[simp] theorem State.modQueue_window (s : State) (q : Fin 16) (f : Queue → Queue) : (s.modQueue q f).window = s.window := rfl
@[simp] theorem State.modQueue_gate (s : State) (q : Fin 16) (f : Queue → Queue) : (s.modQueue q f).gate = s.gate := rfl
@[simp] theorem State.modQueue_detector (s : State) (q : Fin 16) (f : Queue → Queue) : (s.modQueue q f).detector = s.detector := rfl
@[simp] theorem State.modQueue_sources (s : State) (q : Fin 16) (f : Queue → Queue) : (s.modQueue q f).sources = s.sources := rfl
@[simp] theorem State.modQueue_ring (s : State) (q : Fin 16) (f : Queue → Queue) : (s.modQueue q f).ring = s.ring := rfl
@[simp] theorem State.modQueue_engine (s : State) (q : Fin 16) (f : Queue → Queue) : (s.modQueue q f).engine = s.engine := rfl
@[simp] theorem State.modQueue_events (s : State) (q : Fin 16) (f : Queue → Queue) : (s.modQueue q f).events = s.events := rfl
@[simp] theorem State.modQueue_pending (s : State) (q : Fin 16) (f : Queue → Queue) : (s.modQueue q f).pending = s.pending := rfl

/-! ### State.setSlot -/

@[simp] theorem State.setSlot_inReset (s : State) (i : Fin 16) (x : Slot) : (s.setSlot i x).inReset = s.inReset := rfl
@[simp] theorem State.setSlot_clock (s : State) (i : Fin 16) (x : Slot) : (s.setSlot i x).clock = s.clock := rfl
@[simp] theorem State.setSlot_north (s : State) (i : Fin 16) (x : Slot) : (s.setSlot i x).north = s.north := rfl
@[simp] theorem State.setSlot_fifo (s : State) (i : Fin 16) (x : Slot) : (s.setSlot i x).fifo = s.fifo := rfl
@[simp] theorem State.setSlot_south (s : State) (i : Fin 16) (x : Slot) : (s.setSlot i x).south = s.south := rfl
@[simp] theorem State.setSlot_store (s : State) (i : Fin 16) (x : Slot) : (s.setSlot i x).store = s.store := rfl
@[simp] theorem State.setSlot_queues (s : State) (i : Fin 16) (x : Slot) : (s.setSlot i x).queues = s.queues := rfl
@[simp] theorem State.setSlot_pointers (s : State) (i : Fin 16) (x : Slot) : (s.setSlot i x).pointers = s.pointers := rfl
@[simp] theorem State.setSlot_window (s : State) (i : Fin 16) (x : Slot) : (s.setSlot i x).window = s.window := rfl
@[simp] theorem State.setSlot_gate (s : State) (i : Fin 16) (x : Slot) : (s.setSlot i x).gate = s.gate := rfl
@[simp] theorem State.setSlot_detector (s : State) (i : Fin 16) (x : Slot) : (s.setSlot i x).detector = s.detector := rfl
@[simp] theorem State.setSlot_sources (s : State) (i : Fin 16) (x : Slot) : (s.setSlot i x).sources = { s.sources with slots := s.sources.slots.set i x } := rfl
@[simp] theorem State.setSlot_ring (s : State) (i : Fin 16) (x : Slot) : (s.setSlot i x).ring = s.ring := rfl
@[simp] theorem State.setSlot_engine (s : State) (i : Fin 16) (x : Slot) : (s.setSlot i x).engine = s.engine := rfl
@[simp] theorem State.setSlot_events (s : State) (i : Fin 16) (x : Slot) : (s.setSlot i x).events = s.events := rfl
@[simp] theorem State.setSlot_pending (s : State) (i : Fin 16) (x : Slot) : (s.setSlot i x).pending = s.pending := rfl

/-! ### State.clearFlags -/

@[simp] theorem State.clearFlags_inReset (s : State) (m : BitVec 14) : (s.clearFlags m).inReset = s.inReset := rfl
@[simp] theorem State.clearFlags_clock (s : State) (m : BitVec 14) : (s.clearFlags m).clock = s.clock := rfl
@[simp] theorem State.clearFlags_north (s : State) (m : BitVec 14) : (s.clearFlags m).north = s.north := rfl
@[simp] theorem State.clearFlags_fifo (s : State) (m : BitVec 14) : (s.clearFlags m).fifo = s.fifo := rfl
@[simp] theorem State.clearFlags_south (s : State) (m : BitVec 14) : (s.clearFlags m).south = s.south := rfl
@[simp] theorem State.clearFlags_store (s : State) (m : BitVec 14) : (s.clearFlags m).store = s.store := rfl
@[simp] theorem State.clearFlags_queues (s : State) (m : BitVec 14) : (s.clearFlags m).queues = s.queues := rfl
@[simp] theorem State.clearFlags_pointers (s : State) (m : BitVec 14) : (s.clearFlags m).pointers = s.pointers := rfl
@[simp] theorem State.clearFlags_window (s : State) (m : BitVec 14) : (s.clearFlags m).window = s.window := rfl
@[simp] theorem State.clearFlags_gate (s : State) (m : BitVec 14) : (s.clearFlags m).gate = s.gate := rfl
@[simp] theorem State.clearFlags_detector (s : State) (m : BitVec 14) : (s.clearFlags m).detector = s.detector := rfl
@[simp] theorem State.clearFlags_sources (s : State) (m : BitVec 14) : (s.clearFlags m).sources = s.sources := rfl
@[simp] theorem State.clearFlags_ring (s : State) (m : BitVec 14) : (s.clearFlags m).ring = s.ring := rfl
@[simp] theorem State.clearFlags_engine (s : State) (m : BitVec 14) : (s.clearFlags m).engine = s.engine := rfl
@[simp] theorem State.clearFlags_events (s : State) (m : BitVec 14) : (s.clearFlags m).events = ({ s.events with flags := s.events.flags &&& ~~~m } : Events).withAttn := rfl
@[simp] theorem State.clearFlags_pending (s : State) (m : BitVec 14) : (s.clearFlags m).pending = s.pending := rfl

/-! ### State.writeEnables -/

@[simp] theorem State.writeEnables_inReset (s : State) (b : BitVec 14) : (s.writeEnables b).inReset = s.inReset := rfl
@[simp] theorem State.writeEnables_clock (s : State) (b : BitVec 14) : (s.writeEnables b).clock = s.clock := rfl
@[simp] theorem State.writeEnables_north (s : State) (b : BitVec 14) : (s.writeEnables b).north = s.north := rfl
@[simp] theorem State.writeEnables_fifo (s : State) (b : BitVec 14) : (s.writeEnables b).fifo = s.fifo := rfl
@[simp] theorem State.writeEnables_south (s : State) (b : BitVec 14) : (s.writeEnables b).south = s.south := rfl
@[simp] theorem State.writeEnables_store (s : State) (b : BitVec 14) : (s.writeEnables b).store = s.store := rfl
@[simp] theorem State.writeEnables_queues (s : State) (b : BitVec 14) : (s.writeEnables b).queues = s.queues := rfl
@[simp] theorem State.writeEnables_pointers (s : State) (b : BitVec 14) : (s.writeEnables b).pointers = s.pointers := rfl
@[simp] theorem State.writeEnables_window (s : State) (b : BitVec 14) : (s.writeEnables b).window = s.window := rfl
@[simp] theorem State.writeEnables_gate (s : State) (b : BitVec 14) : (s.writeEnables b).gate = s.gate := rfl
@[simp] theorem State.writeEnables_detector (s : State) (b : BitVec 14) : (s.writeEnables b).detector = s.detector := rfl
@[simp] theorem State.writeEnables_sources (s : State) (b : BitVec 14) : (s.writeEnables b).sources = s.sources := rfl
@[simp] theorem State.writeEnables_ring (s : State) (b : BitVec 14) : (s.writeEnables b).ring = s.ring := rfl
@[simp] theorem State.writeEnables_engine (s : State) (b : BitVec 14) : (s.writeEnables b).engine = s.engine := rfl
@[simp] theorem State.writeEnables_events (s : State) (b : BitVec 14) : (s.writeEnables b).events = ({ s.events with enables := b } : Events).withAttn := rfl
@[simp] theorem State.writeEnables_pending (s : State) (b : BitVec 14) : (s.writeEnables b).pending = s.pending := rfl

/-! ### State.withFront -/

@[simp] theorem State.withFront_inReset (s : State) (c : Instr) : (s.withFront c).inReset = s.inReset := rfl
@[simp] theorem State.withFront_clock (s : State) (c : Instr) : (s.withFront c).clock = s.clock := rfl
@[simp] theorem State.withFront_north (s : State) (c : Instr) : (s.withFront c).north = s.north := rfl
@[simp] theorem State.withFront_fifo (s : State) (c : Instr) : (s.withFront c).fifo = s.fifo := rfl
@[simp] theorem State.withFront_south (s : State) (c : Instr) : (s.withFront c).south = s.south := rfl
@[simp] theorem State.withFront_store (s : State) (c : Instr) : (s.withFront c).store = s.store := rfl
@[simp] theorem State.withFront_queues (s : State) (c : Instr) : (s.withFront c).queues = s.queues := rfl
@[simp] theorem State.withFront_pointers (s : State) (c : Instr) : (s.withFront c).pointers = s.pointers := rfl
@[simp] theorem State.withFront_window (s : State) (c : Instr) : (s.withFront c).window = s.window := rfl
@[simp] theorem State.withFront_gate (s : State) (c : Instr) : (s.withFront c).gate = s.gate := rfl
@[simp] theorem State.withFront_detector (s : State) (c : Instr) : (s.withFront c).detector = s.detector := rfl
@[simp] theorem State.withFront_sources (s : State) (c : Instr) : (s.withFront c).sources = s.sources := rfl
@[simp] theorem State.withFront_ring (s : State) (c : Instr) : (s.withFront c).ring = s.ring := rfl
@[simp] theorem State.withFront_engine (s : State) (c : Instr) : (s.withFront c).engine = s.engine := rfl
@[simp] theorem State.withFront_events (s : State) (c : Instr) : (s.withFront c).events = s.events := rfl
@[simp] theorem State.withFront_pending (s : State) (c : Instr) : (s.withFront c).pending = c :: s.pending := rfl

/-! ### Records read back after an update -/

@[simp] theorem State.queue_setQueue_self (s : State) (q : Fin 16) (x : Queue) : (s.setQueue q x).queue q = x := by
  simp [State.queue, State.setQueue]

theorem State.queue_setQueue_other (s : State) (q r : Fin 16) (x : Queue) (h : q ≠ r) : (s.setQueue q x).queue r = s.queue r := by
  have h' : q.val ≠ r.val := fun e => h (Fin.ext e)
  simp [State.queue, State.setQueue, h']

@[simp] theorem State.queue_modQueue_self (s : State) (q : Fin 16) (f : Queue → Queue) :
    (s.modQueue q f).queue q = f (s.queue q) := by
  simp [State.modQueue]

theorem State.queue_modQueue_other (s : State) (q r : Fin 16) (f : Queue → Queue) (h : q ≠ r) :
    (s.modQueue q f).queue r = s.queue r := by
  simp [State.modQueue, State.queue_setQueue_other s q r _ h]

@[simp] theorem State.slot_setSlot_self (s : State) (i : Fin 16) (x : Slot) : (s.setSlot i x).slot i = x := by
  simp [State.slot, State.setSlot]

theorem State.slot_setSlot_other (s : State) (i j : Fin 16) (x : Slot) (h : i ≠ j) : (s.setSlot i x).slot j = s.slot j := by
  have h' : i.val ≠ j.val := fun e => h (Fin.ext e)
  simp [State.slot, State.setSlot, h']

@[simp] theorem Ring.entry_setEntry_self (r : Ring) (i : Fin 32) (e : RingEntry) : (r.setEntry i e).entry i = e := by
  simp [Ring.entry, Ring.setEntry]

theorem Ring.entry_setEntry_other (r : Ring) (i j : Fin 32) (e : RingEntry) (h : i ≠ j) :
    (r.setEntry i e).entry j = r.entry j := by
  have h' : i.val ≠ j.val := fun e => h (Fin.ext e)
  simp [Ring.entry, Ring.setEntry, h']

@[simp] theorem Ring.setEntry_running (r : Ring) (i : Fin 32) (e : RingEntry) : (r.setEntry i e).running = r.running := rfl
@[simp] theorem Ring.setEntry_current (r : Ring) (i : Fin 32) (e : RingEntry) : (r.setEntry i e).current = r.current := rfl
@[simp] theorem Ring.setEntry_startIndex (r : Ring) (i : Fin 32) (e : RingEntry) : (r.setEntry i e).startIndex = r.startIndex := rfl
@[simp] theorem Ring.setEntry_reason (r : Ring) (i : Fin 32) (e : RingEntry) : (r.setEntry i e).reason = r.reason := rfl
@[simp] theorem Ring.setEntry_lastLabel (r : Ring) (i : Fin 32) (e : RingEntry) : (r.setEntry i e).lastLabel = r.lastLabel := rfl
@[simp] theorem Ring.setEntry_endTimer (r : Ring) (i : Fin 32) (e : RingEntry) : (r.setEntry i e).endTimer = r.endTimer := rfl

end Sys2Proof.Machine
end

