-- ==== Sys2Proof/Laws/Frame.lean ====
section
/-! SUPPORT. What each shared operation leaves alone: for each operation one lemma with every field of the state that it does not touch. -/

namespace Sys2Proof.Machine

@[simp] theorem State.queueNotice_keeps (s : State) :
    s.queueNotice.inReset = s.inReset ∧ s.queueNotice.clock = s.clock ∧ s.queueNotice.fifo = s.fifo ∧
    s.queueNotice.south = s.south ∧ s.queueNotice.store = s.store ∧ s.queueNotice.queues = s.queues ∧
    s.queueNotice.pointers = s.pointers ∧ s.queueNotice.window = s.window ∧ s.queueNotice.gate = s.gate ∧
    s.queueNotice.detector = s.detector ∧ s.queueNotice.sources = s.sources ∧ s.queueNotice.ring = s.ring ∧
    s.queueNotice.engine = s.engine ∧ s.queueNotice.pending = s.pending := by
  and_intros <;> (unfold State.queueNotice; split <;> rfl)

@[simp] theorem State.setFlag_keeps (s : State) (f : EventFlag) :
    (s.setFlag f).inReset = s.inReset ∧ (s.setFlag f).clock = s.clock ∧ (s.setFlag f).fifo = s.fifo ∧
    (s.setFlag f).south = s.south ∧ (s.setFlag f).store = s.store ∧ (s.setFlag f).queues = s.queues ∧
    (s.setFlag f).pointers = s.pointers ∧ (s.setFlag f).window = s.window ∧ (s.setFlag f).gate = s.gate ∧
    (s.setFlag f).detector = s.detector ∧ (s.setFlag f).sources = s.sources ∧ (s.setFlag f).ring = s.ring ∧
    (s.setFlag f).engine = s.engine ∧ (s.setFlag f).pending = s.pending := by
  and_intros <;> (unfold State.setFlag; (repeat' split) <;> simp)

@[simp] theorem State.setFlags_keeps (s : State) (fs : List EventFlag) :
    (s.setFlags fs).inReset = s.inReset ∧ (s.setFlags fs).clock = s.clock ∧ (s.setFlags fs).fifo = s.fifo ∧
    (s.setFlags fs).south = s.south ∧ (s.setFlags fs).store = s.store ∧ (s.setFlags fs).queues = s.queues ∧
    (s.setFlags fs).pointers = s.pointers ∧ (s.setFlags fs).window = s.window ∧ (s.setFlags fs).gate = s.gate ∧
    (s.setFlags fs).detector = s.detector ∧ (s.setFlags fs).sources = s.sources ∧ (s.setFlags fs).ring = s.ring ∧
    (s.setFlags fs).engine = s.engine ∧ (s.setFlags fs).pending = s.pending := by
  unfold State.setFlags
  generalize fs = l
  induction l generalizing s with
  | nil => simp
  | cons a l ih => simp [ih]

@[simp] theorem State.setFlagIf_keeps (s : State) (c : Bool) (f : EventFlag) :
    (s.setFlagIf c f).inReset = s.inReset ∧ (s.setFlagIf c f).clock = s.clock ∧ (s.setFlagIf c f).fifo = s.fifo ∧
    (s.setFlagIf c f).south = s.south ∧ (s.setFlagIf c f).store = s.store ∧ (s.setFlagIf c f).queues = s.queues ∧
    (s.setFlagIf c f).pointers = s.pointers ∧ (s.setFlagIf c f).window = s.window ∧ (s.setFlagIf c f).gate = s.gate ∧
    (s.setFlagIf c f).detector = s.detector ∧ (s.setFlagIf c f).sources = s.sources ∧ (s.setFlagIf c f).ring = s.ring ∧
    (s.setFlagIf c f).engine = s.engine ∧ (s.setFlagIf c f).pending = s.pending := by
  and_intros <;> (unfold State.setFlagIf; split <;> simp)

@[simp] theorem State.reevaluate_keeps (s : State) (q : Fin 16) :
    (s.reevaluate q).inReset = s.inReset ∧ (s.reevaluate q).clock = s.clock ∧ (s.reevaluate q).north = s.north ∧
    (s.reevaluate q).fifo = s.fifo ∧ (s.reevaluate q).south = s.south ∧ (s.reevaluate q).store = s.store ∧
    (s.reevaluate q).pointers = s.pointers ∧ (s.reevaluate q).window = s.window ∧ (s.reevaluate q).gate = s.gate ∧
    (s.reevaluate q).detector = s.detector ∧ (s.reevaluate q).sources = s.sources ∧ (s.reevaluate q).ring = s.ring ∧
    (s.reevaluate q).engine = s.engine ∧ (s.reevaluate q).events = s.events ∧ (s.reevaluate q).pending = s.pending := by
  and_intros <;> rfl

@[simp] theorem State.reevaluateAll_keeps (s : State) :
    s.reevaluateAll.inReset = s.inReset ∧ s.reevaluateAll.clock = s.clock ∧ s.reevaluateAll.north = s.north ∧
    s.reevaluateAll.fifo = s.fifo ∧ s.reevaluateAll.south = s.south ∧ s.reevaluateAll.store = s.store ∧
    s.reevaluateAll.pointers = s.pointers ∧ s.reevaluateAll.window = s.window ∧ s.reevaluateAll.gate = s.gate ∧
    s.reevaluateAll.detector = s.detector ∧ s.reevaluateAll.sources = s.sources ∧ s.reevaluateAll.ring = s.ring ∧
    s.reevaluateAll.engine = s.engine ∧ s.reevaluateAll.events = s.events ∧ s.reevaluateAll.pending = s.pending := by
  unfold State.reevaluateAll State.forQueues
  generalize allQueues = l
  induction l generalizing s with
  | nil => simp
  | cons a l ih => simp [ih]

@[simp] theorem State.windowOpened_keeps (s : State) :
    s.windowOpened.inReset = s.inReset ∧ s.windowOpened.clock = s.clock ∧ s.windowOpened.north = s.north ∧
    s.windowOpened.fifo = s.fifo ∧ s.windowOpened.south = s.south ∧ s.windowOpened.store = s.store ∧
    s.windowOpened.pointers = s.pointers ∧ s.windowOpened.window = s.window ∧ s.windowOpened.gate = s.gate ∧
    s.windowOpened.detector = s.detector ∧ s.windowOpened.sources = s.sources ∧ s.windowOpened.ring = s.ring ∧
    s.windowOpened.engine = s.engine ∧ s.windowOpened.events = s.events ∧ s.windowOpened.pending = s.pending := by
  unfold State.windowOpened State.forQueues
  generalize allQueues = l
  induction l generalizing s with
  | nil => simp
  | cons a l ih => simp [ih]

@[simp] theorem State.search_keeps (s : State) (o : Bool) :
    (s.search o).inReset = s.inReset ∧ (s.search o).clock = s.clock ∧ (s.search o).fifo = s.fifo ∧
    (s.search o).south = s.south ∧ (s.search o).store = s.store ∧ (s.search o).pointers = s.pointers ∧
    (s.search o).gate = s.gate ∧ (s.search o).detector = s.detector ∧ (s.search o).sources = s.sources ∧
    (s.search o).ring = s.ring ∧ (s.search o).engine = s.engine ∧ (s.search o).pending = s.pending := by
  and_intros <;> (unfold State.search; dsimp only; (repeat' split) <;> simp)

@[simp] theorem State.addBusy_keeps (s : State) (x : Addition) :
    (s.addBusy x).inReset = s.inReset ∧ (s.addBusy x).clock = s.clock ∧ (s.addBusy x).north = s.north ∧
    (s.addBusy x).fifo = s.fifo ∧ (s.addBusy x).store = s.store ∧ (s.addBusy x).queues = s.queues ∧
    (s.addBusy x).pointers = s.pointers ∧ (s.addBusy x).window = s.window ∧ (s.addBusy x).detector = s.detector ∧
    (s.addBusy x).sources = s.sources ∧ (s.addBusy x).ring = s.ring ∧ (s.addBusy x).engine = s.engine ∧
    (s.addBusy x).events = s.events ∧ (s.addBusy x).pending = s.pending := by
  and_intros <;> (unfold State.addBusy; split <;> rfl)

@[simp] theorem State.addBusyAll_keeps (s : State) (xs : List Addition) :
    (s.addBusyAll xs).inReset = s.inReset ∧ (s.addBusyAll xs).clock = s.clock ∧ (s.addBusyAll xs).north = s.north ∧
    (s.addBusyAll xs).fifo = s.fifo ∧ (s.addBusyAll xs).store = s.store ∧ (s.addBusyAll xs).queues = s.queues ∧
    (s.addBusyAll xs).pointers = s.pointers ∧ (s.addBusyAll xs).window = s.window ∧ (s.addBusyAll xs).detector = s.detector ∧
    (s.addBusyAll xs).sources = s.sources ∧ (s.addBusyAll xs).ring = s.ring ∧ (s.addBusyAll xs).engine = s.engine ∧
    (s.addBusyAll xs).events = s.events ∧ (s.addBusyAll xs).pending = s.pending := by
  unfold State.addBusyAll
  generalize xs = l
  induction l generalizing s with
  | nil => simp
  | cons a l ih => simp [ih]

@[simp] theorem State.freeSlot_keeps (s : State) (i : Fin 16) :
    (s.freeSlot i).inReset = s.inReset ∧ (s.freeSlot i).clock = s.clock ∧ (s.freeSlot i).north = s.north ∧
    (s.freeSlot i).fifo = s.fifo ∧ (s.freeSlot i).south = s.south ∧ (s.freeSlot i).store = s.store ∧
    (s.freeSlot i).queues = s.queues ∧ (s.freeSlot i).pointers = s.pointers ∧ (s.freeSlot i).window = s.window ∧
    (s.freeSlot i).gate = s.gate ∧ (s.freeSlot i).detector = s.detector ∧ (s.freeSlot i).ring = s.ring ∧
    (s.freeSlot i).engine = s.engine ∧ (s.freeSlot i).events = s.events ∧ (s.freeSlot i).pending = s.pending := by
  and_intros <;> rfl

@[simp] theorem State.releaseHead_keeps (s : State) (q : Fin 16) (d : Descriptor) (r : Rate) (v : Verdict) :
    (s.releaseHead q d r v).inReset = s.inReset ∧ (s.releaseHead q d r v).clock = s.clock ∧
    (s.releaseHead q d r v).fifo = s.fifo ∧ (s.releaseHead q d r v).store = s.store ∧
    (s.releaseHead q d r v).pointers = s.pointers ∧ (s.releaseHead q d r v).detector = s.detector ∧
    (s.releaseHead q d r v).sources = s.sources ∧ (s.releaseHead q d r v).ring = s.ring ∧
    (s.releaseHead q d r v).engine = s.engine ∧ (s.releaseHead q d r v).pending = s.pending := by
  simp [State.releaseHead]

@[simp] theorem State.finish_keeps (s : State) (q : Fin 16) (d : Descriptor) :
    (s.finish q d).inReset = s.inReset ∧ (s.finish q d).clock = s.clock ∧ (s.finish q d).north = s.north ∧
    (s.finish q d).south = s.south ∧ (s.finish q d).queues = s.queues ∧ (s.finish q d).pointers = s.pointers ∧
    (s.finish q d).window = s.window ∧ (s.finish q d).gate = s.gate ∧ (s.finish q d).detector = s.detector ∧
    (s.finish q d).sources = s.sources ∧ (s.finish q d).ring = s.ring ∧ (s.finish q d).engine = s.engine ∧
    (s.finish q d).events = s.events ∧ (s.finish q d).pending = s.pending := by
  and_intros <;> rfl

@[simp] theorem State.finishHead_keeps (s : State) (q : Fin 16) :
    (s.finishHead q).inReset = s.inReset ∧ (s.finishHead q).clock = s.clock ∧ (s.finishHead q).north = s.north ∧
    (s.finishHead q).south = s.south ∧ (s.finishHead q).pointers = s.pointers ∧ (s.finishHead q).window = s.window ∧
    (s.finishHead q).gate = s.gate ∧ (s.finishHead q).detector = s.detector ∧ (s.finishHead q).sources = s.sources ∧
    (s.finishHead q).ring = s.ring ∧ (s.finishHead q).engine = s.engine ∧ (s.finishHead q).events = s.events ∧
    (s.finishHead q).pending = s.pending := by
  and_intros <;> (unfold State.finishHead; split <;> simp)

@[simp] theorem State.closeDrained_keeps (s : State) (q : Fin 16) :
    (s.closeDrained q).inReset = s.inReset ∧ (s.closeDrained q).clock = s.clock ∧ (s.closeDrained q).fifo = s.fifo ∧
    (s.closeDrained q).south = s.south ∧ (s.closeDrained q).store = s.store ∧ (s.closeDrained q).pointers = s.pointers ∧
    (s.closeDrained q).window = s.window ∧ (s.closeDrained q).gate = s.gate ∧ (s.closeDrained q).detector = s.detector ∧
    (s.closeDrained q).sources = s.sources ∧ (s.closeDrained q).ring = s.ring ∧ (s.closeDrained q).engine = s.engine ∧
    (s.closeDrained q).pending = s.pending := by
  simp [State.closeDrained]

@[simp] theorem State.settle_keeps (s : State) (e : Outstanding) :
    (s.settle e).inReset = s.inReset ∧ (s.settle e).clock = s.clock ∧ (s.settle e).pointers = s.pointers ∧
    (s.settle e).window = s.window ∧ (s.settle e).detector = s.detector ∧ (s.settle e).sources = s.sources ∧
    (s.settle e).ring = s.ring ∧ (s.settle e).engine = s.engine ∧ (s.settle e).pending = s.pending := by
  and_intros <;> (unfold State.settle; dsimp only; (repeat' split) <;> simp)

@[simp] theorem State.resolveSent_keeps (s : State) (a : List Bool) (e : Outstanding) :
    (s.resolveSent a e).inReset = s.inReset ∧ (s.resolveSent a e).clock = s.clock ∧ (s.resolveSent a e).pointers = s.pointers ∧
    (s.resolveSent a e).window = s.window ∧ (s.resolveSent a e).detector = s.detector ∧
    (s.resolveSent a e).sources = s.sources ∧ (s.resolveSent a e).ring = s.ring ∧ (s.resolveSent a e).engine = s.engine ∧
    (s.resolveSent a e).pending = s.pending := by
  simp [State.resolveSent]

@[simp] theorem State.resolveUnsent_keeps (s : State) (e : Outstanding) :
    (s.resolveUnsent e).inReset = s.inReset ∧ (s.resolveUnsent e).clock = s.clock ∧ (s.resolveUnsent e).pointers = s.pointers ∧
    (s.resolveUnsent e).window = s.window ∧ (s.resolveUnsent e).detector = s.detector ∧
    (s.resolveUnsent e).sources = s.sources ∧ (s.resolveUnsent e).ring = s.ring ∧ (s.resolveUnsent e).engine = s.engine ∧
    (s.resolveUnsent e).pending = s.pending := by
  simp [State.resolveUnsent]

@[simp] theorem State.resolveAll_keeps (s : State) :
    s.resolveAll.inReset = s.inReset ∧ s.resolveAll.clock = s.clock ∧ s.resolveAll.pointers = s.pointers ∧
    s.resolveAll.window = s.window ∧ s.resolveAll.detector = s.detector ∧ s.resolveAll.sources = s.sources ∧
    s.resolveAll.ring = s.ring ∧ s.resolveAll.engine = s.engine ∧ s.resolveAll.pending = s.pending := by
  unfold State.resolveAll
  generalize s.gate.table = l
  induction l generalizing s with
  | nil => simp
  | cons a l ih => simp [ih]

@[simp] theorem State.applyTxStat_keeps (s : State) (t : TxStat) :
    (s.applyTxStat t).inReset = s.inReset ∧ (s.applyTxStat t).clock = s.clock ∧ (s.applyTxStat t).pointers = s.pointers ∧
    (s.applyTxStat t).window = s.window ∧ (s.applyTxStat t).detector = s.detector ∧ (s.applyTxStat t).sources = s.sources ∧
    (s.applyTxStat t).ring = s.ring ∧ (s.applyTxStat t).engine = s.engine ∧ (s.applyTxStat t).pending = s.pending := by
  and_intros <;> (unfold State.applyTxStat; (repeat' split) <;> simp)

@[simp] theorem State.drain_keeps (s : State) (q : Fin 16) :
    (s.drain q).inReset = s.inReset ∧ (s.drain q).clock = s.clock ∧ (s.drain q).south = s.south ∧
    (s.drain q).pointers = s.pointers ∧ (s.drain q).window = s.window ∧ (s.drain q).gate = s.gate ∧
    (s.drain q).detector = s.detector ∧ (s.drain q).sources = s.sources ∧ (s.drain q).ring = s.ring ∧
    (s.drain q).engine = s.engine ∧ (s.drain q).pending = s.pending := by
  have h : ∀ (l : List Descriptor) (s : State),
      let u := l.foldl (fun s d => s.finish q d) s
      u.inReset = s.inReset ∧ u.clock = s.clock ∧ u.south = s.south ∧ u.pointers = s.pointers ∧ u.window = s.window ∧ u.gate = s.gate ∧ u.detector = s.detector ∧ u.sources = s.sources ∧ u.ring = s.ring ∧ u.engine = s.engine ∧ u.pending = s.pending := by
    intro l
    induction l with
    | nil => intro s; simp
    | cons a l ih => intro s; simp [ih]
  unfold State.drain
  dsimp only
  and_intros <;> split <;> simp [h]

@[simp] theorem Track.begin_keeps (s : State) :
    (Track.begin s).state.inReset = s.inReset ∧ (Track.begin s).state.clock = s.clock ∧ (Track.begin s).state.north = s.north ∧
    (Track.begin s).state.fifo = s.fifo ∧ (Track.begin s).state.south = s.south ∧ (Track.begin s).state.store = s.store ∧
    (Track.begin s).state.queues = s.queues ∧ (Track.begin s).state.pointers = s.pointers ∧
    (Track.begin s).state.window = s.window ∧ (Track.begin s).state.gate = s.gate ∧
    (Track.begin s).state.detector = s.detector ∧ (Track.begin s).state.sources = s.sources ∧
    (Track.begin s).state.ring = s.ring ∧ (Track.begin s).state.engine = s.engine ∧ (Track.begin s).state.events = s.events ∧
    (Track.begin s).state.pending = s.pending := by
  and_intros <;> rfl

@[simp] theorem Track.raise_keeps (t : Track) (f : EventFlag) :
    (t.raise f).state.inReset = t.state.inReset ∧ (t.raise f).state.clock = t.state.clock ∧
    (t.raise f).state.north = t.state.north ∧ (t.raise f).state.fifo = t.state.fifo ∧ (t.raise f).state.south = t.state.south ∧
    (t.raise f).state.store = t.state.store ∧ (t.raise f).state.queues = t.state.queues ∧
    (t.raise f).state.pointers = t.state.pointers ∧ (t.raise f).state.window = t.state.window ∧
    (t.raise f).state.gate = t.state.gate ∧ (t.raise f).state.detector = t.state.detector ∧
    (t.raise f).state.sources = t.state.sources ∧ (t.raise f).state.ring = t.state.ring ∧
    (t.raise f).state.engine = t.state.engine ∧ (t.raise f).state.events = t.state.events ∧
    (t.raise f).state.pending = t.state.pending := by
  and_intros <;> rfl

@[simp] theorem Track.store_keeps (t : Track) (i : Fin 16) (w : Option SourceState) (e : Source) (c : Bool) :
    (t.store i w e c).state.inReset = t.state.inReset ∧ (t.store i w e c).state.clock = t.state.clock ∧
    (t.store i w e c).state.north = t.state.north ∧ (t.store i w e c).state.fifo = t.state.fifo ∧
    (t.store i w e c).state.south = t.state.south ∧ (t.store i w e c).state.store = t.state.store ∧
    (t.store i w e c).state.queues = t.state.queues ∧ (t.store i w e c).state.pointers = t.state.pointers ∧
    (t.store i w e c).state.window = t.state.window ∧ (t.store i w e c).state.gate = t.state.gate ∧
    (t.store i w e c).state.detector = t.state.detector ∧ (t.store i w e c).state.ring = t.state.ring ∧
    (t.store i w e c).state.engine = t.state.engine ∧ (t.store i w e c).state.events = t.state.events ∧
    (t.store i w e c).state.pending = t.state.pending := by
  and_intros <;> rfl

@[simp] theorem Track.advance_keeps (t : Track) (i : Fin 16) (e : Source) :
    (t.advance i e).state.inReset = t.state.inReset ∧ (t.advance i e).state.clock = t.state.clock ∧
    (t.advance i e).state.north = t.state.north ∧ (t.advance i e).state.fifo = t.state.fifo ∧
    (t.advance i e).state.south = t.state.south ∧ (t.advance i e).state.store = t.state.store ∧
    (t.advance i e).state.queues = t.state.queues ∧ (t.advance i e).state.pointers = t.state.pointers ∧
    (t.advance i e).state.window = t.state.window ∧ (t.advance i e).state.gate = t.state.gate ∧
    (t.advance i e).state.detector = t.state.detector ∧ (t.advance i e).state.ring = t.state.ring ∧
    (t.advance i e).state.engine = t.state.engine ∧ (t.advance i e).state.events = t.state.events ∧
    (t.advance i e).state.pending = t.state.pending := by
  and_intros <;> rfl

@[simp] theorem Track.miss_keeps (t : Track) (i : Fin 16) (e : Source) :
    (t.miss i e).state.inReset = t.state.inReset ∧ (t.miss i e).state.clock = t.state.clock ∧
    (t.miss i e).state.north = t.state.north ∧ (t.miss i e).state.fifo = t.state.fifo ∧
    (t.miss i e).state.south = t.state.south ∧ (t.miss i e).state.store = t.state.store ∧
    (t.miss i e).state.queues = t.state.queues ∧ (t.miss i e).state.pointers = t.state.pointers ∧
    (t.miss i e).state.window = t.state.window ∧ (t.miss i e).state.gate = t.state.gate ∧
    (t.miss i e).state.detector = t.state.detector ∧ (t.miss i e).state.ring = t.state.ring ∧
    (t.miss i e).state.engine = t.state.engine ∧ (t.miss i e).state.events = t.state.events ∧
    (t.miss i e).state.pending = t.state.pending := by
  and_intros <;> (unfold Track.miss; dsimp only; (repeat' split) <;> simp)

@[simp] theorem Track.judgeOnce_keeps (t : Track) (i : Fin 16) :
    (t.judgeOnce i).state.inReset = t.state.inReset ∧ (t.judgeOnce i).state.clock = t.state.clock ∧
    (t.judgeOnce i).state.north = t.state.north ∧ (t.judgeOnce i).state.fifo = t.state.fifo ∧
    (t.judgeOnce i).state.south = t.state.south ∧ (t.judgeOnce i).state.store = t.state.store ∧
    (t.judgeOnce i).state.queues = t.state.queues ∧ (t.judgeOnce i).state.pointers = t.state.pointers ∧
    (t.judgeOnce i).state.window = t.state.window ∧ (t.judgeOnce i).state.gate = t.state.gate ∧
    (t.judgeOnce i).state.detector = t.state.detector ∧ (t.judgeOnce i).state.ring = t.state.ring ∧
    (t.judgeOnce i).state.engine = t.state.engine ∧ (t.judgeOnce i).state.events = t.state.events ∧
    (t.judgeOnce i).state.pending = t.state.pending := by
  and_intros <;> (unfold Track.judgeOnce; dsimp only; (repeat' split) <;> simp)

@[simp] theorem Track.judgePassed_keeps (t : Track) (i : Fin 16) :
    (t.judgePassed i).state.inReset = t.state.inReset ∧ (t.judgePassed i).state.clock = t.state.clock ∧
    (t.judgePassed i).state.north = t.state.north ∧ (t.judgePassed i).state.fifo = t.state.fifo ∧
    (t.judgePassed i).state.south = t.state.south ∧ (t.judgePassed i).state.store = t.state.store ∧
    (t.judgePassed i).state.queues = t.state.queues ∧ (t.judgePassed i).state.pointers = t.state.pointers ∧
    (t.judgePassed i).state.window = t.state.window ∧ (t.judgePassed i).state.gate = t.state.gate ∧
    (t.judgePassed i).state.detector = t.state.detector ∧ (t.judgePassed i).state.ring = t.state.ring ∧
    (t.judgePassed i).state.engine = t.state.engine ∧ (t.judgePassed i).state.events = t.state.events ∧
    (t.judgePassed i).state.pending = t.state.pending := by
  and_intros <;> (unfold Track.judgePassed; split <;> simp)

@[simp] theorem Track.check_keeps (t : Track) (i : Fin 16) :
    (t.check i).state.inReset = t.state.inReset ∧ (t.check i).state.clock = t.state.clock ∧
    (t.check i).state.north = t.state.north ∧ (t.check i).state.fifo = t.state.fifo ∧ (t.check i).state.south = t.state.south ∧
    (t.check i).state.store = t.state.store ∧ (t.check i).state.queues = t.state.queues ∧
    (t.check i).state.pointers = t.state.pointers ∧ (t.check i).state.window = t.state.window ∧
    (t.check i).state.gate = t.state.gate ∧ (t.check i).state.detector = t.state.detector ∧
    (t.check i).state.ring = t.state.ring ∧ (t.check i).state.engine = t.state.engine ∧
    (t.check i).state.events = t.state.events ∧ (t.check i).state.pending = t.state.pending := by
  simp [Track.check]

@[simp] theorem Track.arm_keeps (t : Track) (i : Fin 16) :
    (t.arm i).state.inReset = t.state.inReset ∧ (t.arm i).state.clock = t.state.clock ∧ (t.arm i).state.north = t.state.north ∧
    (t.arm i).state.fifo = t.state.fifo ∧ (t.arm i).state.south = t.state.south ∧ (t.arm i).state.store = t.state.store ∧
    (t.arm i).state.queues = t.state.queues ∧ (t.arm i).state.pointers = t.state.pointers ∧
    (t.arm i).state.window = t.state.window ∧ (t.arm i).state.gate = t.state.gate ∧
    (t.arm i).state.detector = t.state.detector ∧ (t.arm i).state.ring = t.state.ring ∧
    (t.arm i).state.engine = t.state.engine ∧ (t.arm i).state.events = t.state.events ∧
    (t.arm i).state.pending = t.state.pending := by
  and_intros <;> (unfold Track.arm; dsimp only; split <;> simp)

@[simp] theorem Track.checkDeferred_keeps (t : Track) :
    t.checkDeferred.state.inReset = t.state.inReset ∧ t.checkDeferred.state.clock = t.state.clock ∧
    t.checkDeferred.state.north = t.state.north ∧ t.checkDeferred.state.fifo = t.state.fifo ∧
    t.checkDeferred.state.south = t.state.south ∧ t.checkDeferred.state.store = t.state.store ∧
    t.checkDeferred.state.queues = t.state.queues ∧ t.checkDeferred.state.pointers = t.state.pointers ∧
    t.checkDeferred.state.window = t.state.window ∧ t.checkDeferred.state.gate = t.state.gate ∧
    t.checkDeferred.state.detector = t.state.detector ∧ t.checkDeferred.state.ring = t.state.ring ∧
    t.checkDeferred.state.engine = t.state.engine ∧ t.checkDeferred.state.events = t.state.events ∧
    t.checkDeferred.state.pending = t.state.pending := by
  unfold Track.checkDeferred
  generalize allSlots = l
  induction l generalizing t with
  | nil => simp
  | cons a l ih => by_cases h : (t.state.slot a).deferred <;> simp [ih, h]

@[simp] theorem Track.armAll_keeps (t : Track) :
    t.armAll.state.inReset = t.state.inReset ∧ t.armAll.state.clock = t.state.clock ∧ t.armAll.state.north = t.state.north ∧
    t.armAll.state.fifo = t.state.fifo ∧ t.armAll.state.south = t.state.south ∧ t.armAll.state.store = t.state.store ∧
    t.armAll.state.queues = t.state.queues ∧ t.armAll.state.pointers = t.state.pointers ∧
    t.armAll.state.window = t.state.window ∧ t.armAll.state.gate = t.state.gate ∧ t.armAll.state.detector = t.state.detector ∧
    t.armAll.state.ring = t.state.ring ∧ t.armAll.state.engine = t.state.engine ∧ t.armAll.state.events = t.state.events ∧
    t.armAll.state.pending = t.state.pending := by
  unfold Track.armAll
  generalize allSlots = l
  induction l generalizing t with
  | nil => simp
  | cons a l ih => simp [ih]

@[simp] theorem Track.settle_keeps (t : Track) (i : Fin 16) (w : Option SourceState) (e : Source) (c : Bool) :
    (t.settle i w e c).state.inReset = t.state.inReset ∧ (t.settle i w e c).state.clock = t.state.clock ∧
    (t.settle i w e c).state.north = t.state.north ∧ (t.settle i w e c).state.fifo = t.state.fifo ∧
    (t.settle i w e c).state.south = t.state.south ∧ (t.settle i w e c).state.store = t.state.store ∧
    (t.settle i w e c).state.queues = t.state.queues ∧ (t.settle i w e c).state.pointers = t.state.pointers ∧
    (t.settle i w e c).state.window = t.state.window ∧ (t.settle i w e c).state.gate = t.state.gate ∧
    (t.settle i w e c).state.detector = t.state.detector ∧ (t.settle i w e c).state.ring = t.state.ring ∧
    (t.settle i w e c).state.engine = t.state.engine ∧ (t.settle i w e c).state.events = t.state.events ∧
    (t.settle i w e c).state.pending = t.state.pending := by
  and_intros <;> (unfold Track.settle; dsimp only; split <;> simp)

@[simp] theorem Track.matchOven_keeps (t : Track) (i : Fin 16) (e : Source) (n : Nat) (b : Instant) :
    (t.matchOven i e n b).state.inReset = t.state.inReset ∧ (t.matchOven i e n b).state.clock = t.state.clock ∧
    (t.matchOven i e n b).state.north = t.state.north ∧ (t.matchOven i e n b).state.fifo = t.state.fifo ∧
    (t.matchOven i e n b).state.south = t.state.south ∧ (t.matchOven i e n b).state.store = t.state.store ∧
    (t.matchOven i e n b).state.queues = t.state.queues ∧ (t.matchOven i e n b).state.pointers = t.state.pointers ∧
    (t.matchOven i e n b).state.window = t.state.window ∧ (t.matchOven i e n b).state.gate = t.state.gate ∧
    (t.matchOven i e n b).state.detector = t.state.detector ∧ (t.matchOven i e n b).state.ring = t.state.ring ∧
    (t.matchOven i e n b).state.engine = t.state.engine ∧ (t.matchOven i e n b).state.events = t.state.events ∧
    (t.matchOven i e n b).state.pending = t.state.pending := by
  simp [Track.matchOven]

@[simp] theorem Track.startEvent_keeps (t : Track) (v : BurstStart) :
    (t.startEvent v).state.inReset = t.state.inReset ∧ (t.startEvent v).state.clock = t.state.clock ∧
    (t.startEvent v).state.north = t.state.north ∧ (t.startEvent v).state.fifo = t.state.fifo ∧
    (t.startEvent v).state.south = t.state.south ∧ (t.startEvent v).state.store = t.state.store ∧
    (t.startEvent v).state.queues = t.state.queues ∧ (t.startEvent v).state.pointers = t.state.pointers ∧
    (t.startEvent v).state.window = t.state.window ∧ (t.startEvent v).state.gate = t.state.gate ∧
    (t.startEvent v).state.detector = t.state.detector ∧ (t.startEvent v).state.ring = t.state.ring ∧
    (t.startEvent v).state.engine = t.state.engine ∧ (t.startEvent v).state.events = t.state.events ∧
    (t.startEvent v).state.pending = t.state.pending := by
  and_intros <;> (unfold Track.startEvent; (repeat' split) <;> simp)

@[simp] theorem Track.create_keeps (t : Track) (e : Source) :
    (t.create e).state.inReset = t.state.inReset ∧ (t.create e).state.clock = t.state.clock ∧
    (t.create e).state.north = t.state.north ∧ (t.create e).state.fifo = t.state.fifo ∧
    (t.create e).state.south = t.state.south ∧ (t.create e).state.store = t.state.store ∧
    (t.create e).state.queues = t.state.queues ∧ (t.create e).state.pointers = t.state.pointers ∧
    (t.create e).state.window = t.state.window ∧ (t.create e).state.gate = t.state.gate ∧
    (t.create e).state.detector = t.state.detector ∧ (t.create e).state.ring = t.state.ring ∧
    (t.create e).state.engine = t.state.engine ∧ (t.create e).state.events = t.state.events ∧
    (t.create e).state.pending = t.state.pending := by
  and_intros <;> (unfold Track.create; split <;> simp)

@[simp] theorem Track.updateDuration_keeps (t : Track) (i : Fin 16) (c : Bool) (m : Nat) :
    (t.updateDuration i c m).state.inReset = t.state.inReset ∧ (t.updateDuration i c m).state.clock = t.state.clock ∧
    (t.updateDuration i c m).state.north = t.state.north ∧ (t.updateDuration i c m).state.fifo = t.state.fifo ∧
    (t.updateDuration i c m).state.south = t.state.south ∧ (t.updateDuration i c m).state.store = t.state.store ∧
    (t.updateDuration i c m).state.queues = t.state.queues ∧ (t.updateDuration i c m).state.pointers = t.state.pointers ∧
    (t.updateDuration i c m).state.window = t.state.window ∧ (t.updateDuration i c m).state.gate = t.state.gate ∧
    (t.updateDuration i c m).state.detector = t.state.detector ∧ (t.updateDuration i c m).state.ring = t.state.ring ∧
    (t.updateDuration i c m).state.engine = t.state.engine ∧ (t.updateDuration i c m).state.events = t.state.events ∧
    (t.updateDuration i c m).state.pending = t.state.pending := by
  and_intros <;> (unfold Track.updateDuration; dsimp only; (repeat' split) <;> simp)

@[simp] theorem Track.endEvent_keeps (t : Track) (v : BurstEnd) :
    (t.endEvent v).state.inReset = t.state.inReset ∧ (t.endEvent v).state.clock = t.state.clock ∧
    (t.endEvent v).state.north = t.state.north ∧ (t.endEvent v).state.fifo = t.state.fifo ∧
    (t.endEvent v).state.south = t.state.south ∧ (t.endEvent v).state.store = t.state.store ∧
    (t.endEvent v).state.queues = t.state.queues ∧ (t.endEvent v).state.pointers = t.state.pointers ∧
    (t.endEvent v).state.window = t.state.window ∧ (t.endEvent v).state.gate = t.state.gate ∧
    (t.endEvent v).state.detector = t.state.detector ∧ (t.endEvent v).state.ring = t.state.ring ∧
    (t.endEvent v).state.engine = t.state.engine ∧ (t.endEvent v).state.events = t.state.events ∧
    (t.endEvent v).state.pending = t.state.pending := by
  and_intros <;> (unfold Track.endEvent; dsimp only; (repeat' split) <;> simp)

@[simp] theorem Track.matchBeacon_keeps (t : Track) (i : Fin 16) (e : Source) (b : Instant) (m : Nat) :
    (t.matchBeacon i e b m).state.inReset = t.state.inReset ∧ (t.matchBeacon i e b m).state.clock = t.state.clock ∧
    (t.matchBeacon i e b m).state.north = t.state.north ∧ (t.matchBeacon i e b m).state.fifo = t.state.fifo ∧
    (t.matchBeacon i e b m).state.south = t.state.south ∧ (t.matchBeacon i e b m).state.store = t.state.store ∧
    (t.matchBeacon i e b m).state.queues = t.state.queues ∧ (t.matchBeacon i e b m).state.pointers = t.state.pointers ∧
    (t.matchBeacon i e b m).state.window = t.state.window ∧ (t.matchBeacon i e b m).state.gate = t.state.gate ∧
    (t.matchBeacon i e b m).state.detector = t.state.detector ∧ (t.matchBeacon i e b m).state.ring = t.state.ring ∧
    (t.matchBeacon i e b m).state.engine = t.state.engine ∧ (t.matchBeacon i e b m).state.events = t.state.events ∧
    (t.matchBeacon i e b m).state.pending = t.state.pending := by
  simp [Track.matchBeacon]

@[simp] theorem Track.reanchor_keeps (t : Track) (i : Fin 16) (w : SourceState) (e : Source) :
    (t.reanchor i w e).state.inReset = t.state.inReset ∧ (t.reanchor i w e).state.clock = t.state.clock ∧
    (t.reanchor i w e).state.north = t.state.north ∧ (t.reanchor i w e).state.fifo = t.state.fifo ∧
    (t.reanchor i w e).state.south = t.state.south ∧ (t.reanchor i w e).state.store = t.state.store ∧
    (t.reanchor i w e).state.queues = t.state.queues ∧ (t.reanchor i w e).state.pointers = t.state.pointers ∧
    (t.reanchor i w e).state.window = t.state.window ∧ (t.reanchor i w e).state.gate = t.state.gate ∧
    (t.reanchor i w e).state.detector = t.state.detector ∧ (t.reanchor i w e).state.ring = t.state.ring ∧
    (t.reanchor i w e).state.engine = t.state.engine ∧ (t.reanchor i w e).state.events = t.state.events ∧
    (t.reanchor i w e).state.pending = t.state.pending := by
  simp [Track.reanchor]

@[simp] theorem Track.learnBeacon_keeps (t : Track) (x : Trailer) :
    (t.learnBeacon x).state.inReset = t.state.inReset ∧ (t.learnBeacon x).state.clock = t.state.clock ∧
    (t.learnBeacon x).state.north = t.state.north ∧ (t.learnBeacon x).state.fifo = t.state.fifo ∧
    (t.learnBeacon x).state.south = t.state.south ∧ (t.learnBeacon x).state.store = t.state.store ∧
    (t.learnBeacon x).state.queues = t.state.queues ∧ (t.learnBeacon x).state.pointers = t.state.pointers ∧
    (t.learnBeacon x).state.window = t.state.window ∧ (t.learnBeacon x).state.gate = t.state.gate ∧
    (t.learnBeacon x).state.detector = t.state.detector ∧ (t.learnBeacon x).state.ring = t.state.ring ∧
    (t.learnBeacon x).state.engine = t.state.engine ∧ (t.learnBeacon x).state.events = t.state.events ∧
    (t.learnBeacon x).state.pending = t.state.pending := by
  and_intros <;> (unfold Track.learnBeacon; dsimp only; (repeat' split) <;> simp)

@[simp] theorem Track.modDetector_keeps (t : Track) (f : Detector → Detector) :
    (t.modDetector f).state.inReset = t.state.inReset ∧ (t.modDetector f).state.clock = t.state.clock ∧
    (t.modDetector f).state.north = t.state.north ∧ (t.modDetector f).state.fifo = t.state.fifo ∧
    (t.modDetector f).state.south = t.state.south ∧ (t.modDetector f).state.store = t.state.store ∧
    (t.modDetector f).state.queues = t.state.queues ∧ (t.modDetector f).state.pointers = t.state.pointers ∧
    (t.modDetector f).state.window = t.state.window ∧ (t.modDetector f).state.gate = t.state.gate ∧
    (t.modDetector f).state.sources = t.state.sources ∧ (t.modDetector f).state.ring = t.state.ring ∧
    (t.modDetector f).state.engine = t.state.engine ∧ (t.modDetector f).state.events = t.state.events ∧
    (t.modDetector f).state.pending = t.state.pending := by
  and_intros <;> rfl

@[simp] theorem Track.endBurst_keeps (t : Track) (n : Nat) (b : Instant) (c : Bool) :
    (t.endBurst n b c).state.inReset = t.state.inReset ∧ (t.endBurst n b c).state.clock = t.state.clock ∧
    (t.endBurst n b c).state.north = t.state.north ∧ (t.endBurst n b c).state.fifo = t.state.fifo ∧
    (t.endBurst n b c).state.south = t.state.south ∧ (t.endBurst n b c).state.store = t.state.store ∧
    (t.endBurst n b c).state.queues = t.state.queues ∧ (t.endBurst n b c).state.pointers = t.state.pointers ∧
    (t.endBurst n b c).state.window = t.state.window ∧ (t.endBurst n b c).state.gate = t.state.gate ∧
    (t.endBurst n b c).state.ring = t.state.ring ∧ (t.endBurst n b c).state.engine = t.state.engine ∧
    (t.endBurst n b c).state.events = t.state.events ∧ (t.endBurst n b c).state.pending = t.state.pending := by
  and_intros <;> (unfold Track.endBurst; split <;> simp)

@[simp] theorem Track.closeAtBreak_keeps (t : Track) (n : Nat) (b : Option Instant) :
    (t.closeAtBreak n b).state.inReset = t.state.inReset ∧ (t.closeAtBreak n b).state.clock = t.state.clock ∧
    (t.closeAtBreak n b).state.north = t.state.north ∧ (t.closeAtBreak n b).state.fifo = t.state.fifo ∧
    (t.closeAtBreak n b).state.south = t.state.south ∧ (t.closeAtBreak n b).state.store = t.state.store ∧
    (t.closeAtBreak n b).state.queues = t.state.queues ∧ (t.closeAtBreak n b).state.pointers = t.state.pointers ∧
    (t.closeAtBreak n b).state.window = t.state.window ∧ (t.closeAtBreak n b).state.gate = t.state.gate ∧
    (t.closeAtBreak n b).state.ring = t.state.ring ∧ (t.closeAtBreak n b).state.engine = t.state.engine ∧
    (t.closeAtBreak n b).state.events = t.state.events ∧ (t.closeAtBreak n b).state.pending = t.state.pending := by
  and_intros <;> (unfold Track.closeAtBreak; split <;> simp)

@[simp] theorem Track.startBurst_keeps (t : Track) (n : Nat) (b : Instant) (c : Bool) (l : Int) :
    (t.startBurst n b c l).state.inReset = t.state.inReset ∧ (t.startBurst n b c l).state.clock = t.state.clock ∧
    (t.startBurst n b c l).state.north = t.state.north ∧ (t.startBurst n b c l).state.fifo = t.state.fifo ∧
    (t.startBurst n b c l).state.south = t.state.south ∧ (t.startBurst n b c l).state.store = t.state.store ∧
    (t.startBurst n b c l).state.queues = t.state.queues ∧ (t.startBurst n b c l).state.pointers = t.state.pointers ∧
    (t.startBurst n b c l).state.window = t.state.window ∧ (t.startBurst n b c l).state.gate = t.state.gate ∧
    (t.startBurst n b c l).state.ring = t.state.ring ∧ (t.startBurst n b c l).state.engine = t.state.engine ∧
    (t.startBurst n b c l).state.events = t.state.events ∧ (t.startBurst n b c l).state.pending = t.state.pending := by
  and_intros <;> (unfold Track.startBurst; dsimp only; split <;> simp)

@[simp] theorem Track.sampleIdle_keeps (t : Track) (n : Nat) (b : Instant) (c : Bool) (l : Int) :
    (t.sampleIdle n b c l).state.inReset = t.state.inReset ∧ (t.sampleIdle n b c l).state.clock = t.state.clock ∧
    (t.sampleIdle n b c l).state.north = t.state.north ∧ (t.sampleIdle n b c l).state.fifo = t.state.fifo ∧
    (t.sampleIdle n b c l).state.south = t.state.south ∧ (t.sampleIdle n b c l).state.store = t.state.store ∧
    (t.sampleIdle n b c l).state.queues = t.state.queues ∧ (t.sampleIdle n b c l).state.pointers = t.state.pointers ∧
    (t.sampleIdle n b c l).state.window = t.state.window ∧ (t.sampleIdle n b c l).state.gate = t.state.gate ∧
    (t.sampleIdle n b c l).state.ring = t.state.ring ∧ (t.sampleIdle n b c l).state.engine = t.state.engine ∧
    (t.sampleIdle n b c l).state.events = t.state.events ∧ (t.sampleIdle n b c l).state.pending = t.state.pending := by
  and_intros <;> (unfold Track.sampleIdle; split <;> simp)

@[simp] theorem Track.sample_keeps (t : Track) (n : Nat) (b : Instant) (c : Bool) (l : Int) :
    (t.sample n b c l).state.inReset = t.state.inReset ∧ (t.sample n b c l).state.clock = t.state.clock ∧
    (t.sample n b c l).state.north = t.state.north ∧ (t.sample n b c l).state.fifo = t.state.fifo ∧
    (t.sample n b c l).state.south = t.state.south ∧ (t.sample n b c l).state.store = t.state.store ∧
    (t.sample n b c l).state.queues = t.state.queues ∧ (t.sample n b c l).state.pointers = t.state.pointers ∧
    (t.sample n b c l).state.window = t.state.window ∧ (t.sample n b c l).state.gate = t.state.gate ∧
    (t.sample n b c l).state.ring = t.state.ring ∧ (t.sample n b c l).state.engine = t.state.engine ∧
    (t.sample n b c l).state.events = t.state.events ∧ (t.sample n b c l).state.pending = t.state.pending := by
  and_intros <;> (unfold Track.sample; (repeat' split) <;> simp)

@[simp] theorem Track.samples_keeps (t : Track) (n : Nat) (r : EnergyReport) (o : Option Instant) (i : Nat) (xs : List Int) :
    (Track.samples n r o i xs t).state.inReset = t.state.inReset ∧ (Track.samples n r o i xs t).state.clock = t.state.clock ∧
    (Track.samples n r o i xs t).state.north = t.state.north ∧ (Track.samples n r o i xs t).state.fifo = t.state.fifo ∧
    (Track.samples n r o i xs t).state.south = t.state.south ∧ (Track.samples n r o i xs t).state.store = t.state.store ∧
    (Track.samples n r o i xs t).state.queues = t.state.queues ∧
    (Track.samples n r o i xs t).state.pointers = t.state.pointers ∧
    (Track.samples n r o i xs t).state.window = t.state.window ∧ (Track.samples n r o i xs t).state.gate = t.state.gate ∧
    (Track.samples n r o i xs t).state.ring = t.state.ring ∧ (Track.samples n r o i xs t).state.engine = t.state.engine ∧
    (Track.samples n r o i xs t).state.events = t.state.events ∧ (Track.samples n r o i xs t).state.pending = t.state.pending := by
  induction xs generalizing i t with
  | nil => and_intros <;> rfl
  | cons x xs ih =>
    unfold Track.samples
    dsimp only
    simp only [ih]
    and_intros <;> (repeat' split) <;> simp

@[simp] theorem Track.radioChange_keeps (t : Track) (o : Radio) :
    (t.radioChange o).state.inReset = t.state.inReset ∧ (t.radioChange o).state.clock = t.state.clock ∧
    (t.radioChange o).state.north = t.state.north ∧ (t.radioChange o).state.fifo = t.state.fifo ∧
    (t.radioChange o).state.south = t.state.south ∧ (t.radioChange o).state.store = t.state.store ∧
    (t.radioChange o).state.queues = t.state.queues ∧ (t.radioChange o).state.pointers = t.state.pointers ∧
    (t.radioChange o).state.window = t.state.window ∧ (t.radioChange o).state.gate = t.state.gate ∧
    (t.radioChange o).state.ring = t.state.ring ∧ (t.radioChange o).state.engine = t.state.engine ∧
    (t.radioChange o).state.events = t.state.events ∧ (t.radioChange o).state.pending = t.state.pending := by
  and_intros <;> (unfold Track.radioChange; dsimp only; (repeat' split) <;> simp)

@[simp] theorem Track.handOn_keeps (t : Track) :
    t.handOn.inReset = t.state.inReset ∧ t.handOn.clock = t.state.clock ∧ t.handOn.fifo = t.state.fifo ∧
    t.handOn.store = t.state.store ∧ t.handOn.pointers = t.state.pointers ∧ t.handOn.detector = t.state.detector ∧
    t.handOn.sources = t.state.sources ∧ t.handOn.ring = t.state.ring ∧ t.handOn.engine = t.state.engine ∧
    t.handOn.pending = t.state.pending := by
  and_intros <;> (unfold Track.handOn; dsimp only; split <;> simp)

@[simp] theorem State.readBeacon_keeps (s : State) (p : List Byte) :
    (s.readBeacon p).inReset = s.inReset ∧ (s.readBeacon p).clock = s.clock ∧ (s.readBeacon p).fifo = s.fifo ∧
    (s.readBeacon p).store = s.store ∧ (s.readBeacon p).pointers = s.pointers ∧ (s.readBeacon p).detector = s.detector ∧
    (s.readBeacon p).ring = s.ring ∧ (s.readBeacon p).engine = s.engine ∧ (s.readBeacon p).pending = s.pending := by
  and_intros <;> (unfold State.readBeacon; (repeat' split) <;> simp)

@[simp] theorem Track.removeSpans_keeps (t : Track) (kept : List Span) :
    (t.removeSpans kept).state.inReset = t.state.inReset ∧ (t.removeSpans kept).state.clock = t.state.clock ∧
    (t.removeSpans kept).state.north = t.state.north ∧ (t.removeSpans kept).state.fifo = t.state.fifo ∧
    (t.removeSpans kept).state.south = t.state.south ∧ (t.removeSpans kept).state.store = t.state.store ∧
    (t.removeSpans kept).state.queues = t.state.queues ∧ (t.removeSpans kept).state.pointers = t.state.pointers ∧
    (t.removeSpans kept).state.window = t.state.window ∧ (t.removeSpans kept).state.gate = t.state.gate ∧
    (t.removeSpans kept).state.ring = t.state.ring ∧ (t.removeSpans kept).state.engine = t.state.engine ∧
    (t.removeSpans kept).state.events = t.state.events ∧ (t.removeSpans kept).state.pending = t.state.pending := by
  and_intros <;> (unfold Track.removeSpans; split <;> simp)

@[simp] theorem Track.ageSpans_keeps (t : Track) :
    (t.ageSpans).state.inReset = t.state.inReset ∧ (t.ageSpans).state.clock = t.state.clock ∧
    (t.ageSpans).state.north = t.state.north ∧ (t.ageSpans).state.fifo = t.state.fifo ∧
    (t.ageSpans).state.south = t.state.south ∧ (t.ageSpans).state.store = t.state.store ∧
    (t.ageSpans).state.queues = t.state.queues ∧ (t.ageSpans).state.pointers = t.state.pointers ∧
    (t.ageSpans).state.window = t.state.window ∧ (t.ageSpans).state.gate = t.state.gate ∧
    (t.ageSpans).state.ring = t.state.ring ∧ (t.ageSpans).state.engine = t.state.engine ∧
    (t.ageSpans).state.events = t.state.events ∧ (t.ageSpans).state.pending = t.state.pending := by
  and_intros <;> (unfold Track.ageSpans; (repeat' split) <;> simp)

@[simp] theorem State.detectionReport_keeps (s : State) (n : Nat) (r : EnergyReport) :
    (s.detectionReport n r).inReset = s.inReset ∧ (s.detectionReport n r).clock = s.clock ∧
    (s.detectionReport n r).fifo = s.fifo ∧ (s.detectionReport n r).store = s.store ∧
    (s.detectionReport n r).pointers = s.pointers ∧ (s.detectionReport n r).ring = s.ring ∧
    (s.detectionReport n r).engine = s.engine ∧ (s.detectionReport n r).pending = s.pending := by
  and_intros <;> (unfold State.detectionReport; dsimp only; (repeat' split) <;> simp)

@[simp] theorem State.energyReport_keeps (s : State) (r : EnergyReport) :
    (s.energyReport r).inReset = s.inReset ∧ (s.energyReport r).clock = s.clock ∧ (s.energyReport r).fifo = s.fifo ∧
    (s.energyReport r).store = s.store ∧ (s.energyReport r).pointers = s.pointers ∧ (s.energyReport r).ring = s.ring ∧
    (s.energyReport r).engine = s.engine ∧ (s.energyReport r).pending = s.pending := by
  and_intros <;> (unfold State.energyReport; (repeat' split) <;> simp)

@[simp] theorem State.ageCoverage_keeps (s : State) :
    s.ageCoverage.inReset = s.inReset ∧ s.ageCoverage.clock = s.clock ∧ s.ageCoverage.fifo = s.fifo ∧
    s.ageCoverage.store = s.store ∧ s.ageCoverage.pointers = s.pointers ∧ s.ageCoverage.ring = s.ring ∧
    s.ageCoverage.engine = s.engine ∧ s.ageCoverage.pending = s.pending := by
  simp [State.ageCoverage]

@[simp] theorem State.clampSources_keeps (s : State) :
    s.clampSources.inReset = s.inReset ∧ s.clampSources.clock = s.clock ∧ s.clampSources.north = s.north ∧
    s.clampSources.fifo = s.fifo ∧ s.clampSources.south = s.south ∧ s.clampSources.store = s.store ∧
    s.clampSources.queues = s.queues ∧ s.clampSources.pointers = s.pointers ∧ s.clampSources.window = s.window ∧
    s.clampSources.gate = s.gate ∧ s.clampSources.detector = s.detector ∧ s.clampSources.ring = s.ring ∧
    s.clampSources.engine = s.engine ∧ s.clampSources.events = s.events ∧ s.clampSources.pending = s.pending := by
  and_intros <;> rfl

@[simp] theorem State.handRing_keeps (s : State) (r : Ring) :
    (s.handRing r).inReset = s.inReset ∧ (s.handRing r).clock = s.clock ∧ (s.handRing r).fifo = s.fifo ∧
    (s.handRing r).store = s.store ∧ (s.handRing r).pointers = s.pointers ∧ (s.handRing r).detector = s.detector ∧
    (s.handRing r).sources = s.sources ∧ (s.handRing r).engine = s.engine ∧ (s.handRing r).pending = s.pending := by
  and_intros <;> (unfold State.handRing; dsimp only; split <;> simp)

@[simp] theorem State.changeRadio_keeps (s : State) (r : Radio) (l : Option Nat) (o : Bool) :
    (s.changeRadio r l o).inReset = s.inReset ∧ (s.changeRadio r l o).clock = s.clock ∧ (s.changeRadio r l o).fifo = s.fifo ∧
    (s.changeRadio r l o).store = s.store ∧ (s.changeRadio r l o).pointers = s.pointers ∧ (s.changeRadio r l o).ring = s.ring ∧
    (s.changeRadio r l o).engine = s.engine ∧ (s.changeRadio r l o).pending = s.pending := by
  simp [State.changeRadio]

@[simp] theorem State.applyRadio_keeps (s : State) (r : RadioRecord) :
    (s.applyRadio r).inReset = s.inReset ∧ (s.applyRadio r).clock = s.clock ∧ (s.applyRadio r).fifo = s.fifo ∧
    (s.applyRadio r).store = s.store ∧ (s.applyRadio r).pointers = s.pointers ∧ (s.applyRadio r).ring = s.ring ∧
    (s.applyRadio r).engine = s.engine ∧ (s.applyRadio r).pending = s.pending := by
  and_intros <;> (unfold State.applyRadio; (repeat' split) <;> simp)

@[simp] theorem State.refuse_keeps (s : State) (h : LaneHeader) (r : DoneResult) (n : Nat) :
    (s.refuse h r n).inReset = s.inReset ∧ (s.refuse h r n).clock = s.clock ∧ (s.refuse h r n).south = s.south ∧
    (s.refuse h r n).store = s.store ∧ (s.refuse h r n).pointers = s.pointers ∧ (s.refuse h r n).window = s.window ∧
    (s.refuse h r n).gate = s.gate ∧ (s.refuse h r n).detector = s.detector ∧ (s.refuse h r n).sources = s.sources ∧
    (s.refuse h r n).ring = s.ring ∧ (s.refuse h r n).engine = s.engine ∧ (s.refuse h r n).pending = s.pending := by
  and_intros <;> (unfold State.refuse; dsimp only; split <;> simp)

@[simp] theorem State.takeIn_keeps (s : State) (h : LaneHeader) (q : Fin 16) (b : Bundle) :
    (s.takeIn h q b).inReset = s.inReset ∧ (s.takeIn h q b).clock = s.clock ∧ (s.takeIn h q b).north = s.north ∧
    (s.takeIn h q b).fifo = s.fifo ∧ (s.takeIn h q b).south = s.south ∧ (s.takeIn h q b).pointers = s.pointers ∧
    (s.takeIn h q b).window = s.window ∧ (s.takeIn h q b).gate = s.gate ∧ (s.takeIn h q b).detector = s.detector ∧
    (s.takeIn h q b).sources = s.sources ∧ (s.takeIn h q b).ring = s.ring ∧ (s.takeIn h q b).engine = s.engine ∧
    (s.takeIn h q b).events = s.events ∧ (s.takeIn h q b).pending = s.pending := by
  and_intros <;> (unfold State.takeIn; dsimp only; split <;> simp)

@[simp] theorem State.takeData_keeps (s : State) (f : LinkFrame) :
    (s.takeData f).inReset = s.inReset ∧ (s.takeData f).clock = s.clock ∧ (s.takeData f).south = s.south ∧
    (s.takeData f).pointers = s.pointers ∧ (s.takeData f).window = s.window ∧ (s.takeData f).gate = s.gate ∧
    (s.takeData f).detector = s.detector ∧ (s.takeData f).sources = s.sources ∧ (s.takeData f).ring = s.ring ∧
    (s.takeData f).engine = s.engine ∧ (s.takeData f).pending = s.pending := by
  and_intros <;> (unfold State.takeData; (repeat' split) <;> simp)

@[simp] theorem State.passRxdata_keeps (s : State) (f : LinkFrame) :
    (s.passRxdata f).inReset = s.inReset ∧ (s.passRxdata f).clock = s.clock ∧ (s.passRxdata f).fifo = s.fifo ∧
    (s.passRxdata f).south = s.south ∧ (s.passRxdata f).store = s.store ∧ (s.passRxdata f).queues = s.queues ∧
    (s.passRxdata f).pointers = s.pointers ∧ (s.passRxdata f).window = s.window ∧ (s.passRxdata f).gate = s.gate ∧
    (s.passRxdata f).detector = s.detector ∧ (s.passRxdata f).sources = s.sources ∧ (s.passRxdata f).ring = s.ring ∧
    (s.passRxdata f).engine = s.engine ∧ (s.passRxdata f).pending = s.pending := by
  and_intros <;> (unfold State.passRxdata; split <;> simp)

@[simp] theorem State.takeControl_keeps (s : State) (f : LinkFrame) :
    (s.takeControl f).inReset = s.inReset ∧ (s.takeControl f).clock = s.clock ∧ (s.takeControl f).fifo = s.fifo ∧
    (s.takeControl f).south = s.south ∧ (s.takeControl f).store = s.store ∧ (s.takeControl f).queues = s.queues ∧
    (s.takeControl f).pointers = s.pointers ∧ (s.takeControl f).window = s.window ∧ (s.takeControl f).gate = s.gate ∧
    (s.takeControl f).detector = s.detector ∧ (s.takeControl f).sources = s.sources ∧ (s.takeControl f).ring = s.ring ∧
    (s.takeControl f).pending = s.pending := by
  and_intros <;> (unfold State.takeControl; dsimp only; (repeat' split) <;> simp)

@[simp] theorem State.laneHeader_keeps (s : State) (h : LaneHeader) :
    (s.laneHeader h).inReset = s.inReset ∧ (s.laneHeader h).clock = s.clock ∧ (s.laneHeader h).south = s.south ∧
    (s.laneHeader h).store = s.store ∧ (s.laneHeader h).queues = s.queues ∧ (s.laneHeader h).pointers = s.pointers ∧
    (s.laneHeader h).window = s.window ∧ (s.laneHeader h).gate = s.gate ∧ (s.laneHeader h).detector = s.detector ∧
    (s.laneHeader h).sources = s.sources ∧ (s.laneHeader h).ring = s.ring ∧ (s.laneHeader h).engine = s.engine ∧
    (s.laneHeader h).events = s.events ∧ (s.laneHeader h).pending = s.pending := by
  and_intros <;> (unfold State.laneHeader; (repeat' split) <;> rfl)

@[simp] theorem State.discardNorth_keeps (s : State) (r c : Bool) :
    (s.discardNorth r c).inReset = s.inReset ∧ (s.discardNorth r c).clock = s.clock ∧ (s.discardNorth r c).south = s.south ∧
    (s.discardNorth r c).store = s.store ∧ (s.discardNorth r c).queues = s.queues ∧
    (s.discardNorth r c).pointers = s.pointers ∧ (s.discardNorth r c).window = s.window ∧ (s.discardNorth r c).gate = s.gate ∧
    (s.discardNorth r c).detector = s.detector ∧ (s.discardNorth r c).sources = s.sources ∧
    (s.discardNorth r c).ring = s.ring ∧ (s.discardNorth r c).engine = s.engine ∧ (s.discardNorth r c).pending = s.pending := by
  and_intros <;> (unfold State.discardNorth; dsimp only; split <;> simp)

@[simp] theorem State.startSouth_keeps (s : State) :
    s.startSouth.inReset = s.inReset ∧ s.startSouth.clock = s.clock ∧ s.startSouth.north = s.north ∧
    s.startSouth.fifo = s.fifo ∧ s.startSouth.store = s.store ∧ s.startSouth.queues = s.queues ∧
    s.startSouth.pointers = s.pointers ∧ s.startSouth.window = s.window ∧ s.startSouth.gate = s.gate ∧
    s.startSouth.detector = s.detector ∧ s.startSouth.sources = s.sources ∧ s.startSouth.ring = s.ring ∧
    s.startSouth.engine = s.engine ∧ s.startSouth.events = s.events ∧ s.startSouth.pending = s.pending := by
  and_intros <;> (unfold State.startSouth; split <;> rfl)

@[simp] theorem State.beginNorth_keeps (s : State) (i : NorthItem) :
    (s.beginNorth i).inReset = s.inReset ∧ (s.beginNorth i).clock = s.clock ∧ (s.beginNorth i).fifo = s.fifo ∧
    (s.beginNorth i).south = s.south ∧ (s.beginNorth i).store = s.store ∧ (s.beginNorth i).queues = s.queues ∧
    (s.beginNorth i).pointers = s.pointers ∧ (s.beginNorth i).window = s.window ∧ (s.beginNorth i).gate = s.gate ∧
    (s.beginNorth i).detector = s.detector ∧ (s.beginNorth i).sources = s.sources ∧ (s.beginNorth i).ring = s.ring ∧
    (s.beginNorth i).engine = s.engine ∧ (s.beginNorth i).events = s.events ∧ (s.beginNorth i).pending = s.pending := by
  and_intros <;> (unfold State.beginNorth; split <;> rfl)

@[simp] theorem State.chooseNorth_keeps (s : State) :
    s.chooseNorth.inReset = s.inReset ∧ s.chooseNorth.clock = s.clock ∧ s.chooseNorth.fifo = s.fifo ∧
    s.chooseNorth.south = s.south ∧ s.chooseNorth.store = s.store ∧ s.chooseNorth.queues = s.queues ∧
    s.chooseNorth.pointers = s.pointers ∧ s.chooseNorth.window = s.window ∧ s.chooseNorth.gate = s.gate ∧
    s.chooseNorth.detector = s.detector ∧ s.chooseNorth.sources = s.sources ∧ s.chooseNorth.ring = s.ring ∧
    s.chooseNorth.engine = s.engine ∧ s.chooseNorth.events = s.events ∧ s.chooseNorth.pending = s.pending := by
  and_intros <;> (unfold State.chooseNorth; (repeat' split) <;> simp)

@[simp] theorem State.reportResult_keeps (s : State) (c : Command) (r : Result) (d : List Byte) :
    (s.reportResult c r d).inReset = s.inReset ∧ (s.reportResult c r d).clock = s.clock ∧
    (s.reportResult c r d).north = s.north ∧ (s.reportResult c r d).fifo = s.fifo ∧ (s.reportResult c r d).south = s.south ∧
    (s.reportResult c r d).store = s.store ∧ (s.reportResult c r d).queues = s.queues ∧
    (s.reportResult c r d).pointers = s.pointers ∧ (s.reportResult c r d).window = s.window ∧
    (s.reportResult c r d).gate = s.gate ∧ (s.reportResult c r d).detector = s.detector ∧
    (s.reportResult c r d).sources = s.sources ∧ (s.reportResult c r d).ring = s.ring ∧
    (s.reportResult c r d).events = s.events ∧ (s.reportResult c r d).pending = s.pending := by
  and_intros <;> (unfold State.reportResult; split <;> rfl)

@[simp] theorem State.reportTail_keeps (s : State) (b : List Byte) :
    (s.reportTail b).inReset = s.inReset ∧ (s.reportTail b).clock = s.clock ∧ (s.reportTail b).north = s.north ∧
    (s.reportTail b).fifo = s.fifo ∧ (s.reportTail b).south = s.south ∧ (s.reportTail b).store = s.store ∧
    (s.reportTail b).queues = s.queues ∧ (s.reportTail b).pointers = s.pointers ∧ (s.reportTail b).window = s.window ∧
    (s.reportTail b).gate = s.gate ∧ (s.reportTail b).detector = s.detector ∧ (s.reportTail b).sources = s.sources ∧
    (s.reportTail b).ring = s.ring ∧ (s.reportTail b).events = s.events ∧ (s.reportTail b).pending = s.pending := by
  and_intros <;> (unfold State.reportTail; (repeat' split) <;> rfl)

@[simp] theorem State.queueStartedPowerOn_keeps (s : State) :
    s.queueStartedPowerOn.inReset = s.inReset ∧ s.queueStartedPowerOn.clock = s.clock ∧ s.queueStartedPowerOn.fifo = s.fifo ∧
    s.queueStartedPowerOn.south = s.south ∧ s.queueStartedPowerOn.store = s.store ∧ s.queueStartedPowerOn.queues = s.queues ∧
    s.queueStartedPowerOn.pointers = s.pointers ∧ s.queueStartedPowerOn.window = s.window ∧
    s.queueStartedPowerOn.gate = s.gate ∧ s.queueStartedPowerOn.detector = s.detector ∧
    s.queueStartedPowerOn.sources = s.sources ∧ s.queueStartedPowerOn.ring = s.ring ∧ s.queueStartedPowerOn.engine = s.engine ∧
    s.queueStartedPowerOn.events = s.events ∧ s.queueStartedPowerOn.pending = s.pending := by
  and_intros <;> rfl

@[simp] theorem State.queueStartedFull_keeps (s : State) :
    s.queueStartedFull.inReset = s.inReset ∧ s.queueStartedFull.clock = s.clock ∧ s.queueStartedFull.fifo = s.fifo ∧
    s.queueStartedFull.south = s.south ∧ s.queueStartedFull.store = s.store ∧ s.queueStartedFull.queues = s.queues ∧
    s.queueStartedFull.pointers = s.pointers ∧ s.queueStartedFull.window = s.window ∧ s.queueStartedFull.gate = s.gate ∧
    s.queueStartedFull.detector = s.detector ∧ s.queueStartedFull.sources = s.sources ∧ s.queueStartedFull.ring = s.ring ∧
    s.queueStartedFull.engine = s.engine ∧ s.queueStartedFull.events = s.events ∧ s.queueStartedFull.pending = s.pending := by
  and_intros <;> rfl

@[simp] theorem State.arbitrate_keeps (s : State) (n : Nat) :
    (s.arbitrate n).inReset = s.inReset ∧ (s.arbitrate n).clock = s.clock ∧ (s.arbitrate n).fifo = s.fifo ∧
    (s.arbitrate n).store = s.store ∧ (s.arbitrate n).detector = s.detector ∧ (s.arbitrate n).sources = s.sources ∧
    (s.arbitrate n).ring = s.ring ∧ (s.arbitrate n).engine = s.engine ∧ (s.arbitrate n).pending = s.pending := by
  induction n generalizing s with
  | zero => and_intros <;> rfl
  | succ n ih =>
    unfold State.arbitrate
    and_intros <;> (repeat' split) <;> simp [ih]

@[simp] theorem State.acceptReset_keeps (s : State) (c : ResetScope) :
    (s.acceptReset c).inReset = s.inReset ∧ (s.acceptReset c).clock = s.clock ∧ (s.acceptReset c).north = s.north ∧
    (s.acceptReset c).fifo = s.fifo ∧ (s.acceptReset c).south = s.south ∧ (s.acceptReset c).store = s.store ∧
    (s.acceptReset c).queues = s.queues ∧ (s.acceptReset c).pointers = s.pointers ∧ (s.acceptReset c).window = s.window ∧
    (s.acceptReset c).gate = s.gate ∧ (s.acceptReset c).detector = s.detector ∧ (s.acceptReset c).sources = s.sources ∧
    (s.acceptReset c).ring = s.ring ∧ (s.acceptReset c).events = s.events ∧ (s.acceptReset c).pending = s.pending := by
  and_intros <;> (unfold State.acceptReset; split <;> rfl)

@[simp] theorem State.rearmPacing_keeps (s : State) :
    s.rearmPacing.inReset = s.inReset ∧ s.rearmPacing.clock = s.clock ∧ s.rearmPacing.fifo = s.fifo ∧
    s.rearmPacing.south = s.south ∧ s.rearmPacing.store = s.store ∧ s.rearmPacing.queues = s.queues ∧
    s.rearmPacing.pointers = s.pointers ∧ s.rearmPacing.window = s.window ∧ s.rearmPacing.gate = s.gate ∧
    s.rearmPacing.detector = s.detector ∧ s.rearmPacing.sources = s.sources ∧ s.rearmPacing.ring = s.ring ∧
    s.rearmPacing.engine = s.engine ∧ s.rearmPacing.pending = s.pending := by
  and_intros <;> (unfold State.rearmPacing; dsimp only; (repeat' split) <;> simp)

end Sys2Proof.Machine
end

