-- ==== Sys2Proof/Laws/Events.lean ====
section
/-! SUPPORT. What setting a flag and queueing a NOTICE can do to the event block and the north link. -/

namespace Sys2Proof.Machine

/-- Queueing a NOTICE leaves the flags, the enables and ATTN alone. -/
@[simp] theorem State.queueNotice_events (s : State) :
    s.queueNotice.events.flags = s.events.flags ∧ s.queueNotice.events.enables = s.events.enables ∧
    s.queueNotice.events.attn = s.events.attn := by
  and_intros <;> (unfold State.queueNotice; split <;> rfl)

/-- The north link after a NOTICE has been queued or not: only its waiting STATUS frames can grow, by one NOTICE. -/
theorem State.queueNotice_north (s : State) :
    s.queueNotice.north = s.north ∨ s.queueNotice.north = { s.north with status := s.north.status ++ [.notice] } := by
  unfold State.queueNotice
  split
  · exact .inr rfl
  · exact .inl rfl

/-- The flags after a flag has been set, and the enables as they were. -/
@[simp] theorem State.setFlag_flags (s : State) (f : EventFlag) :
    (s.setFlag f).events.flags = s.events.flags ||| f.mask ∧ (s.setFlag f).events.enables = s.events.enables := by
  unfold State.setFlag
  split
  · rename_i h
    refine ⟨?_, rfl⟩
    ext i hi
    simp only [State.flag] at h
    simp only [BitVec.getElem_or, EventFlag.mask, BitVec.getElem_twoPow]
    by_cases hif : f.index = i
    · subst hif
      simp [← BitVec.getLsbD_eq_getElem, h]
    · simp [Ne.symm hif]
  · dsimp only
    split
    · exact ⟨(State.queueNotice_events _).1.trans rfl, (State.queueNotice_events _).2.1.trans rfl⟩
    · exact ⟨rfl, rfl⟩

/-- The flags after flags have been set one after another, and the enables as they were. -/
theorem State.setFlags_flags (s : State) (fs : List EventFlag) :
    (s.setFlags fs).events.flags = fs.foldl (fun x f => x ||| f.mask) s.events.flags ∧
    (s.setFlags fs).events.enables = s.events.enables := by
  unfold State.setFlags
  induction fs generalizing s with
  | nil => exact ⟨rfl, rfl⟩
  | cons f fs ih =>
    obtain ⟨h1, h2⟩ := ih (s.setFlag f)
    simp only [List.foldl_cons]
    rw [h1, h2, (State.setFlag_flags s f).1, (State.setFlag_flags s f).2]
    exact ⟨rfl, rfl⟩

/-- ATTN made to follow the flags follows them. -/
theorem Events.withAttn_lawful (e : Events) : e.withAttn.lawful := by
  rw [Events.lawful, Bool.eq_iff_iff, decide_eq_true_eq]
  exact bne_iff_ne

/-- An event block with the same flags, enables and ATTN is as lawful. -/
theorem Events.lawful_of_eq {e e' : Events} (h : e.lawful) (hf : e'.flags = e.flags) (he : e'.enables = e.enables)
    (ha : e'.attn = e.attn) : e'.lawful := by
  simp only [Events.lawful] at h ⊢
  rw [ha, hf, he, h]

/-- Setting a flag keeps ATTN following the flags. -/
theorem State.setFlag_lawful (s : State) (f : EventFlag) (h : s.events.lawful) : (s.setFlag f).events.lawful := by
  unfold State.setFlag
  split
  · exact h
  · dsimp only
    split
    · refine Events.lawful_of_eq (Events.withAttn_lawful { s.events with flags := s.events.flags ||| f.mask }) ?_ ?_ ?_ <;> simp
    · exact Events.withAttn_lawful _

/-- The number of STARTED frames that wait for the north output. -/
def NorthLink.startedWaiting (n : NorthLink) : Nat :=
  (n.status.filter StatusFrame.isStarted).length
    + match n.resend with
      | some (.status f) => if f.isStarted then 1 else 0
      | _ => 0

/-- Abandoning a frame changes no more of the north link than what waits. -/
@[simp] theorem NorthLink.abandon_keeps (n : NorthLink) (item : NorthItem) :
    (n.abandon item).synced = n.synced ∧ (n.abandon item).everSynced = n.everSynced ∧ (n.abandon item).input = n.input ∧
    (n.abandon item).partnerReady = n.partnerReady ∧ (n.abandon item).sending = n.sending ∧
    (n.abandon item).lastShared = n.lastShared ∧ (n.abandon item).passBuffer = n.passBuffer := by
  unfold NorthLink.abandon
  and_intros <;> ((repeat' split) <;> rfl)

/-- Abandoning a frame leaves at most one STARTED waiting when at most one STATUS frame of that subtype waited (R12). -/
theorem NorthLink.abandon_startedWaiting (n : NorthLink) (item : NorthItem) (h : (n.status.filter StatusFrame.isStarted).length ≤ 1) :
    (n.abandon item).startedWaiting ≤ 1 := by
  have none_left : (n.status.filter fun f => !f.isStarted).filter StatusFrame.isStarted = [] := by simp
  unfold NorthLink.abandon
  split
  · rename_i scope
    split
    · exact h
    · cases scope <;> simp only [NorthLink.startedWaiting, none_left] <;> decide
  · rename_i other
    simp only [NorthLink.startedWaiting]
    split
    · rename_i f hf
      have hn : f.isStarted = false := by
        cases f with
        | started scope => exact absurd (Option.some.inj hf) (other scope)
        | _ => rfl
      simpa [hn] using h
    · exact h

end Sys2Proof.Machine
end

