-- ==== Sys2Proof/Laws/Memory.lean ====
section
/-! SUPPORT. The cells' memory: every operation keeps the canonical form, and what a read gives after a write. -/

namespace Sys2Proof.Machine

/-- A memory that is canonical from an address on is canonical from any lower one. -/
theorem Memory.wfFrom_mono {low low' : Nat} (m : Memory) (h : m.wfFrom low = true) (hl : low' ≤ low) :
    m.wfFrom low' = true := by
  cases m with
  | nil => rfl
  | cons p rest =>
    obtain ⟨k, v⟩ := p
    simp only [Memory.wfFrom, Bool.and_eq_true, decide_eq_true_eq] at h ⊢
    exact ⟨⟨by omega, h.1.2⟩, h.2⟩

/-- A write at or above `low` keeps the form from `low` on. -/
theorem Memory.write_wfFrom (m : Memory) (low a : Nat) (b : Byte) (h : m.wfFrom low = true) (ha : low ≤ a) :
    (m.write a b).wfFrom low = true := by
  induction m generalizing low with
  | nil =>
    unfold Memory.write
    split
    · rfl
    · simp_all [Memory.wfFrom]
  | cons p rest ih =>
    obtain ⟨k, v⟩ := p
    simp only [Memory.wfFrom, Bool.and_eq_true, decide_eq_true_eq, bne_iff_ne, ne_eq] at h
    obtain ⟨⟨hk, hv⟩, hr⟩ := h
    unfold Memory.write
    split
    · split
      · simp [Memory.wfFrom, hk, hv, hr]
      · rename_i hb
        simp [Memory.wfFrom, ha, hb, hv, hr]
        omega
    · split
      · split
        · exact Memory.wfFrom_mono rest hr (by omega)
        · rename_i hb
          simp_all [Memory.wfFrom]
      · simp only [Memory.wfFrom, Bool.and_eq_true, decide_eq_true_eq, bne_iff_ne, ne_eq]
        exact ⟨⟨hk, hv⟩, ih (k + 1) hr (by omega)⟩

/-- A write keeps the canonical form. -/
@[simp] theorem Memory.write_wf (m : Memory) (a : Nat) (b : Byte) (h : m.wf = true) : (m.write a b).wf = true :=
  Memory.write_wfFrom m 0 a b h (Nat.zero_le a)

/-- Writing a run of bytes keeps the canonical form. -/
@[simp] theorem Memory.writeRun_wf (m : Memory) (a : Nat) (bytes : List Byte) (h : m.wf = true) :
    (m.writeRun a bytes).wf = true := by
  induction bytes generalizing m a with
  | nil => exact h
  | cons b rest ih => exact ih (m.write a b) (a + 1) (Memory.write_wf m a b h)

/-- Placing a bundle's bodies in a chain of cells keeps the canonical form. -/
@[simp] theorem storeBodies_wf (m : Memory) (chain : List (BitVec 12)) (bytes : List Byte) (h : m.wf = true) :
    (storeBodies m chain bytes).wf = true := by
  induction chain generalizing m bytes with
  | nil => exact h
  | cons c chain ih => exact ih _ _ (Memory.writeRun_wf m _ _ h)

/-- An admission keeps the canonical form of the cells' memory. -/
@[simp] theorem FrameStore.takeIn_wf (f : FrameStore) (b : Bundle) (h : f.memory.wf = true) : (f.takeIn b).memory.wf = true :=
  storeBodies_wf f.memory _ b.bodies h

/-- The memory after reset has the canonical form. -/
theorem State.reset_memory_wf : State.reset.store.memory.wf = true := rfl

/-- A byte below every listed address reads as the unwritten byte. -/
theorem Memory.read_below (m : Memory) (low a : Nat) (h : m.wfFrom low = true) (ha : a < low) : m.read a = unwrittenByte := by
  induction m generalizing low with
  | nil => rfl
  | cons p rest ih =>
    obtain ⟨k, v⟩ := p
    simp only [Memory.wfFrom, Bool.and_eq_true, decide_eq_true_eq] at h
    obtain ⟨⟨hk, -⟩, hr⟩ := h
    unfold Memory.read
    rw [if_neg (by omega)]
    exact ih (k + 1) hr (by omega)

/-- What a write leaves to be read, in a canonical memory: the byte written at its address, and every other byte as it was. -/
theorem Memory.read_write_from (m : Memory) (low a x : Nat) (b : Byte) (h : m.wfFrom low = true) :
    (m.write a b).read x = if x = a then b else m.read x := by
  induction m generalizing low with
  | nil =>
    unfold Memory.write
    split
    · rename_i hb
      split <;> simp_all [Memory.read]
    · simp [Memory.read]
  | cons p rest ih =>
    obtain ⟨k, v⟩ := p
    simp only [Memory.wfFrom, Bool.and_eq_true, decide_eq_true_eq] at h
    obtain ⟨⟨hk, -⟩, hr⟩ := h
    unfold Memory.write
    split
    · rename_i hak
      split
      · rename_i hb
        split
        · rename_i hx
          subst hx hb
          unfold Memory.read
          rw [if_neg (by omega)]
          exact Memory.read_below rest (k + 1) x hr (by omega)
        · rfl
      · conv_lhs => unfold Memory.read
    · split
      · rename_i hne hak
        subst hak
        split
        · rename_i hb
          split
          · rename_i hx
            subst hx hb
            exact Memory.read_below rest (x + 1) x hr (by omega)
          · rename_i hx
            conv_rhs => unfold Memory.read
            rw [if_neg hx]
        · conv_lhs => unfold Memory.read
          split
          · rfl
          · rename_i hx
            conv_rhs => unfold Memory.read
            rw [if_neg hx]
      · rename_i hnl hne
        conv_lhs => unfold Memory.read
        conv_rhs => unfold Memory.read
        rw [ih (k + 1) hr]
        split
        · rename_i hx
          subst hx
          rw [if_neg (fun e => hne e.symm)]
        · rfl

/-- A read at the address written gives the byte written. -/
theorem Memory.read_write_self (m : Memory) (a : Nat) (b : Byte) (h : m.wf = true) : (m.write a b).read a = b := by
  simp [Memory.read_write_from m 0 a a b h]

/-- A read elsewhere gives what it gave. -/
theorem Memory.read_write_other (m : Memory) (a x : Nat) (b : Byte) (h : m.wf = true) (hx : x ≠ a) :
    (m.write a b).read x = m.read x := by
  simp [Memory.read_write_from m 0 a x b h, hx]

/-- A run of bytes is read where it was written, and every other byte reads as it did. -/
theorem Memory.read_writeRun (m : Memory) (a x : Nat) (bytes : List Byte) (h : m.wf = true) :
    (m.writeRun a bytes).read x = if a ≤ x ∧ x < a + bytes.length then bytes.getD (x - a) 0 else m.read x := by
  induction bytes generalizing m a with
  | nil => rw [if_neg (by rw [List.length_nil]; omega)]; rfl
  | cons b rest ih =>
    change Memory.read (Memory.writeRun (m.write a b) (a + 1) rest) x = _
    rw [ih (m.write a b) (a + 1) (Memory.write_wf m a b h), Memory.read_write_from m 0 a x b h]
    simp only [List.length_cons]
    by_cases hx : x = a
    · subst hx
      simp
    · by_cases h1 : a + 1 ≤ x ∧ x < a + 1 + rest.length
      · rw [if_pos h1, if_pos (by omega)]
        obtain ⟨k, hk⟩ : ∃ k, x - a = k + 1 := ⟨x - a - 1, by omega⟩
        rw [hk]
        have : x - (a + 1) = k := by omega
        simp [this]
      · rw [if_neg h1, if_neg hx, if_neg (by omega)]

end Sys2Proof.Machine
end

