-- ==== Sys2Proof/Laws/Commands.lean ====
section
/-! SUPPORT. What the shared shapes of a meaning answer: an event of the part, a frame taken, a command of a list; and the sizes of the
images that commands return. -/

namespace Sys2Proof.Machine

/-! ### Events -/

/-- An event of a part that is not held in reset takes the state it gives. -/
@[simp] theorem State.live_running (s : State) (event : State → State) (h : s.inReset = false) :
    s.live event = .next (event s) := by
  simp [State.live, h]

/-- An event of a part held in reset changes nothing. -/
@[simp] theorem State.live_held (s : State) (event : State → State) (h : s.inReset = true) : s.live event = .next s := by
  simp [State.live, h]

/-! ### Frames taken -/

/-- A frame that is arriving on the north link is given to its event, with the input ready for the next lane header. -/
theorem State.northFrame_taken (s : State) (kind : Byte) (f : LinkFrame) (taken : State → State) (h : s.northArriving f)
    (hk : f.header.kind = kind) : s.northFrame kind f taken = taken (s.withInput .awaitHeader) := by
  obtain ⟨-, hs, hi, hp⟩ := h
  simp [State.northFrame, hs, hi, hp, hk]

/-- A frame that arrives on the south link is given to its event. -/
theorem State.southFrame_taken (s : State) (kind : Byte) (f : LinkFrame) (taken : State → State) (h : s.southArriving f)
    (hk : f.header.kind = kind) : s.southFrame kind f taken = taken s := by
  obtain ⟨-, hs, hp⟩ := h
  simp [State.southFrame, hs, hp, hk]

/-! ### Commands of a list -/

/-- The command at which a list stands is its next command. -/
theorem State.nextCommand_of_atCommand (s : State) (l : ControlList) (c : Command) (h : s.atCommand l c) :
    s.nextCommand = some (l, c) := by
  obtain ⟨-, he, hc⟩ := h
  unfold State.nextCommand
  rw [he]
  cases hl : l.commands with
  | nil => simp [hl] at hc
  | cons a rest =>
    simp only [hl, List.head?_cons, Option.some.injEq] at hc
    subst hc
    dsimp only
    rw [hl]

/-- A report in the list in execution is the answer. -/
theorem State.reportResult_eq_answered (s : State) (l : ControlList) (c : Command) (r : Result) (data : List Byte)
    (h : s.engine.executing = .executing l) : s.reportResult c r data = s.answered l c r data := by
  simp [State.reportResult, State.answered, h]

/-- What a command of a list does, in the five ways it can be met: after a truncated one, refused, too large, and carried out. -/
theorem State.command_of_atCommand (s : State) (l : ControlList) (code target : Byte) (data : List Byte)
    (refusal : Option Result) (size : Nat) (act : State → State × List Byte)
    (h : s.atCommand l { code, target, data }) :
    s.command code target data refusal size act =
      if l.truncated then s.answered l { code, target, data } .truncated []
      else
        match refusal with
        | some r => s.answered l { code, target, data } r []
        | none =>
          if l.room < size then s.answered l { code, target, data } .truncated []
          else (act s).1.reportResult { code, target, data } .ok (act s).2 := by
  simp only [State.command, State.nextCommand_of_atCommand s l _ h, if_true]
  split
  · exact State.reportResult_eq_answered s l _ _ _ h.2.1
  · cases refusal with
    | some r => exact State.reportResult_eq_answered s l _ _ _ h.2.1
    | none =>
      dsimp only
      split
      · exact State.reportResult_eq_answered s l _ _ _ h.2.1
      · rfl

/-- A command that is not the next of the list in execution changes nothing. -/
theorem State.command_not_next (s : State) (code target : Byte) (data : List Byte) (refusal : Option Result) (size : Nat)
    (act : State → State × List Byte)
    (h : ∀ l c, s.nextCommand = some (l, c) → c ≠ { code, target, data }) :
    s.command code target data refusal size act = s := by
  unfold State.command
  split
  · rfl
  · rename_i l c hn
    rw [if_neg (h l c hn)]

/-! ### Sizes of images -/

@[simp] theorem toBytes_length (k v : Nat) : (toBytes k v).length = k := by
  induction k with
  | zero => rfl
  | succ k ih => simp [toBytes, ih]

@[simp] theorem instantBytes_length (t : Instant) : (instantBytes t).length = 4 := by simp [instantBytes]

@[simp] theorem optInstantBytes_length (t : Option Instant) : (optInstantBytes t).length = 4 := by simp [optInstantBytes]

@[simp] theorem configImage_length (c : QueueConfig) : (configImage c).length = 10 := by simp [configImage]

@[simp] theorem headSummary_length (q : Queue) : (headSummary q).length = 16 := by
  unfold headSummary
  split <;> simp

@[simp] theorem queueImage_length (q : Queue) : (queueImage q).length = 31 := by simp [queueImage]

@[simp] theorem rateImage_length (r : Option Rate) : (rateImage r).length = 7 := by
  cases r <;> simp [rateImage]

@[simp] theorem sourceKindBytes_length (k : SourceKind) : (sourceKindBytes k).length = 8 := by
  cases k <;> simp [sourceKindBytes]

@[simp] theorem sourceImage_length (c : Settings) (i : Fin 16) (x : Slot) : (sourceImage c i x).length = 31 := by
  unfold sourceImage
  split <;> simp

@[simp] theorem ringEntryImage_length (e : RingEntry) : (ringEntryImage e).length = 8 := by simp [ringEntryImage]

@[simp] theorem ringImage_length (r : Ring) : (ringImage r).length = 262 := by
  simp [ringImage, List.length_flatMap]

@[simp] theorem surveyImage_length (d : Detector) : (surveyImage d).length = 112 := by
  simp [surveyImage, List.length_flatMap]

@[simp] theorem settingsImage_length (c : Settings) : (settingsImage c).length = 31 := by simp [settingsImage]

@[simp] theorem outstandingImage_length (e : Outstanding) : (outstandingImage e).length = 29 := by simp [outstandingImage]

@[simp] theorem outstandingPlace_length (t : List Outstanding) (i : Nat) : (outstandingPlace t i).length = 29 := by
  unfold outstandingPlace
  split <;> simp

@[simp] theorem queueStates_length (s : State) : (allQueues.flatMap fun q => toBytes 1 s.queues[q].state.code).length = 16 := by
  simp only [List.length_flatMap, toBytes_length]
  rfl

@[simp] theorem snapshotImage_length (s : State) : (snapshotImage s).length = 110 := by
  unfold snapshotImage
  simp only [List.length_append, instantBytes_length, optInstantBytes_length, toBytes_length, outstandingPlace_length,
    queueStates_length]

end Sys2Proof.Machine
end

