-- ==== Sys2Proof/Laws/Detector.lean ====
section
/-! SUPPORT. What closing a burst and removing spans do to the burst detector. -/

namespace Sys2Proof.Machine

@[simp] theorem Track.modDetector_detector (t : Track) (f : Detector → Detector) :
    (t.modDetector f).state.detector = f t.state.detector := rfl
@[simp] theorem Detector.withSpans_spans (d : Detector) (xs : List Span) : (d.withSpans xs).spans = xs := rfl
@[simp] theorem Detector.withSpans_burst (d : Detector) (xs : List Span) : (d.withSpans xs).burst = d.burst := rfl
@[simp] theorem Detector.withSpans_survey (d : Detector) (xs : List Span) : (d.withSpans xs).survey = d.survey := rfl
@[simp] theorem Detector.withSpans_agingTimer (d : Detector) (xs : List Span) :
    (d.withSpans xs).agingTimer = xs.head?.map fun x => plus x.stop Config.staleAge := rfl

/-- The end of a burst leaves no open burst, and the rest of the detector as it is. -/
@[simp] theorem Track.endBurst_detector (t : Track) (n : Nat) (stop : Instant) (certain : Bool) :
    (t.endBurst n stop certain).state.detector = { t.state.detector with burst := none } := by
  unfold Track.endBurst
  split
  · rename_i h
    rw [← h]
  · simp

/-- So does the closure at a break. -/
@[simp] theorem Track.closeAtBreak_detector (t : Track) (n : Nat) (stop : Option Instant) :
    (t.closeAtBreak n stop).state.detector = { t.state.detector with burst := none } := by
  unfold Track.closeAtBreak
  split <;> simp

/-- Removing spans leaves those kept with the timer armed for the oldest of them; with none kept on a channel the open burst is closed. -/
theorem Track.removeSpans_detector (t : Track) (kept : List Span) :
    (t.removeSpans kept).state.detector = t.state.detector.withSpans kept
      ∨ (kept = [] ∧ (t.removeSpans kept).state.detector = { t.state.detector.withSpans [] with burst := none }) := by
  unfold Track.removeSpans
  dsimp only
  split
  · exact .inr ⟨rfl, by simp⟩
  · exact .inl rfl

@[simp] theorem Track.removeSpans_spans (t : Track) (kept : List Span) : (t.removeSpans kept).state.detector.spans = kept := by
  obtain h | ⟨rfl, h⟩ := t.removeSpans_detector kept <;> rw [h] <;> rfl

/-- Expiring at once leaves no span at the head of the list that has reached its age limit. -/
@[simp] theorem Track.ageSpans_spans (t : Track) :
    t.ageSpans.state.detector.spans = t.state.detector.spans.dropWhile (Span.outlived t.state.now) := by
  unfold Track.ageSpans
  split
  · rename_i h
    simp [h]
  · rename_i x rest h
    by_cases hx : x.outlived t.state.now <;> simp [h, hx]

end Sys2Proof.Machine
end

