-- ==== Sys2Proof/Tests/Slice0.lean ====
section
/-! SUPPORT. Tests: the checks of WellFormed refuse ill-formed terms; single steps of the manual's worked examples, with the values the
manual prints; and for every statement with hypotheses a state and operands that meet them. -/

namespace Sys2Proof.Tests

open Sys2Proof Sys2Proof.Machine

/- One test after another: each evaluation by the kernel waits for every earlier declaration, and a thread for each test would wait with it. -/
set_option Elab.async false

/-! ### Helpers -/

/-- The state a step leaves. -/
def after (o : Out) : State :=
  match o with
  | .next s => s
  | _ => State.reset

/-- A state with both links synchronised at an instant. -/
def linked : State :=
  { State.reset with
    clock := { State.reset.clock with now := 1000000, fullCount := none }
    north := { State.reset.north with synced := true, everSynced := true }
    south := { State.reset.south with synced := true } }

/-- A linked state with the radio on channel 6 and a window open to 1 004 000. -/
def onAir : State :=
  { linked with
    south := { linked.south with radio := .onChannel 6, lastChannel := some 6 }
    window :=
      { status := .opened, saturated := false, clear := some 1000000, horizon := some 1004000, stop := none, timer := some 1004000 } }

/-- The same state at another instant. -/
def State.at' (s : State) (now : Instant) : State := { s with clock := { s.clock with now } }

/-- A list whose next command is given, with all of the room of a one-command response. -/
def listOf (c : Command) : ControlList :=
  { sequence := 7, commands := [c], tail := [], results := [], room := 4092, truncated := false, reset := none }

/-- The state in which a command is the next to execute. -/
def giving (s : State) (c : Command) : State := { s with engine := { s.engine with executing := .executing (listOf c) } }

/-- A command given to a state that is not held in reset executes. -/
theorem giving_executes (s : State) (c : Command) (h : s.inReset = false) : (giving s c).executes (listOf c) c :=
  ⟨⟨h, rfl, rfl⟩, rfl⟩

/-- A frame is arriving on the north link. -/
def arriving (s : State) (f : LinkFrame) : State :=
  { s with north := { s.north with input := .receiving f.header (needsSlot f.header) false } }

/-- The result entries that a list shows so far. -/
def resultsOf (s : State) : List ResultEntry :=
  match s.engine.executing with
  | .executing l => l.results
  | .holding l => l.results
  | .empty => []

/-- The room that is left in the response. -/
def roomOf (s : State) : Nat :=
  match s.engine.executing with
  | .executing l => l.room
  | .holding l => l.room
  | .empty => 0

/-- The rate entries of section 5.6. -/
def rate12 : Rate := { preamble := 36, symbol := 4000, bits := 260, fixedBits := 22 }

/-- A queue configuration: priority 2, depth 64, hold 50 ms, ack 60 µs, retry limit 1, GATED, DETAILED. -/
def config2 : QueueConfig :=
  { priority := 2, depth := 64, hold := 50, ack := 60, retry := 1, mode := .gated, report := .detailed }

/-- An empty OPEN queue of that configuration. -/
def openQueue2 : Queue := { Queue.powerOn with state := .opened, config := config2 }

/-- A subframe that has not been released. -/
def fresh (ordinal length : Nat) : Subframe := { ordinal, length, attempts := 0, state := .pending }

/-- The head of section 5.6: tag 301 with subframes of 1500, 1500 and 300 bytes. -/
def head301 : Descriptor :=
  { number := 0, tag := 301, queue := 2, rate := 12, arrival := 990000, firstCell := 0, cellCount := 26
    subframes := [fresh 0 1500, fresh 1 1500, fresh 2 300], outstanding := none, firstRelease := none, aged := false
    waited := false, forcedUsed := false, releases := 0 }

/-- Queue 2 open with a head, and rate 12 loaded. -/
def withHead (s : State) (d : Descriptor) : State :=
  { s with
    queues := s.queues.set 2 { openQueue2 with descriptors := [d] }
    gate := { s.gate with rates := s.gate.rates.set 12 (some rate12) } }

/-- A LOCKED oven over a span of channels. -/
def oven (start : Instant) (duration low high : Nat) : Source :=
  { kind := .oven low high, state := .locked, start, period := 20000, duration, matchCount := 3, missRun := 0, matched := false }

/-- A learned slot with an entry whose check timer is armed. -/
def learned (e : Source) : Slot :=
  { owner := .learn, entry := some e, timer := some (plus e.start 1000), deferred := false }

/-- A reservation. -/
def reservation (start : Instant) (duration : Nat) (label : Byte) : RingEntry :=
  { valid := true, wrap := false, last := false, start, duration, label, loadTimer := some (plus start 1000000), stale := false }

/-- Bytes of an ENERGY payload. -/
def energyPayload (first interval : Nat) (levels : List Int) : List Byte :=
  toBytes 4 first ++ toBytes 2 interval ++ toBytes 1 levels.length ++ levels.map (BitVec.ofInt 8)

/-- An ENERGY report of a channel. -/
def energy (channel flags : Byte) (first interval : Nat) (levels : List Int) : LinkFrame :=
  originate 6 channel 0 flags (energyPayload first interval levels)

/-! ### WellFormed -/

/-- Each frame row refuses a frame of another kind. -/
theorem test_wellFormed_refuses_other_kinds :
    (Instr.dataFrame (originate 2 0 0 0 [])).wellFormed = false
      ∧ (Instr.controlFrame (originate 1 0 0 0 [])).wellFormed = false
      ∧ (Instr.rxdataFrame (originate 6 0 0 0 [])).wellFormed = false
      ∧ (Instr.energyReport (originate 5 0 0 0 [])).wellFormed = false
      ∧ (Instr.txstat (originate 8 0 0 0 [])).wellFormed = false
      ∧ (Instr.radioRecord (originate 7 0 0 0 [])).wellFormed = false
      ∧ (Instr.radioRecord (originate 8 0 0 0 [2, 0])).wellFormed = true := by decide +kernel

/-- A frame too long for its length field is refused. -/
theorem test_wellFormed_refuses_long_frames (f : LinkFrame) (h : f.payload.length = 65536) :
    (Instr.receivedFrameDiscarded .north f).wellFormed = false ∧ (Instr.dataFrame f).wellFormed = false := by
  simp [Instr.wellFormed, LinkFrame.fits, h]

/-- A command too long for a CONTROL payload is refused. -/
theorem test_wellFormed_refuses_long_commands (code target : Byte) (data : List Byte) :
    (data.length = 4093 → (Instr.loadSettings target data).wellFormed = false
        ∧ (Instr.unknownCommand code target data).wellFormed = false)
      ∧ (data.length = 4092 → (Instr.loadSettings target data).wellFormed = true) := by
  simp +contextual [Instr.wellFormed, commandFits]

/-- A listed code is no unknown command. -/
theorem test_wellFormed_refuses_known_codes :
    (Instr.unknownCommand 16 0 []).wellFormed = false ∧ (Instr.unknownCommand 102 0 []).wellFormed = true := by decide

/-- No bytes, and bytes that hold a whole command, are no broken tail. -/
theorem test_wellFormed_refuses_whole_tails :
    (Instr.brokenTail []).wellFormed = false ∧ (Instr.brokenTail [98, 0, 0, 0]).wellFormed = false
      ∧ (Instr.brokenTail [98, 0, 0, 1]).wellFormed = true ∧ (Instr.brokenTail [98, 0, 0]).wellFormed = true := by decide

/-- No word spells a command: the table gives no row bits. -/
theorem test_no_word_spells_a_command : decodeTableWord 32 0 = none := rfl

/-! ### Formats (chapters 1 and 11) -/

/-- The CRC conventions of section 11.2 without a reversal of the final value, on the nine digits of the usual check message; the expected
value is the bit reversal of CBF43926, the value commonly quoted with that reversal (notes/assumptions/2.md). -/
theorem test_crc_of_nine_digits : crc [49, 50, 51, 52, 53, 54, 55, 56, 57] = 0x649C2FD3#32 := by decide +kernel

/-- A DATA bundle header, written out from Table 11-2: rate 12, two subframes of 14 and 16 bytes. -/
theorem test_bundle_header_reads :
    (readBundle ([12, 2, 0, 14, 0, 16] ++ List.replicate 30 9)).map (fun b => (b.rate, b.lengths, b.bodies.length))
      = some (12, [14, 16], 30) := by decide +kernel

/-- A bundle whose bodies miss the lengths by a byte is not well formed (R24). -/
theorem test_bundle_of_wrong_size : readBundle ([12, 2, 0, 14, 0, 16] ++ List.replicate 29 9) = none := by decide +kernel

/-- A TXSTAT, written out from Table 11-5: id 3, SENT, a start stamp, ordinals acknowledged yes, no, yes. -/
theorem test_txstat_reads :
    readTxStat [3, 1, 1, 3, 0, 0x0F, 0x42, 0x40, 0xA0] =
      some { id := 3, result := .sent, start := some 1000000, acks := [true, false, true] } := by decide +kernel

/-- The commands of section 11.7's CONTROL frame, and a broken tail after them (R160). -/
theorem test_command_list_reads :
    readCommands [98, 0, 0, 0, 52, 0, 0, 1, 16, 67, 0, 0, 0, 52, 0, 0, 2, 16] =
      ([{ code := 98, target := 0, data := [] }, { code := 52, target := 0, data := [16] }, { code := 67, target := 0, data := [] }],
        [52, 0, 0, 2, 16]) := by decide +kernel

/-- The settings image of the defaults of Table 10-1. -/
theorem test_default_settings_image :
    settingsImage Settings.default =
      [1, 44, 0, 200, 15, 160, 78, 32, 58, 152, 85, 240, 15, 160, 46, 224, 194, 191, 3, 232, 4, 0, 0, 0, 1, 144, 3, 2, 6, 0, 10] := by
  decide +kernel

/-! ### Single steps with the values that the manual prints -/

/-- R1, R2: one tick past 4095 carries a full count, the next none. -/
theorem test_tick_carries_a_full_count :
    (after (exec .airClockAdvance (State.at' linked 4095))).clock = { now := 4096, marking := true, fullCount := some 4096 }
      ∧ (after (exec .airClockAdvance (State.at' linked 4096))).clock.fullCount = none := by decide +kernel

/-- Table 2-7, frames B and C with their body cut to 14 bytes: B takes one cell and joins queue 2; a frame for the closed queue 7 is refused. -/
theorem test_admission_of_frames_b_and_c :
    let b := originate 1 2 302 0 ([12, 1, 0, 14] ++ List.replicate 14 5)
    let c := originate 1 7 303 0 ([12, 1, 0, 14] ++ List.replicate 14 5)
    let s :=
      { withHead linked head301 with
        store := { freeCells := [26, 27, 28], freeDescriptors := [1, 2], memory := [], nextCell := [] } }
    let t := after (exec (.dataFrame b) (arriving s b))
    let u := after (exec (.dataFrame c) (arriving s c))
    (t.queue 2).descriptors.map (fun d => (d.tag, d.number, d.cellCount)) = [(301, 0, 26), (302, 1, 1)]
      ∧ t.store.freeCells = [27, 28] ∧ t.store.freeDescriptors = [2]
      ∧ u.fifo.filled.map (fun r => (r.tag, r.queue, r.result, r.count)) = [(303, 7, .refusedQueue, 1)]
      ∧ (u.queue 7).refusedFlag = true ∧ u.flag .frameRefused = true := by decide +kernel

/-- Table 3-4, run 4: with pointers 15, 15, 4, 10 and queues 1, 6 (priority 2) and 13 (priority 1) requesting, queue 6 is chosen. -/
theorem test_arbiter_run_four :
    let requesting := fun p : Nat => { Queue.powerOn with config := { config2 with priority := p }, request := true }
    State.chosen
      { State.reset with
        pointers := #v[15, 15, 4, 10]
        queues := ((State.reset.queues.set 1 (requesting 2)).set 6 (requesting 2)).set 13 (requesting 1) }
      = some (2, 6) := by decide +kernel

/-- The three sources of Table 4-3. -/
def chained : State :=
  let a := oven 1000000 9000 1 11
  let b := oven 1009000 8000 3 8
  let c : Source :=
    { kind := .beacon 6 77, state := .locked, start := 1004000, period := 102400, duration := 1200, matchCount := 2, missRun := 0
      matched := false }
  { State.at' onAir 1005000 with
    window :=
      { status := .blocked, saturated := false, clear := some 1005000, horizon := some 1005001, stop := none, timer := some 1005000 }
    gate := { onAir.gate with committed := some 1003000 }
    sources := { onAir.sources with slots := ((onAir.sources.slots.set 0 (learned a)).set 1 (learned b)).set 2 (learned c) } }

/-- Section 4.7: the search at 1 005 000 is BLOCKED until 1 017 200, with horizon 1 019 700. -/
theorem test_search_chained_and_nested :
    (after (exec .windowTimerExpiry chained)).window =
      { status := .blocked, saturated := false, clear := some 1017200, horizon := some 1019700, stop := none
        timer := some 1017200 } := by decide +kernel

/-- Section 4.8: with the third oven the search saturates at 1 040 000 and the timer is armed for 1 007 232. -/
theorem test_search_saturates :
    let t := after (exec .windowTimerExpiry (chained.setSlot 3 (learned (oven 1017300 2500 1 14))))
    t.window =
        { status := .saturated, saturated := true, clear := none, horizon := none, stop := some 1040000, timer := some 1007232 }
      ∧ t.flag .channelSaturated = true := by decide +kernel

/-- Table 5-6, and the two rate entries after it. -/
theorem test_airtimes_of_section_5_6 :
    [1, 2, 3].map (head301.airtime rate12) = [224, 408, 444]
      ∧ airtime { preamble := 20, symbol := 3600, bits := 24, fixedBits := 22 } [60] = 103
      ∧ airtime { preamble := 100, symbol := 16000, bits := 6, fixedBits := 0 } (List.replicate 32 1024) = 65535 := by
  decide +kernel

/-- The radio on channel 6 with oven A alone, tag 301 at the head of queue 2 and requesting, and a window from the instant to the horizon. -/
def releasing (now horizon : Instant) : State :=
  let s := State.at' (withHead onAir head301) now
  { s with
    queues := s.queues.set 2 { (s.queue 2) with request := true }
    sources := { s.sources with slots := s.sources.slots.set 0 (learned (oven 1000000 9000 1 11)) }
    window :=
      { status := .opened, saturated := false, clear := some now, horizon := some horizon, stop := none, timer := some horizon } }

/-- Table 5-7: the whole bundle fits the window from 1 009 200. -/
theorem test_release_of_a_whole_bundle :
    let t := after (exec (.releaseArbiterRun true) (releasing 1009200 1013200))
    t.south.txdata =
        [{ id := 0, queue := 2, tag := 301, rate := 12, kind := .fitting, ordinals := [0, 1, 2], earliest := 1009200
           latest := some 1012696, windowEnd := some 1013200, airtime := 444 }]
      ∧ t.gate.committed = some 1009704 ∧ t.gate.nextId = 1 ∧ t.window.horizon = some 1013704
      ∧ t.pointers[2] = 2 := by decide +kernel

/-- Table 5-8: the bundle is trimmed to one subframe in the window from 1 019 300. -/
theorem test_release_of_a_trimmed_bundle :
    let t := after (exec (.releaseArbiterRun true) (releasing 1019300 1019700))
    t.gate.table.map (fun e => (e.ordinals, e.latest, e.airtime)) = [([0], some 1019416, 224)]
      ∧ t.gate.committed = some 1019584
      ∧ (t.queue 2).descriptors.map (fun d => d.subframes.map fun e => (e.attempts, e.state))
          = [[(1, .out), (0, .pending), (0, .pending)]] := by decide +kernel

/-- The head with release 0 outstanding, its three subframes in it. -/
def releasedHead : Descriptor :=
  { head301 with
    subframes := [1500, 1500, 300].zipIdx.map fun p => { ordinal := p.2, length := p.1, attempts := 1, state := .out }
    outstanding := some 0, releases := 1 }

/-- Release 0 of tag 301 sent and not yet answered (Table 6-3), with a retry limit and a queue state. -/
def releasedOn (retry : Nat) (state : QueueState) : State :=
  { State.at' onAir 1009250 with
    queues := State.reset.queues.set 2
      { Queue.powerOn with state, config := { config2 with retry }, descriptors := [releasedHead] }
    gate :=
      { onAir.gate with
        rates := onAir.gate.rates.set 12 (some rate12)
        table :=
          [{ id := 0, queue := 2, descriptor := 0, ordinals := [0, 1, 2], kind := .fitting, earliest := 1009200
             latest := some 1012696, windowEnd := some 1013200, airtime := 444, cancelledSent := false, stamp := 1009200
             stale := false }]
        nextId := 1 } }

/-- The same state with queue 2 OPEN and its retry limit 1. -/
def released : State := releasedOn 1 .opened

/-- Table 6-4: a SENT answer that leaves ordinal 2 unacknowledged, at its retry limit. -/
theorem test_sent_answer_of_section_6_8 :
    let t := after (exec (.txstat (originate 7 0 0 0 ([0, 1, 1, 3] ++ toBytes 4 1009230 ++ [0xC0]))) released)
    (t.queue 2).descriptors.map (fun d => d.subframes.map fun e => (e.attempts, e.state))
        = [[(1, .delivered), (1, .delivered), (1, .pending)]]
      ∧ (t.queue 2).descriptors.map (fun d => (d.firstRelease, d.outstanding)) = [(some 1009200, none)]
      ∧ t.gate.table = [] ∧ t.flag .linkError = false := by decide +kernel

/-- Section 6.8, the other order: a CANCELLED answer takes the attempts back. -/
theorem test_cancelled_answer_of_section_6_8 :
    let t := after (exec (.txstat (originate 7 0 0 0 [0, 3, 0, 0, 0, 0, 0, 0])) released)
    (t.queue 2).descriptors.map (fun d => (d.firstRelease, d.releases, d.subframes.map fun e => (e.attempts, e.state)))
      = [(none, 1, [(0, .pending), (0, .pending), (0, .pending)])] := by decide +kernel

/-- Section 6.8: an oven whose next busy start, 1 010 700, lies in the release's window cancels it. -/
theorem test_addition_cancels_the_release :
    let s := released.setSlot 1 (learned (oven 1011000 3000 1 14))
    (s.addBusy (.source 1)).south.cancels = [{ id := 0, queue := 2, tag := 301, placed := 1009250 }] := by decide +kernel

/-- Section 3.9: the drain completes tags 401 and 402 as DRAINED and leaves the outstanding head. -/
theorem test_drain_with_an_outstanding_head :
    let d := fun (tag : BitVec 16) (n : BitVec 10) (k : Nat) =>
      { head301 with tag, number := n, queue := 5, cellCount := 1, firstCell := n.setWidth 12
                     subframes := (List.range k).map fun i => fresh i 100 }
    let s :=
      { State.at' linked 8300000 with
        fifo := { reserved := 3, filled := [] }
        queues := linked.queues.set 5
          { openQueue2 with descriptors := [{ d 400 0 3 with outstanding := some 7 }, d 401 1 2, d 402 2 1] } }
    let t := after (exec (.drainQueue 5 []) (giving s { code := 19, target := 5, data := [] }))
    t.fifo.filled.map (fun r => (r.tag, r.result, r.ordinals, r.completion)) =
        [(401, .drained, some [.notSent, .notSent], 8300000), (402, .drained, some [.notSent], 8300000)]
      ∧ t.fifo.reserved = 1 ∧ (t.queue 5).state = .draining ∧ (t.queue 5).descriptors.length = 1
      ∧ t.flag .drainDone = false := by decide +kernel

/-- Report 1 of section 7.7, cut to its samples 46 to 77. -/
theorem test_report_one_of_section_7_7 :
    let levels : List Int := List.replicate 4 (-80) ++ List.replicate 20 (-55) ++ [-53] ++ List.replicate 7 (-55)
    let t := after (exec (.energyReport (energy 6 0 2002944 64 levels)) (State.at' onAir 2008192))
    t.detector.burst = some { start := 2003200, certain := true, peak := -53 }
      ∧ t.detector.spans = [{ start := 2002944, stop := 2004992 }]
      ∧ t.detector.survey[5] = { listen := 2048, busy := 1792 } := by decide +kernel

/-- Report 2 of section 7.7: the end event of its sample 60. -/
theorem test_end_event_of_section_7_7 :
    OpenBurst.ended { start := 2003200, certain := true, peak := -53 } 6 
        (EnergyReport.stampOf { channel := 6, continues := true, first := 2008192, interval := 64, samples := [] } 60) true =
      { channel := 6, start := 2003200, stop := 2012032, startCertain := true, stopCertain := true, peak := -53
        measured := 8832 } := by decide +kernel

/-- R103, R3: a report whose end lies 2^30 µs or more in the past leaves no span behind, and one that ends a microsecond later does. -/
theorem test_old_report_leaves_no_span :
    let taken := fun now : Instant =>
      (after (exec (.energyReport (energy 6 0 2000000 64 [-70])) (State.at' onAir now))).detector
    (taken (2000064 + 1073741824)).spans = [] ∧ (taken (2000064 + 1073741824)).agingTimer = none
      ∧ (taken (2000063 + 1073741824)).spans = [{ start := 2000000, stop := 2000064 }] := by decide +kernel

/-- R102: a continued report moves the end alone, be the start 2^31 µs behind, and the span then holds no instant 2^31 µs or more after that start
(notes/assumptions/35.md). -/
theorem test_long_span_keeps_its_start :
    let s := { onAir with detector := { onAir.detector with spans := [{ start := 999936 - 2147483648, stop := 999936 }] } }
    let t := after (exec (.energyReport (energy 6 1 999936 64 [-70])) s)
    t.detector.spans = [{ start := 999936 - 2147483648, stop := 1000000 }] ∧ t.covered 999936 1000000 = false
      ∧ s.covered 999872 999936 = true := by decide +kernel

/-- R102: a report whose first stamp lies exactly 2^31 µs from the newest span's end leaves its own span alone (notes/assumptions/34.md). -/
theorem test_report_half_the_range_away :
    let s := { onAir with detector := { onAir.detector with spans := [{ start := 900000, stop := 999936 + 2147483648 }] } }
    (after (exec (.energyReport (energy 6 0 999936 64 [-70])) s)).detector.spans = [{ start := 999936, stop := 1000000 }] := by
  decide +kernel

/-- Section 8.8, X's third burst: its certain start at 3 039 960 locks slot 0. -/
theorem test_third_burst_locks_the_oven :
    let e : Source := { oven 3039994 9000 6 6 with state := .acquiring, period := 19999, matchCount := 2 }
    let s :=
      { (State.at' onAir 3040000).setSlot 0 (learned e) with
        detector := { onAir.detector with spans := [{ start := 3000000, stop := 3039832 }] } }
    let t := after (exec (.energyReport (energy 6 1 3039832 64 [-90, -90, -40])) s)
    (t.slot 0).entry.map (fun e => (e.state, e.start, e.period, e.matchCount, e.matched))
        = some (.locked, 3039986, 19997, 3, true)
      ∧ t.flag .sourceLocked = true := by decide +kernel

/-- Section 8.8: the check at 3 020 995 of a matched entry advances S to 3 039 994. -/
theorem test_check_of_a_matched_entry :
    let e : Source := { oven 3019995 9000 6 6 with state := .acquiring, period := 19999, matchCount := 2, matched := true }
    let t := after (exec (.checkTimerExpiry 0) ((State.at' onAir 3020995).setSlot 0 (learned e)))
    (t.slot 0).entry.map (fun e => (e.start, e.matched)) = some (3039994, false)
      ∧ (t.slot 0).timer = some 3040994 := by decide +kernel

/-- The four entries of Table 9-2. -/
def ring92 : Ring :=
  { Ring.powerOn with
    entries :=
      (((Ring.powerOn.entries.set 0 (reservation 5010000 2000 1)).set 1 (reservation 5030000 1500 2)).set 2
        (reservation 5031000 1000 3)).set 3 { reservation 5050000 500 4 with wrap := true } }

/-- Section 9.6, the same entries started late: START_RING at 5 033 000 passes entries 0 to 2. -/
theorem test_ring_started_late :
    let s := { State.at' onAir 5033000 with ring := ring92 }
    let t := after (exec (.startRing 0 []) (giving s { code := 64, target := 0, data := [] }))
    t.ring.running = true ∧ t.ring.current = 3 ∧ t.ring.endTimer = some 5050500 ∧ t.ring.lastLabel = some 3
      ∧ (t.ring.entry 2).valid = false ∧ t.flag .ringStopped = false := by decide +kernel

/-- Table 9-3, the timer at 5 072 000: the walk stops INVALID at index 1. -/
theorem test_ring_walk_stops_on_an_invalid_entry :
    let s :=
      { State.at' onAir 5072000 with
        ring :=
          { ring92 with
            entries := (Vector.replicate 32 RingEntry.powerOn).set 0 (reservation 5070000 2000 5)
            running := true, endTimer := some 5072000 } }
    let t := after (exec .ringEndTimerExpiry s)
    t.ring.running = false ∧ t.ring.reason = some .invalid ∧ t.ring.current = 1 ∧ t.ring.lastLabel = some 5
      ∧ t.flag .ringStopped = true := by decide +kernel

/-- Table 10-3: SOURCE_LOCKED with its enable set raises ATTN, queues a NOTICE and arms the timer for 6 010 500. -/
theorem test_first_notice_of_section_10_9 :
    let t := (State.writeEnables (State.at' linked 6000500) 0x0091).setFlag .sourceLocked
    t.events.attn = true ∧ t.north.status = [.notice] ∧ t.events.pacing = some 6010500
      ∧ (State.setFlag { t with clock := { t.clock with now := 6001000 } } .frameRefused).events.noticeDue = false
      ∧ (State.setFlag { t with north := { t.north with status := [] } } .frameForced).events.noticeDue = true := by decide +kernel

/-- Section 11.7: SNAPSHOT, the first of four commands, leaves 3970 of 4080 bytes. -/
theorem test_room_after_a_snapshot :
    let c : Command := { code := 98, target := 0, data := [] }
    roomOf (after (exec (.snapshot 0 [])
      { linked with
        engine :=
          { linked.engine with
            executing := .executing { listOf c with commands := [c, c], room := 4080 } } })) = 3970 := by decide +kernel

/-- Table 1-2, boundary 1: with the last shared kind RXDATA a TXDONE goes first, its record in the layout of Table 11-9. -/
theorem test_north_output_boundary_one :
    let r := refusalRecord { kind := 1, lane := 7, length := 64, sequence := 303, flags := 0, version := 1 } .refusedQueue 1 5000210
    let t := after (exec (.northOutputChoice true)
      { linked with
        fifo := { reserved := 0, filled := [r] }
        north := { linked.north with passBuffer := [originate 5 0 0 0 []] } })
    t.north.sending.map (fun x => (x.frame.header.kind, x.frame.header.sequence)) = some (4, 303)
      ∧ r.payload = [1, 47, 7, 17, 1, 0, 0, 0, 0] ++ toBytes 4 5000210 ++ [0, 0, 0, 0] ++ toBytes 4 5000210
      ∧ t.north.lastShared = .txdone := by decide +kernel

/-- R152, R155: CLEAR_EVENTS of all leaves a due NOTICE due (notes/assumptions/33.md). -/
theorem test_clearing_keeps_a_due_notice :
    let due := { linked with events := { linked.events with flags := 1, enables := 1, attn := true, noticeDue := true, pacing := some 1000500 } }
    let t := after (exec (.clearEvents 255 []) (giving due { code := 100, target := 255, data := [] }))
    t.events.flags = 0 ∧ t.events.attn = false ∧ t.events.noticeDue = true := by decide +kernel

/-- R151, R157: a FULL part reset leaves the RESPONSE and then a STARTED waiting. -/
theorem test_full_reset_queues_started :
    let s :=
      { linked with
        engine := { linked.engine with executing := .holding { listOf { code := 101, target := 0, data := [1] } with commands := [], reset := some .full } } }
    (after (exec .responseQueued s)).north.status = [.response 7 [], .started .full] := by decide +kernel

/-! ### The hypotheses of the statements are met

One theorem for each statement that has hypotheses, named after it: a state and operands for every clause, at a boundary value where the clause
has one. -/

theorem met_StepRunsTheFrontCommand :
    (State.reset.withFront .airClockAdvance).pending = .airClockAdvance :: [] ∧ State.reset.pending = [] := by decide

theorem met_PowerOnAndResetInput :
    ∃ s : State, exec .resetInputAsserted State.reset = .next s ∧ s.inReset = true ∧ Instr.airClockAdvance ≠ .powerOnReset
      ∧ Instr.airClockAdvance ≠ .resetInputAsserted := ⟨_, rfl, by decide⟩

theorem met_OnlyItsTickMovesTheAirClock :
    State.reset.inReset = false ∧ ∃ t : State, exec .northSyncGained State.reset = .next t
      ∧ Instr.northSyncGained ≠ .airClockAdvance ∧ Instr.northSyncGained ≠ .powerOnReset
      ∧ Instr.northSyncGained ≠ .resetInputAsserted ∧ Instr.northSyncGained ≠ .southSyncGained := ⟨rfl, _, rfl, by decide⟩

/-- The state in which the north transmitter sends an item, with STATUS frames waiting. -/
def sendingWith (item : NorthItem) (status : List StatusFrame) : State :=
  { linked with north := { linked.north with sending := some { item, frame := originate 3 0 0 3 [] }, status } }

/-- R12, R157: after a loss one STARTED waits, of scope FULL, whichever was being sent while one of scope FULL waited. -/
theorem test_one_started_waits_after_a_loss :
    let lost := fun item => (after (exec .northSyncLost (sendingWith item [.response 7 [], .started .full]))).north
    (lost (.status (.started .full))).resend = some (.status (.started .full))
      ∧ (lost (.status (.started .full))).status = [.response 7 []]
      ∧ (lost (.status (.started .powerOn))).resend = none
      ∧ (lost (.status (.started .powerOn))).status = [.response 7 [], .started .full] := by decide +kernel

theorem met_SyncGainsAndNorthLoss :
    let waiting := fun s : State =>
      (s.north.status.filter fun f => f == .started .powerOn || f == .started .full).length
        + if s.north.resend = some (.status (.started .powerOn)) ∨ s.north.resend = some (.status (.started .full)) then 1 else 0
    State.reset.inReset = false ∧ State.reset.north.synced = false ∧ State.reset.south.synced = false ∧ linked.inReset = false
      ∧ linked.north.synced = true ∧ linked.north.sending = none
      ∧ (∀ item status, (sendingWith item status).inReset = false ∧ (sendingWith item status).north.synced = true
        ∧ (sendingWith item status).north.status = status ∧ ∃ x, (sendingWith item status).north.sending = some x ∧ x.item = item)
      ∧ waiting (sendingWith (.status (.started .full)) [.started .full]) = 1 ∧ waiting (sendingWith .rxdata []) = 0 := by
  refine ⟨rfl, rfl, rfl, rfl, rfl, rfl, fun _ _ => ⟨rfl, rfl, rfl, _, rfl, rfl⟩, by decide, by decide⟩

/-- The released states meet the laws of the queues and of the outstanding releases. -/
theorem releasedOn_lawful (retry : Nat) (state : QueueState) (h : state = .opened ∨ state = .draining) :
    (releasedOn retry state).releasesLawful := by
  have other : ∀ q : Fin 16, q ≠ 2 → (releasedOn retry state).queue q = Queue.powerOn := by
    intro q hq
    have h1 : ∀ q : Fin 16, q ≠ 2 → State.reset.queue q = Queue.powerOn := by decide +kernel
    rw [← h1 q hq]
    exact Vector.getElem_set_ne (by decide) q.isLt (fun h2 => hq (Fin.ext h2.symm))
  have table : ∀ e ∈ released.gate.table, e.queue = 2 ∧ e.id = 0 ∧ e.descriptor = 0 ∧ e.ordinals = [0, 1, 2] := by decide +kernel
  have two : (releasedOn retry state).queue 2 =
      { Queue.powerOn with state, config := { config2 with retry }, descriptors := [releasedHead] } := rfl
  refine ⟨fun q => ?_, Nat.le_add_left 1 1, List.nodup_singleton _, List.nodup_singleton _, fun e he => ?_, fun q d' id hh hi => ?_⟩
  · by_cases hq : q = 2
    · subst hq
      rw [two]
      rcases h with rfl | rfl <;>
        simp [Queue.lawful, Queue.powerOn, Descriptor.lawful, Subframe.lawful, releasedHead, head301] <;> decide
    · rw [other q hq]
      simp [Queue.lawful, Queue.powerOn]
  · obtain ⟨h2, h0, hn, ho⟩ := table e he
    exact ⟨releasedHead, by rw [h2, two]; rfl, by rw [h0]; rfl, by rw [hn]; rfl, by rw [ho]; rfl, by rw [ho]; simp⟩
  · by_cases hq : q = 2
    · subst hq
      rw [two] at hh
      simp only [Queue.head, List.head?_cons, Option.some.injEq] at hh
      subst hh
      exact ⟨_, List.mem_singleton.2 rfl, rfl, Option.some.inj hi⟩
    · rw [other q hq] at hh
      simp [Queue.head, Queue.powerOn] at hh

/-- So does the released state itself. -/
theorem released_lawful : released.releasesLawful :=
  releasedOn_lawful 1 .opened (.inl rfl)

theorem met_SouthSyncLossResolvesEveryRelease :
    (∀ retry state, (releasedOn retry state).inReset = false ∧ (releasedOn retry state).south.synced = true
        ∧ (releasedOn retry state).south.radio ≠ .down
        ∧ (∃ e ∈ (releasedOn retry state).gate.table, e.queue = 2 ∧ e.ordinals = [0, 1, 2])
        ∧ ((releasedOn retry state).queue 2).descriptors = releasedHead :: []
        ∧ ((releasedOn retry state).queue 2).config.retry = retry ∧ ((releasedOn retry state).queue 2).state = state)
      ∧ (∀ retry, (releasedOn retry .opened).releasesLawful ∧ (releasedOn retry .draining).releasesLawful)
      ∧ releasedHead.subframes.map Subframe.attempts = [1, 1, 1]
      ∧ linked.inReset = false ∧ linked.south.synced = true ∧ linked.south.radio = .down :=
  ⟨fun _ _ => ⟨rfl, rfl, by show Radio.onChannel 6 ≠ _; decide, ⟨_, List.mem_singleton.2 rfl, rfl, rfl⟩, rfl, rfl, rfl⟩,
    fun r => ⟨releasedOn_lawful r _ (.inl rfl), releasedOn_lawful r _ (.inr rfl)⟩, by decide, by decide⟩

/-- A state whose TXDONE FIFO has n reserved slots and whose north input stands at a stage. -/
def reserving (n : Nat) (input : NorthInput) : State :=
  { linked with fifo := { reserved := n, filled := [] }, north := { linked.north with input } }

/-- A lane header of 64 payload bytes on lane 2. -/
def header (kind version : Byte) : LaneHeader := { kind, lane := 2, length := 64, sequence := 301, flags := 0, version }

theorem met_DataHeaderReservesASlotOrWaits :
    let free := fun s : State => s.fifo.reserved + s.fifo.filled.length < 1280
    (∀ n input, (reserving n input).inReset = false ∧ (reserving n input).north.synced = true)
      ∧ (reserving 1279 .awaitHeader).north.input = .awaitHeader ∧ (header 1 1).kind = 1 ∧ (header 1 1).version = 1
      ∧ free (reserving 1279 .awaitHeader) ∧ ¬ free (reserving 1280 .awaitHeader) ∧ (header 2 1).kind ≠ 1 ∧ (header 1 2).version ≠ 1
      ∧ (reserving 1279 (.held (header 1 1))).north.input = .held (header 1 1) ∧ free (reserving 1279 (.held (header 1 1)))
      ∧ ¬ free (reserving 1280 (.held (header 1 1))) :=
  ⟨fun _ _ => ⟨rfl, rfl⟩, by decide⟩

/-- A CONTROL frame without commands, and the same frame with a wrong CRC. -/
def emptyControl : LinkFrame := originate 2 0 7 0 []
def spoiled : LinkFrame := { emptyControl with crc := emptyControl.crc + 1 }

theorem met_DiscardedFrameOnlySetsLinkError :
    (reserving 1 (.receiving spoiled.header true false)).inReset = false
      ∧ (reserving 1 (.receiving spoiled.header true false)).north.input = .receiving spoiled.header true false
      ∧ (reserving 0 (.receiving spoiled.header false false)).north.input = .receiving spoiled.header false false
      ∧ (reserving 0 (.receiving spoiled.header false false)).north.synced = true ∧ passes .north spoiled = false
      ∧ (reserving 0 (.receiving emptyControl.header false true)).north.input = .receiving emptyControl.header false true
      ∧ linked.inReset = false ∧ linked.south.synced = true ∧ passes .south spoiled = false := by decide +kernel

theorem met_SettingAFlagRaisesAttnAndANotice :
    let off := linked
    let on := linked.writeEnables 0x3FFF
    let noticed := on.setFlag .linkError
    let paced := { noticed with north := { noticed.north with status := [] } }
    (noticed.flag .linkError = true) ∧ (off.flag .rxDropped = false ∧ off.events.enables.getLsbD EventFlag.rxDropped.index = false)
      ∧ (noticed.flag .rxDropped = false ∧ noticed.north.noticeWaits = true)
      ∧ (on.flag .radioLost = false ∧ on.events.enables.getLsbD EventFlag.radioLost.index = true ∧ on.north.noticeWaits = false
        ∧ on.events.pacing = none ∧ on.north.noticeSending = false)
      ∧ (paced.flag .radioLost = false ∧ paced.events.enables.getLsbD EventFlag.radioLost.index = true
        ∧ paced.north.noticeWaits = false ∧ paced.events.pacing.isSome = true) := by decide +kernel

/-- A DATA frame of one 14-byte subframe at a rate, on a lane. -/
def smallData (lane rate : Byte) : LinkFrame := originate 1 lane 301 0 ([rate, 1, 0, 14] ++ List.replicate 14 5)

/-- The bundle of such a frame at rate 12. -/
def smallBundle : Bundle := { rate := 12, lengths := [14], bodies := List.replicate 14 5 }

/-- Queue 2 with one descriptor, of a depth limit, with rate 12 loaded and a small store; the frame arriving. -/
def admitting (depth : Nat) (cells : List (BitVec 12)) (f : LinkFrame) : State :=
  arriving
    { withHead linked head301 with
      fifo := { reserved := 1, filled := [] }
      store := { freeCells := cells, freeDescriptors := [3], memory := [], nextCell := [] }
      queues := linked.queues.set 2 { openQueue2 with config := { config2 with depth }, descriptors := [head301] } } f

theorem admitting_arrives (depth : Nat) (cells : List (BitVec 12)) (f : LinkFrame) (h : passes .north f = true) :
    (admitting depth cells f).northArriving f := ⟨rfl, rfl, rfl, h⟩

theorem met_RefusedDataFrameFillsItsSlot :
    let bad := originate 1 2 301 0 [64, 1, 0, 14]
    passes .north bad = true ∧ passes .north (smallData 2 12) = true ∧ passes .north (smallData 2 13) = true
      ∧ passes .north (smallData 16 12) = true ∧ passes .north (smallData 3 12) = true ∧ bad.header.kind = 1
      ∧ (∀ lane rate, (smallData lane rate).header.kind = 1)
      ∧ (admitting 2 [5] bad).refusedAs bad .refusedFormat 0
      ∧ (admitting 2 [5] (smallData 16 12)).refusedAs (smallData 16 12) .refusedQueue 1
      ∧ (admitting 2 [5] (smallData 3 12)).refusedAs (smallData 3 12) .refusedQueue 1
      ∧ (admitting 1 [5] (smallData 2 12)).refusedAs (smallData 2 12) .refusedFull 1
      ∧ (admitting 2 [5] (smallData 2 13)).refusedAs (smallData 2 13) .refusedRate 1
      ∧ (admitting 2 [] (smallData 2 12)).refusedAs (smallData 2 12) .refusedStore 1 := by
  have h13 : readBundle (smallData 2 13).payload = some { smallBundle with rate := 13 } := by decide +kernel
  have hb : ∀ lane, readBundle (smallData lane 12).payload = some smallBundle := fun _ => by
    show readBundle (smallData 0 12).payload = some smallBundle
    decide +kernel
  have ha : ∀ depth cells f, (admitting depth cells f).admitsOn 2 := fun _ _ _ => .inl rfl
  refine ⟨by decide +kernel, by decide +kernel, by decide +kernel, by decide +kernel, by decide +kernel, rfl, fun _ _ => rfl,
    .inl ⟨by decide +kernel, rfl, rfl⟩, .inr ⟨smallBundle, hb _, rfl, .inl ⟨by decide, rfl⟩⟩,
    .inr ⟨smallBundle, hb _, rfl, .inr ⟨3, rfl, .inl ⟨by rintro (h | h) <;> exact absurd h (by decide), rfl⟩⟩⟩,
    .inr ⟨smallBundle, hb _, rfl, .inr ⟨2, rfl, .inr (.inl ⟨ha _ _ _, by decide, rfl⟩)⟩⟩,
    .inr ⟨_, h13, rfl, .inr ⟨2, rfl, .inr (.inr (.inl ⟨ha _ _ _, by decide, by decide +kernel, rfl⟩))⟩⟩,
    .inr ⟨smallBundle, hb _, rfl, .inr ⟨2, rfl, .inr (.inr (.inr ⟨ha _ _ _, by decide, by decide +kernel, .inr (by decide), rfl⟩))⟩⟩⟩

theorem met_AdmittedDataFrameJoinsItsQueue :
    let f := smallData 2 12
    let first := arriving { admitting 1 [5] f with queues := linked.queues.set 2 { openQueue2 with config := { config2 with depth := 1 } } } f
    (admitting 2 [5] f).northArriving f ∧ f.header.kind = 1 ∧ (admitting 2 [5] f).admitsFrame f 2 smallBundle
      ∧ (admitting 2 [5] f).store.freeCells.Nodup ∧ first.northArriving f ∧ first.admitsFrame f 2 smallBundle
      ∧ (first.queue 2).descriptors = [] ∧ (first.queue 2).state = .opened := by
  refine ⟨admitting_arrives _ _ _ (by decide +kernel), rfl,
    ⟨by decide +kernel, rfl, .inl rfl, by decide, by decide +kernel, by decide, by decide⟩, by decide,
    ⟨rfl, rfl, rfl, by decide +kernel⟩, ⟨by decide +kernel, rfl, .inl rfl, by decide, by decide +kernel, by decide, by decide⟩,
    by decide +kernel, by decide +kernel⟩

theorem met_AdmittedBodiesReadBack :
    let f := smallData 2 12
    (admitting 2 [5] f).northArriving f ∧ f.header.kind = 1 ∧ (admitting 2 [5] f).admitsFrame f 2 smallBundle
      ∧ (admitting 2 [5] f).store.memory.wf = true ∧ (admitting 2 [5] f).store.freeCells.Nodup ∧ 13 < smallBundle.lengths.sum
      ∧ 0 < smallBundle.lengths.length :=
  ⟨admitting_arrives _ _ _ (by decide +kernel), rfl,
    ⟨by decide +kernel, rfl, .inl rfl, by decide, by decide +kernel, by decide, by decide⟩, by decide, by decide, by decide, by decide⟩

/-- A state whose list is complete, with a reset noted or none. -/
def complete (s : State) (reset : Option ResetScope) : State :=
  { s with
    engine := { s.engine with executing := .holding { listOf { code := 101, target := 0, data := [] } with commands := [], reset } } }

theorem met_ControlFrameTakesABuffer :
    let busy := complete linked none
    let full := { busy with engine := { busy.engine with waiting := some { sequence := 41, payload := [] } } }
    (arriving linked emptyControl).northArriving emptyControl ∧ emptyControl.header.kind = 2 ∧ linked.engine.waiting = none
      ∧ linked.engine.executing = .empty ∧ (arriving busy emptyControl).northArriving emptyControl ∧ busy.engine.waiting = none
      ∧ busy.engine.executing ≠ .empty ∧ (arriving full emptyControl).northArriving emptyControl ∧ full.engine.waiting ≠ none :=
  ⟨⟨rfl, rfl, rfl, by decide +kernel⟩, rfl, rfl, rfl, ⟨rfl, rfl, rfl, by decide +kernel⟩, rfl, by decide,
    ⟨rfl, rfl, rfl, by decide +kernel⟩, by decide⟩

theorem met_ResponseQueuedMovesTheNextListUp :
    let waiting := { linked with north := { linked.north with status := [.response 6 []] } }
    (∃ l, (complete linked none).engine.executing = .holding l ∧ l.reset = none) ∧ (complete linked none).inReset = false
      ∧ (complete linked none).north.responseWaits = false ∧ (∃ l, (complete waiting none).engine.executing = .holding l)
      ∧ (complete waiting none).north.responseWaits = true := ⟨⟨_, rfl, rfl⟩, by decide, by decide, ⟨_, rfl⟩, by decide⟩

theorem met_PartResetLeavesEachBlockAsSaid :
    let s := fun (input : NorthInput) (item : NorthItem) (resend : Option NorthItem) (radio : Radio) (deferred : Bool) (reset : ResetScope) =>
      complete
        { released with
          north := { released.north with input, sending := some { item, frame := emptyControl }, resend }
          south := { released.south with radio }
          sources :=
            { released.sources with
              slots := released.sources.slots.set 0 { learned (oven 1008000 9000 6 6) with timer := none, deferred } } }
        (some reset)
    let done := refusalRecord (header 1 1) .refusedFull 1 999000
    (∀ input item resend radio deferred reset,
        (∃ l, (s input item resend radio deferred reset).engine.executing = .holding l ∧ l.reset = some reset)
        ∧ (s input item resend radio deferred reset).inReset = false ∧ (s input item resend radio deferred reset).north.input = input
        ∧ (∃ x, (s input item resend radio deferred reset).north.sending = some x ∧ x.item = item)
        ∧ (s input item resend radio deferred reset).north.resend = resend
        ∧ (s input item resend radio deferred reset).south.radio = radio
        ∧ ((s input item resend radio deferred reset).slot 0).deferred = deferred
        ∧ ((s input item resend radio deferred reset).slot 0).owner = .learn
        ∧ ((s input item resend radio deferred reset).slot 0).entry = some (oven 1008000 9000 6 6)
        ∧ (s input item resend radio deferred reset).ring.running = false)
      ∧ (∀ radio deferred reset, (s (.held (header 1 1)) (.txdone done true) none radio deferred reset).north.responseWaits = false
        ∧ (s (.receiving (header 1 1) true false) .rxdata (some (.status .notice)) radio deferred reset).north.responseWaits = false
        ∧ (s .awaitHeader (.status .notice) (some (.status (.started .powerOn))) radio deferred reset).north.responseWaits = false)
      ∧ (oven 1008000 9000 6 6).matched = false ∧ atOrBefore (plus (plus 1008000 20000) 1000) released.clock.now = false :=
  ⟨fun _ _ _ _ _ _ => ⟨⟨_, rfl, rfl⟩, rfl, rfl, ⟨_, rfl, rfl⟩, rfl, rfl, rfl, rfl, rfl, rfl⟩, fun _ _ _ => ⟨rfl, rfl, rfl⟩, rfl,
    by decide⟩

/-- A trailer of a good beacon of another network on channel 6, its interval 100 time units. -/
def beaconTrailer (flags : Byte) : List Byte :=
  [6, 1, flags, 0xD8] ++ toBytes 4 999000 ++ toBytes 2 700 ++ toBytes 2 100 ++ [0, 1, 2, 3, 4, 5]

/-- An RXDATA frame of a trailer alone, of 26 bytes with its lane header. -/
def beaconFrame (flags : Byte) : LinkFrame := originate 5 0 0 0 (beaconTrailer flags)

theorem beaconFrame_arrives (s : State) (flags : Byte) (hr : s.inReset = false) (hs : s.south.synced = true)
    (hp : passes .south (beaconFrame flags) = true) : s.southArriving (beaconFrame flags) := ⟨hr, hs, hp⟩

theorem met_RxdataFrameIsStoredWholeOrDropped :
    let stored := fun k : Nat =>
      { linked with
        north :=
          { linked.north with
            passBuffer := List.replicate 15 { beaconFrame 0 with payload := List.replicate 4088 0 } ++
              [{ beaconFrame 0 with payload := List.replicate k 0 }] } }
    let fits := fun k => ((stored k).north.passBuffer.map fun g => g.payload.length + 8).sum + ((beaconFrame 0).payload.length + 8)
      ≤ 65536
    passes .south (beaconFrame 0) = true ∧ (beaconFrame 0).header.kind = 5
      ∧ (∀ x, readTrailer (beaconFrame 0).payload = some x → x.qualifies = false)
      ∧ (∀ k, (stored k).inReset = false ∧ (stored k).south.synced = true) ∧ fits 4062 ∧ ¬ fits 4063 := by
  have size : (beaconFrame 0).payload.length = 18 := rfl
  refine ⟨by decide +kernel, rfl, fun x hx => ?_, fun _ => ⟨rfl, rfl⟩, ?_, ?_⟩
  · have h : (readTrailer (beaconFrame 0).payload).all (fun x => !x.qualifies) = true := by decide +kernel
    rw [hx] at h
    simpa using h
  all_goals
    simp only [List.map_append, List.map_replicate, List.length_replicate, List.sum_append, List.sum_replicate, List.map_cons,
      List.map_nil, List.sum_cons, List.sum_nil, size]
    decide

/-- Slot 0 holds an entry at an instant. -/
def tracking (owner : Owner) (now : Instant) (e : Source) (spans : List Span) : State :=
  { (State.at' onAir now).setSlot 0 { (learned e) with owner } with detector := { onAir.detector with spans } }

/-- No other slot does. -/
theorem tracking_others (owner : Owner) (now : Instant) (e : Source) (spans : List Span) (i : Fin 16) (h : i ≠ 0) :
    ((tracking owner now e spans).slot i).entry = none := by
  have h0 : ∀ i : Fin 16, i ≠ 0 → (State.reset.slot i).entry = none := by decide +kernel
  rw [← h0 i h]
  exact congrArg Slot.entry (Vector.getElem_set_ne (by decide) i.isLt (fun h2 => h (Fin.ext h2.symm)))

theorem tracking_lawful (owner : Owner) (now : Instant) (e : Source) (spans : List Span) (he : e.lawful Settings.default) :
    (tracking owner now e spans).sourcesLawful := by
  refine ⟨by show Settings.default.consistent = true; decide, ⟨?_, ?_⟩, fun i f hf => ?_⟩
  · rintro n h; cases h; simp [isChannel]
  · rintro n h; cases h; simp [isChannel]
  · by_cases h : i = 0
    · subst h
      cases hf
      exact he
    · rw [tracking_others owner now e spans i h] at hf
      cases hf

/-- Oven A of section 4.7. -/
def ovenA : Source := oven 1000000 9000 1 11

theorem ovenA_lawful : ovenA.lawful Settings.default := by
  simp [Source.lawful, ovenA, oven, Settings.default, isChannel]

/-- What the beacon trailer carries. -/
def trailerRead : Trailer :=
  { channel := 6, beacon := true, good := true, own := false, level := -40, start := 999000, airtime := 700, interval := 100
    tag := 0x000102030405 }

/-- A LOCKED BEACON of the trailer's tag and channel. -/
def knownBeacon (start : Instant) (period : Nat) (matched : Bool) : Source :=
  { kind := .beacon 6 0x000102030405, state := .locked, start, period, duration := 1200, matchCount := 2, missRun := 0, matched }

theorem knownBeacon_lawful (start : Instant) (matched : Bool) :
    (knownBeacon start 102400 matched).lawful Settings.default ∧ (knownBeacon start 204800 matched).lawful Settings.default := by
  simp [Source.lawful, knownBeacon, Settings.default, isChannel]

/-- Every slot holds a learned entry. -/
def fullOf (e : Source) : State :=
  { onAir with sources := { onAir.sources with slots := Vector.replicate 16 (learned e) } }

theorem fullOf_slot (e : Source) (i : Fin 16) : (fullOf e).slot i = learned e := Vector.getElem_replicate i.isLt

theorem met_BeaconTrailersTeachTheTable :
    let acquiring : Source := { oven 1000000 9000 1 11 with state := .acquiring }
    let known := fun (owner : Owner) (start : Instant) (period : Nat) (matched : Bool) =>
      tracking owner 1000000 (knownBeacon start period matched) []
    let noBeacon := fun s : State => ∀ j e, (s.slot j).entry = some e → e.kind ≠ .beacon 6 0x000102030405
    (∀ s : State, s.inReset = false → s.south.synced = true → s.southArriving (beaconFrame 1))
      ∧ (beaconFrame 1).header.kind = 5 ∧ readTrailer (beaconFrame 1).payload = some trailerRead ∧ trailerRead.qualifies = true
      ∧ atOrBefore (plus (plus trailerRead.start (trailerRead.interval * 1024)) Settings.default.beaconCapture) 1000000 = false
      ∧ (noBeacon onAir ∧ onAir.newSlotIs 0) ∧ (noBeacon (fullOf acquiring) ∧ (fullOf acquiring).newSlotIs 0)
      ∧ (noBeacon (fullOf ovenA) ∧ (fullOf ovenA).noNewSlot)
      ∧ (∀ start matched, (known .learn start 102400 matched).sourcesLawful ∧ (known .learn start 204800 matched).sourcesLawful)
      ∧ (∀ owner start period matched, (known owner start period matched).beaconsDistinct
        ∧ ((known owner start period matched).slot 0).owner = owner
        ∧ ((known owner start period matched).slot 0).entry = some (knownBeacon start period matched))
      ∧ (knownBeacon 999000 102400 true).error 999000 = distance 999000 999000
      ∧ ((knownBeacon 1000024 102400 false).error 999000).natAbs = 1024
      ∧ ((knownBeacon 1000025 102400 false).error 999000).natAbs = 1025
      ∧ (knownBeacon 999000 204800 false).period ≠ 102400
      ∧ ∀ j e, ((known .host 999000 102400 false).slot j).owner = .learn →
          ((known .host 999000 102400 false).slot j).entry = some e → e.kind ≠ .beacon 6 0x000102030405 := by
  have empty : ∀ j : Fin 16, (onAir.slot j).entry = none ∧ (onAir.slot j).owner = .learn := by decide +kernel
  have full : ∀ (e : Source) (j : Fin 16) (f : Source), ((fullOf e).slot j).entry = some f → f = e := by
    intro e j f h
    rw [fullOf_slot] at h
    cases h
    rfl
  refine ⟨fun s h h' => ⟨h, h', by decide +kernel⟩, rfl, by decide +kernel, by decide +kernel, by decide +kernel, ⟨?_, ?_⟩, ⟨?_, ?_⟩, ⟨?_, ?_⟩,
    fun _ _ => ⟨tracking_lawful _ _ _ _ (knownBeacon_lawful _ _).1, tracking_lawful _ _ _ _ (knownBeacon_lawful _ _).2⟩,
    fun owner start period matched => ⟨?_, rfl, rfl⟩, by decide +kernel, by decide +kernel, by decide +kernel, by decide, ?_⟩
  · intro j e h
    rw [(empty j).1] at h
    cases h
  · exact ⟨(empty 0).2, .inl ⟨(empty 0).1, fun j h => absurd h (by simp)⟩⟩
  · intro j e h
    rw [full _ j e h]
    decide
  · refine ⟨by rw [fullOf_slot]; rfl, .inr ⟨fun j _ h => ?_, _, by rw [fullOf_slot]; rfl, rfl, fun j f _ hf _ => ?_⟩⟩
    · rw [fullOf_slot] at h
      cases h
    · rw [full _ j f hf]
      exact .inr ⟨rfl, Fin.zero_le j⟩
  · intro j e h
    rw [full _ j e h]
    decide
  · intro j _
    exact ⟨ovenA, by rw [fullOf_slot]; rfl, by decide⟩
  · have only : ∀ (k : Fin 16) (g : Source),
        ((tracking owner 1000000 (knownBeacon start period matched) []).slot k).entry = some g → k = 0 := by
      intro k g h
      by_contra hk
      rw [tracking_others _ _ _ _ k hk] at h
      cases h
    exact fun i j _ _ e f _ hi _ _ hj _ => (only i e hi).trans (only j f hj).symm
  · intro j e ho he
    by_cases h : j = 0
    · subst h
      cases ho
    · rw [tracking_others _ _ _ _ j h] at he
      cases he

/-- The survey counts of the reset state lie in their range. -/
theorem detector_reset_lawful : onAir.detector.lawful := by
  have h : ∀ i : Fin 14, onAir.detector.survey[i].busy ≤ onAir.detector.survey[i].listen
      ∧ onAir.detector.survey[i].listen ≤ 4294967295 := by decide +kernel
  exact h

/-- A report of channel 6 with 128 or fewer samples from 1 000 000 on. -/
def report (flags : Byte) : LinkFrame := energy 6 flags 1000000 64 [-70, -60]

/-- What such a report carries. -/
def reportRead (continues : Bool) : EnergyReport :=
  { channel := 6, continues, first := 1000000, interval := 64, samples := [-70, -60] }

theorem reports_arrive :
    passes .south (report 0) = true ∧ passes .south (report 1) = true
      ∧ readEnergy (report 0).header (report 0).payload = some (reportRead false)
      ∧ readEnergy (report 1).header (report 1).payload = some (reportRead true) ∧ (report 0).header.kind = 6
      ∧ (report 1).header.kind = 6 := by decide +kernel

theorem met_EnergyReportsCountInTheSurvey :
    onAir.southArriving (report 0) ∧ readEnergy (report 0).header (report 0).payload = some (reportRead false)
      ∧ (reportRead false).channel = (5 : Fin 14).val + 1 ∧ onAir.detector.lawful ∧ linked.southArriving (report 0)
      ∧ linked.south.radio ≠ .onChannel (reportRead false).channel :=
  ⟨⟨rfl, rfl, reports_arrive.1⟩, reports_arrive.2.2.1, rfl, detector_reset_lawful, ⟨rfl, rfl, reports_arrive.1⟩, by decide⟩

/-- A coverage list of one span that ends at an instant. -/
def covering (stop : Instant) : State := { onAir with detector := { onAir.detector with spans := [{ start := 900000, stop }] } }

theorem met_DetectionReportsExtendTheCoverage :
    onAir.southArriving (report 1) ∧ onAir.south.radio = .onChannel (reportRead true).channel ∧ onAir.detector.spans = []
      ∧ (∀ stop, (covering stop).southArriving (report 1) ∧ (covering stop).southArriving (report 0)
        ∧ (covering stop).south.radio = .onChannel (reportRead true).channel
        ∧ (covering stop).detector.spans = [] ++ [{ start := 900000, stop }])
      ∧ (reportRead true).continuesAt 999936 ∧ (reportRead true).continuesAt 1000064 ∧ ¬ (reportRead true).continuesAt 999935
      ∧ atOrBefore 999935 (reportRead true).first = true ∧ ¬ (reportRead true).continuesAt 1000065
      ∧ atOrBefore 1000065 (reportRead true).first = false
      ∧ atOrBefore (1000000 + 2147483648) (reportRead true).first = false ∧ atOrBefore (plus 1000128 1073741824) onAir.clock.now = false
      ∧ atOrBefore (plus (1000000 - 1073741824) 1073741824) onAir.clock.now = true := by
  refine ⟨⟨rfl, rfl, reports_arrive.2.1⟩, rfl, rfl,
    fun _ => ⟨⟨rfl, rfl, reports_arrive.2.1⟩, ⟨rfl, rfl, reports_arrive.1⟩, rfl, rfl⟩, ?_, ?_, ?_, by decide, ?_, by decide, by decide,
    by decide, by decide⟩
    <;> (unfold EnergyReport.continuesAt; decide)

theorem met_DetectionReportsOpenAndCloseBursts :
    (∀ stop, (covering stop).southArriving (report 1) ∧ (covering stop).southArriving (report 0)
        ∧ (covering stop).south.radio = .onChannel (reportRead true).channel
        ∧ (covering stop).detector.spans = [] ++ [{ start := 900000, stop }])
      ∧ readEnergy (report 1).header (report 1).payload = some (reportRead true) ∧ (reportRead true).continuesAt 1000064
      ∧ ¬ (reportRead false).continuesAt 1000000 ∧ onAir.southArriving (report 0) ∧ onAir.detector.spans = []
      ∧ (after (exec (.energyReport (report 1)) (covering 1000000))).detector.spans ≠ []
      ∧ (after (exec (.energyReport (report 0)) onAir)).detector.spans ≠ [] :=
  ⟨fun _ => ⟨⟨rfl, rfl, reports_arrive.2.1⟩, ⟨rfl, rfl, reports_arrive.1⟩, rfl, rfl⟩, reports_arrive.2.2.2.1,
    by unfold EnergyReport.continuesAt; decide, by unfold EnergyReport.continuesAt; decide, ⟨rfl, rfl, reports_arrive.1⟩, rfl,
    by decide +kernel, by decide +kernel⟩

/-- A report of channel 6 of three samples from 3 039 832 on. -/
def burstReport (flags : Byte) (levels : List Int) : LinkFrame := energy 6 flags 3039832 64 levels

/-- What such a report carries. -/
def burstRead (continues : Bool) (samples : List Int) : EnergyReport :=
  { channel := 6, continues, first := 3039832, interval := 64, samples }

/-- A learned oven in slot 0, an open burst or none, a matched burst record or none, and a newest span up to 3 039 832. -/
def hearing (owner : Owner) (e : Source) (burst : Option OpenBurst) (record : Option MatchRecord) : State :=
  { tracking owner 3040000 e [] with
    detector := { onAir.detector with burst, spans := [{ start := 3000000, stop := 3039832 }] }
    sources := { (tracking owner 3040000 e []).sources with record } }

theorem met_BurstsTeachTheOvens :
    let up : List Int := [-90, -90, -62]
    let down : List Int := [-62, -66, -90]
    let near : Source := { oven 3038960 9000 6 6 with state := .acquiring }
    let seen : Source := { oven 3039960 9000 6 6 with matched := true }
    let far : Source := oven 3038959 9000 6 6
    let o : OpenBurst := { start := 3031000, certain := true, peak := -53 }
    let records : List MatchRecord :=
      [{ start := o.start, result := .slot 0 }, { start := o.start, result := .unmatched }, { start := o.start, result := .withdrawn }]
    (∀ e burst record owner, (hearing owner e burst record).inReset = false ∧ (hearing owner e burst record).south.synced = true
        ∧ (hearing owner e burst record).south.radio = .onChannel 6 ∧ ((hearing owner e burst record).slot 0).entry = some e
        ∧ ((hearing owner e burst record).slot 0).owner = owner ∧ (hearing owner e burst record).sources.record = record
        ∧ (e.lawful Settings.default → (hearing owner e burst record).sourcesLawful))
      ∧ (passes .south (burstReport 1 up) = true ∧ passes .south (burstReport 1 down) = true ∧ passes .south (burstReport 0 [-66]) = true)
      ∧ readEnergy (burstReport 1 up).header (burstReport 1 up).payload = some (burstRead true up)
      ∧ readEnergy (burstReport 1 down).header (burstReport 1 down).payload = some (burstRead true down)
      ∧ readEnergy (burstReport 0 [-66]).header (burstReport 0 [-66]).payload = some (burstRead false [-66])
      ∧ (near.lawful Settings.default ∧ seen.lawful Settings.default ∧ far.lawful Settings.default)
      ∧ ((hearing .learn near none none).onlySamplesTeach (burstRead true up))
      ∧ ((hearing .learn near none none).startsBurst (burstRead true up) 2) ∧ (burstRead true up).stampOf 2 = 3039960
      ∧ ((near.error 3039960).natAbs = 1000 ∧ (far.error 3039960).natAbs = 1001 ∧ seen.error 3039960 = distance 3039960 3039960)
      ∧ (hearing .learn near (some o) none).endsBurst (burstRead true down) o 3039896 true
      ∧ (hearing .learn near (some o) none).endsBurst (burstRead false [-66]) o 3039832 false
      ∧ (4000 ≤ (3039896 - o.start).toNat ∧ (3039896 - o.start).toNat ≤ 12000)
      ∧ (∀ v ∈ records, v.start = o.start)
      ∧ (hearing .learn near (some o) none).newSlotIs 1 := by
  have hears : ∀ burst continued samples k, k < 3 →
      (hearing .learn { oven 3038960 9000 6 6 with state := .acquiring } burst none).hearsSample (burstRead continued samples) k := by
    intro burst continued samples k hk older x h _
    have e := (List.append_inj' (t₁ := [_]) (s₁ := []) h rfl).2
    cases e
    have h3 : ∀ k < 3, before (plus 3039832 (k * 64)) (3039832 : Instant) = false := by decide
    exact h3 k hk
  refine ⟨fun e burst record owner => ⟨rfl, rfl, rfl, rfl, rfl, rfl, fun h => ?_⟩, by decide +kernel, by decide +kernel, by decide +kernel,
    by decide +kernel, ?_, ⟨by decide +kernel, by decide +kernel, by decide +kernel⟩, ⟨rfl, ?_, .inl (by decide), ⟨_, rfl, by decide⟩, ?_, ?_⟩,
    by decide, by decide +kernel, ⟨rfl, .inl ⟨rfl, ⟨[], _, rfl, ?_⟩, 1, by decide, ?_, ⟨_, rfl, by decide⟩, ?_, ?_, ?_⟩⟩,
    ⟨rfl, .inr ⟨rfl, ?_, ⟨[], _, rfl, rfl⟩, by decide⟩⟩, by decide, by decide +kernel, by decide +kernel, .inl ⟨by decide +kernel, ?_⟩⟩
  · exact ⟨(tracking_lawful owner 3040000 e [] h).1, (tracking_lawful owner 3040000 e [] h).2.1, (tracking_lawful owner 3040000 e [] h).2.2⟩
  · simp [Source.lawful, oven, Settings.default, isChannel]
  · exact hears _ _ _ _ (by decide)
  · rintro (_ | _ | j) x hj hx _ <;> simp [burstRead] at hx hj
    all_goals subst hx; decide
  · rintro (_ | _ | _ | j) x hj hx <;> simp [burstRead] at hx hj
  · unfold EnergyReport.continuesAt; decide
  · exact hears _ _ _ _ (by decide)
  · rintro (_ | j) x hj hx _ <;> simp [burstRead] at hx hj
    subst hx; decide
  · rintro (_ | _ | j) hj _
    · decide
    · decide
    · omega
  · rintro (_ | _ | _ | j) x hj hx <;> simp [burstRead] at hx hj
    subst hx; decide
  · rintro ⟨_, _, _, h, _⟩
    cases h
  · intro j hj h
    obtain rfl : j = 0 := by omega
    cases h.2

theorem met_UnreadableAndStrayRecordsOnlySetAFlag :
    let energy := originate 6 6 0 0 []
    let radio := originate 8 0 0 0 [1, 15]
    let stat := originate 7 0 0 0 [0, 3, 0, 0, 0, 0, 0, 0]
    let short := originate 7 0 0 0 []
    let x : TxStat := { id := 0, result := .cancelled, start := none, acks := [] }
    let waiting :=
      { released with
        south :=
          { released.south with
            txdata := [{ id := 0, queue := 2, tag := 301, rate := 12, kind := .fitting, ordinals := [0, 1, 2], earliest := 1009200
                         latest := some 1012696, windowEnd := some 1013200, airtime := 444 }] } }
    passes .south energy = true ∧ readEnergy energy.header energy.payload = none ∧ passes .south radio = true
      ∧ readRadio radio.payload = none ∧ passes .south short = true ∧ readTxStat short.payload = none ∧ passes .south stat = true
      ∧ readTxStat stat.payload = some x ∧ linked.inReset = false ∧ linked.south.synced = true
      ∧ (∀ e ∈ linked.gate.table, e.id ≠ x.id) ∧ waiting.south.synced = true ∧ waiting.south.txdataUnsent x.id = true := by
  decide +kernel

/-- A TXSTAT payload of release 0. -/
def answer (result : Byte) (acks : List Byte) : LinkFrame :=
  originate 7 0 0 0 ([0, result, 1, if acks = [] then 0 else 3] ++ toBytes 4 1009230 ++ acks)

theorem met_SentTxStatResolvesItsRelease :
    let read := fun acks : List Bool => ({ id := 0, result := .sent, start := some 1009230, acks } : TxStat)
    passes .south (answer 1 [0xC0]) = true ∧ readTxStat (answer 1 [0xC0]).payload = some (read [true, true, false])
      ∧ passes .south (answer 1 [0xE0]) = true ∧ readTxStat (answer 1 [0xE0]).payload = some (read [true, true, true])
      ∧ (∀ retry state, (releasedOn retry state).inReset = false ∧ (releasedOn retry state).south.synced = true
        ∧ (releasedOn retry state).south.txdataUnsent 0 = false
        ∧ ∃ e ∈ (releasedOn retry state).gate.table, e.id = 0 ∧ e.queue = 2 ∧ e.ordinals = [0, 1, 2])
      ∧ (∀ retry, (releasedOn retry .opened).releasesLawful ∧ (releasedOn retry .draining).releasesLawful)
      ∧ (∀ retry state, ((releasedOn retry state).queue 2).descriptors = releasedHead :: []
        ∧ ((releasedOn retry state).queue 2).config.retry = retry ∧ ((releasedOn retry state).queue 2).state = state)
      ∧ releasedHead.subframes.map Subframe.attempts = [1, 1, 1]
      ∧ ∀ e ∈ released.gate.table, (read []).malformedFor e = true ∧ (read [true, true, false]).malformedFor e = false :=
  ⟨by decide +kernel, by decide +kernel, by decide +kernel, by decide +kernel,
    fun _ _ => ⟨rfl, rfl, rfl, _, List.mem_singleton.2 rfl, rfl, rfl, rfl⟩,
    fun r => ⟨releasedOn_lawful r _ (.inl rfl), releasedOn_lawful r _ (.inr rfl)⟩, fun _ _ => ⟨rfl, rfl, rfl⟩, by decide,
    by decide +kernel⟩

theorem met_UnsentTxStatRestoresTheSubframes :
    let read : TxStat := { id := 0, result := .expired, start := some 1009230, acks := [] }
    passes .south (answer 2 []) = true ∧ (answer 2 []).header.kind = 7 ∧ readTxStat (answer 2 []).payload = some read
      ∧ read.result ≠ .sent ∧ released.inReset = false ∧ released.south.synced = true ∧ released.releasesLawful
      ∧ (∃ e ∈ released.gate.table, e.id = read.id ∧ e.queue = 2 ∧ e.ordinals ≠ []) ∧ released.south.txdataUnsent read.id = false
      ∧ (∃ d rest, (released.queue 2).descriptors = d :: rest) ∧ (released.queue 2).state ≠ .draining
      ∧ (releasedOn 1 .draining).releasesLawful ∧ ((releasedOn 1 .draining).queue 2).state = .draining := by
  refine ⟨by decide +kernel, rfl, by decide +kernel, by decide, rfl, rfl, released_lawful,
    ⟨_, List.mem_singleton.2 rfl, rfl, rfl, by decide⟩, by decide +kernel, ⟨_, _, rfl⟩, by decide +kernel,
    releasedOn_lawful 1 _ (.inr rfl), rfl⟩

theorem met_RadioRecordMovesTheRadio :
    let channel := originate 8 0 0 0 [1, 14]
    let away := originate 8 0 0 0 [2, 0]
    let back := originate 8 0 0 0 [3, 0]
    let gone := { onAir with south := { onAir.south with radio := .away } }
    passes .south channel = true ∧ readRadio channel.payload = some (.channel 14) ∧ passes .south away = true
      ∧ readRadio away.payload = some .away ∧ passes .south back = true ∧ readRadio back.payload = some .back
      ∧ onAir.inReset = false ∧ onAir.south.synced = true ∧ onAir.south.radio = .onChannel 6 ∧ gone.south.radio = .away
      ∧ gone.south.lastChannel = some 6 ∧ gone.south.synced = true ∧ linked.south.synced = true
      ∧ linked.south.radio = .down := by decide +kernel

/-- A TXDONE record of a refusal, and a state whose north output holds what is given. -/
def refusal : TxDone := refusalRecord (header 1 1) .refusedFull 1 999000

def northHolding (resend : Option NorthItem) (status : List StatusFrame) (filled : List TxDone) (pass : List LinkFrame)
    (last : SharedKind) : State :=
  { linked with
    fifo := { reserved := 0, filled }
    north := { linked.north with resend, status, passBuffer := pass, lastShared := last } }

/-- The state in which the north transmitter sends an item. -/
def northSendingItem (item : NorthItem) : State :=
  { linked with north := { linked.north with sending := some { item, frame := beaconFrame 0 } } }

theorem met_NorthOutputChoosesByRank :
    (∀ resend status filled pass last, (northHolding resend status filled pass last).inReset = false
        ∧ (northHolding resend status filled pass last).north.synced = true
        ∧ (northHolding resend status filled pass last).north.sending = none
        ∧ (northHolding resend status filled pass last).north.resend = resend
        ∧ (northHolding resend status filled pass last).north.status = status
        ∧ (northHolding resend status filled pass last).fifo.filled = filled
        ∧ (northHolding resend status filled pass last).north.passBuffer = pass
        ∧ (northHolding resend status filled pass last).north.lastShared = last)
      ∧ (∃ g, (northHolding (some (.txdone refusal true)) [.notice] [refusal] [] .txdone).itemFrame (.txdone refusal true) = some g)
      ∧ ∀ item, (northSendingItem item).inReset = false ∧ ∃ x, (northSendingItem item).north.sending = some x ∧ x.item = item :=
  ⟨fun _ _ _ _ _ => ⟨rfl, rfl, rfl, rfl, rfl, rfl, rfl, rfl⟩, ⟨_, rfl⟩, fun _ => ⟨rfl, _, rfl, rfl⟩⟩

/-- The release record of the released head, waiting in the south output. -/
def waitingRelease : ReleaseRecord :=
  { id := 0, queue := 2, tag := 301, rate := 12, kind := .fitting, ordinals := [0, 1, 2], earliest := 1009200
    latest := some 1012696, windowEnd := some 1013200, airtime := 444 }

theorem met_SouthOutputSendsCancelsFirst :
    let holding := fun (cancels : List CancelRecord) (txdata : List ReleaseRecord) =>
      { released with south := { released.south with cancels, txdata } }
    let sending := fun item : SouthItem =>
      { released with south := { released.south with sending := some { item, frame := beaconFrame 0 } } }
    (∀ cancels txdata, (holding cancels txdata).inReset = false ∧ (holding cancels txdata).south.synced = true
        ∧ (holding cancels txdata).south.sending = none ∧ (holding cancels txdata).south.cancels = cancels
        ∧ (holding cancels txdata).south.txdata = txdata
        ∧ ((holding cancels txdata).queue waitingRelease.queue).head = some releasedHead)
      ∧ ∀ item, (sending item).inReset = false ∧ ∃ x, (sending item).south.sending = some x ∧ x.item = item :=
  ⟨fun _ _ => ⟨rfl, rfl, rfl, rfl, rfl, rfl⟩, fun _ => ⟨rfl, _, rfl, rfl⟩⟩

/-- What queue 2 offers in the window of 4000 µs. -/
theorem releasing_offer :
    (releasing 1009200 1013200).offer 2 = some (head301, rate12, { kind := .fitting, count := 3 }) := by decide +kernel

theorem met_ArbiterReleasesTheChosenHead :
    let s := releasing 1009200 1013200
    let shut := { s with window := { s.window with status := .blocked } }
    (s.inReset = false ∧ s.south.synced = true ∧ s.south.txdata = [] ∧ s.south.sending = none ∧ s.gate.table.length < 2
        ∧ (s.queue 2).request = true ∧ (s.queue 2).config.priority = (2 : Fin 4).val)
      ∧ (∀ p, (s.queue p).request = true → p = 2)
      ∧ s.offer 2 = some (head301, rate12, { kind := .fitting, count := 3 })
      ∧ (shut.inReset = false ∧ shut.south.synced = true ∧ shut.south.txdata = [] ∧ shut.south.sending = none
        ∧ shut.gate.table.length < 2 ∧ (shut.queue 2).request = true)
      ∧ (∀ p, (shut.queue p).request = true → (shut.queue p).config.priority ≤ 3 ∧ shut.offer p = none)
      ∧ State.reset.south.synced = false := by decide +kernel

theorem met_FittingReleaseStaysInItsWindow :
    (releasing 1009200 1013200).offer 2 = some (head301, rate12, { kind := .fitting, count := 3 })
      ∧ (releasing 1019300 1019700).offer 2 = some (head301, rate12, { kind := .fitting, count := 1 })
      ∧ 1 < head301.pendingEntries.length ∧ (1 : Nat) ≤ 3 := by decide +kernel

theorem met_AirtimeIsPricedByTheRateTable : 1 ≤ 3 ∧ 3 ≤ head301.pendingEntries.length := by decide +kernel

/-- A head of queue 2 under a mode and a window status, with a window of W µs; the ring runs with one reservation. -/
def judging (mode : ReleaseMode) (aged waited : Bool) (status : WindowStatus) (W duration : Nat) : State :=
  let s := withHead onAir { head301 with aged, waited }
  { s with
    queues := s.queues.set 2 { (s.queue 2) with config := { config2 with mode } }
    window := { s.window with status, horizon := some (plus 1000000 W) }
    ring :=
      { Ring.powerOn with
        entries := Ring.powerOn.entries.set 0 (reservation 1000000 duration 1), running := true
        endTimer := some (plus 1000000 duration) } }

theorem met_JudgementFollowsTheReleaseMode :
    let rq := head301.required rate12 60
    let W := fun (s : State) (n : Nat) => (plus 1000000 n - s.releaseStart).toNat
    let covered := fun s : State =>
      s.ring.running = true ∧ atOrBefore (s.ring.entry s.ring.current).start s.releaseStart = true
        ∧ before s.releaseStart (plus (s.ring.entry s.ring.current).start (s.ring.entry s.ring.current).duration) = true
    (∀ mode aged waited status n duration,
        ((judging mode aged waited status n duration).queue 2).head = some { head301 with aged, waited }
        ∧ (judging mode aged waited status n duration).rate 12 = some rate12
        ∧ ((judging mode aged waited status n duration).queue 2).state = .opened
        ∧ ((judging mode aged waited status n duration).queue 2).config.mode = mode
        ∧ (judging mode aged waited status n duration).south.radio = .onChannel 6
        ∧ (judging mode aged waited status n duration).window.status = status)
      ∧ head301.outstanding = none ∧ head301.pendingEntries ≠ [] ∧ (released.queue 2).head = some releasedHead
      ∧ releasedHead.outstanding ≠ none ∧ released.rate releasedHead.rate = some rate12
      ∧ covered (judging .ungated false false .opened 4000 1) ∧ ¬ covered (judging .ungated false false .opened 4000 0)
      ∧ covered (judging .gated false false .saturated 0 1) ∧ ¬ covered (judging .gated false false .saturated 0 0)
      ∧ before (judging .gated false false .opened 0 0).releaseStart (plus 1000000 0) = false
      ∧ before (judging .gated false false .opened 284 0).releaseStart (plus 1000000 284) = true
      ∧ rq 1 ≤ W (judging .gated false false .opened 284 0) 284 ∧ W (judging .gated true false .opened 283 0) 283 < rq 1
      ∧ before (judging .fresh false false .opened 283 0).releaseStart (plus 1000000 283) = true := by
  refine ⟨fun _ _ _ _ _ _ => ⟨rfl, rfl, rfl, rfl, rfl, rfl⟩, ?_⟩
  decide +kernel

theorem met_ExpiriesActOnceTheirInstantIsReached :
    let waits := fun (s : State) (timer : Option Instant) => ∀ a, timer = some a → atOrBefore a s.clock.now = false
    let s :=
      { withHead onAir head301 with
        queues := onAir.queues.set 2 { openQueue2 with descriptors := [head301], aging := some 1000000 }
        window := { onAir.window with timer := some 1000000 }
        gate := { released.gate with committed := some 1000000 }
        detector := { onAir.detector with spans := [{ start := 900000, stop := 950000 }], agingTimer := some 1000000 }
        ring := { Ring.powerOn with
                  entries := Ring.powerOn.entries.set 0 { reservation 1000000 500 1 with loadTimer := some 1000000 } }
        events := { onAir.events with noticeDue := true, pacing := some 1000000 } }
    let old := State.at' released (plus 1009200 1073741824)
    let gone : List Span := [{ start := 1, stop := 2 }, { start := 3, stop := 1000000 - 1073741824 }]
    let y : Span := { start := 1000000 - 1073741824, stop := 1000001 - 1073741824 }
    waits onAir (some 1000001) ∧ waits onAir none ∧ onAir.gate.table = []
      ∧ (∀ e ∈ released.gate.table, atOrBefore (plus e.stamp 1073741824) released.clock.now = false)
      ∧ s.inReset = false ∧ s.clock.now = 1000000 ∧ atOrBefore 1000000 s.clock.now = true ∧ (s.queue 2).aging = some 1000000
      ∧ (s.queue 2).descriptors = [head301] ∧ s.window.timer = some 1000000 ∧ s.gate.committed = some 1000000
      ∧ (∃ e, old.gate.table = [] ++ e :: [] ∧ atOrBefore (plus e.stamp 1073741824) old.clock.now = true)
      ∧ s.detector.agingTimer = some 1000000 ∧ s.detector.spans = [{ start := 900000, stop := 950000 }]
      ∧ s.south.radio = .onChannel 6 ∧ gone ≠ []
      ∧ (∀ x ∈ gone.tail, atOrBefore (plus x.stop 1073741824) s.clock.now = true)
      ∧ atOrBefore (plus y.stop 1073741824) s.clock.now = false
      ∧ (s.ring.entry 0).loadTimer = some 1000000 ∧ s.events.pacing = some 1000000 ∧ s.events.noticeDue = true
      ∧ s.north.noticeWaits = false ∧ s.north.noticeSending = false := by
  refine ⟨fun a h => ?_, fun a h => (by cases h), rfl, by decide +kernel, rfl, rfl, by decide, rfl, rfl, rfl, rfl, ⟨_, rfl, by decide⟩, rfl, rfl,
    rfl, by decide, by decide, by decide, rfl, rfl, rfl, rfl, rfl⟩
  cases h
  decide

theorem met_SearchFindsTheFirstClearInstant :
    (tracking .learn 1009200 ovenA []).sourcesLawful ∧ (tracking .learn 1009200 ovenA []).south.radio = .onChannel 6
      ∧ (tracking .learn 1009200 ovenA []).busyNear (tracking .learn 1009200 ovenA []).releaseStart := by
  refine ⟨tracking_lawful _ _ _ _ ovenA_lawful, rfl, ?_, fun h => absurd h (by decide)⟩
  decide +kernel

/-- Release 0 outstanding beside an oven in slot 0. -/
def meeting (e : Source) : State := { tracking .learn 1009250 e [] with queues := released.queues, gate := released.gate }

theorem met_BusyAdditionsCancelWhatTheyMeet :
    let e := oven 1011000 3000 1 14
    (∀ n, linked.south.radio ≠ .onChannel n) ∧ (meeting e).south.radio = .onChannel 6 ∧ (meeting e).sourcesLawful
      ∧ (∀ x ∈ (meeting e).gate.table, (meeting e).busyNear x.earliest
        ∧ ∀ w, x.windowEnd = some w → 1 ≤ (w - x.earliest).toNat ∧ (w - x.earliest).toNat ≤ 65535)
      ∧ ∃ x ∈ (meeting e).gate.table, (meeting e).cancelledBy (.source 0) x := by
  have law : (oven 1011000 3000 1 14).lawful Settings.default := by simp [Source.lawful, oven, Settings.default, isChannel]
  have t := tracking_lawful .learn 1009250 (oven 1011000 3000 1 14) [] law
  refine ⟨fun n h => (by cases h), rfl, ⟨t.1, t.2.1, t.2.2⟩, fun x hx => ?_, _, List.mem_singleton.2 rfl, rfl, rfl, rfl, 1012696, 1013200, rfl,
    rfl, by decide, 1500, by decide, _, rfl, by decide +kernel, 0, by decide +kernel, by decide +kernel⟩
  rcases List.mem_singleton.1 hx with rfl
  refine ⟨⟨by decide +kernel, fun h => absurd h (by decide)⟩, fun w h => ?_⟩
  cases h
  decide

theorem met_CheckTimerExpiryJudgesTheOccurrence :
    let s := fun e spans => tracking .learn 1001000 e spans
    let span : Instant → Instant → Span := fun start stop => { start, stop }
    (∀ owner e spans, (tracking owner 1001000 e spans).inReset = false
        ∧ ((tracking owner 1001000 e spans).slot 0).timer = some (plus e.start 1000)
        ∧ ((tracking owner 1001000 e spans).slot 0).entry = some e
        ∧ ((tracking owner 1001000 e spans).slot 0).owner = owner)
      ∧ atOrBefore (plus ovenA.start 1000) 1001000 = true
      ∧ (∀ e spans, captureOf (s e spans).settings ovenA.kind = 1000)
      ∧ atOrBefore (plus (plus ovenA.start ovenA.period) 1000) 1001000 = false
      ∧ ovenA.matched = false ∧ (∀ e spans, ovenA.kind.appliesTo (s e spans).south.radio = true)
      ∧ (SourceKind.oven 7 14).appliesTo (s ovenA []).south.radio = false ∧ (s ovenA []).detector.spans = []
      ∧ (s ovenA [span 999000 1001000]).covered 999000 1001000 = true
      ∧ (s ovenA [span 999000 1000999]).covered 999000 1001000 = false
      ∧ (s ovenA [span 999000 1000999]).covered 999000 1000999 = true ∧ before 1000999 (1001000 : Instant) = true
      ∧ before 999000 (1000999 : Instant) = true
      ∧ (s ovenA [span 1000000 1000999]).covered 999000 1001000 = false
      ∧ (s ovenA [span 1000000 1000999]).covered 999000 1000999 = false
      ∧ (s ovenA []).settings.missLimit = 6 ∧ ({ ovenA with missRun := 4 } : Source).missRun + 1 < 6
      ∧ 6 ≤ ({ ovenA with missRun := 5 } : Source).missRun + 1 ∧ ovenA.state ≠ .acquiring
      ∧ ({ ovenA with state := .acquiring } : Source).state = .acquiring
      ∧ ({ ovenA with matched := true } : Source).matched = true :=
  ⟨fun _ _ _ => ⟨rfl, rfl, rfl, rfl⟩, by decide, fun _ _ => rfl, by decide, rfl, fun _ _ => rfl, rfl, rfl, by decide +kernel,
    by decide +kernel, by decide +kernel, by decide, by decide, by decide +kernel, by decide +kernel, rfl, by decide, by decide, by decide, rfl,
    rfl⟩

/-- A LOCKED BEACON of channel 6. -/
def beacon77 : Source :=
  { kind := .beacon 6 77, state := .locked, start := 1000000, period := 102400, duration := 1200, matchCount := 2, missRun := 0
    matched := false }

/-- The same BEACON in slots 0 and 1, each with its owner. -/
def beacons (owner0 owner1 : Owner) : State :=
  (onAir.setSlot 0 { learned beacon77 with owner := owner0 }).setSlot 1 { learned beacon77 with owner := owner1 }

theorem met_SourceCommandsMoveOwnership :
    (∀ a b code target data, (giving (beacons a b) { code, target, data }).executes (listOf { code, target, data }) { code, target, data })
      ∧ 16 ≤ (16 : Byte).toNat ∧ 16 ≤ (255 : Byte).toNat
      ∧ (0 : Byte).toNat = (0 : Fin 16).val ∧ 32 ≤ (listOf { code := 48, target := 0, data := [] }).room
      ∧ ((beacons .learn .learn).slot 0).owner = .learn ∧ ((beacons .host .learn).slot 0).owner = .host
      ∧ (∃ e, ((beacons .host .learn).slot 0).entry = some e ∧ ((beacons .host .learn).slot 1).entry = some e
        ∧ ((beacons .host .learn).slot 1).owner = .learn ∧ e.kind = .beacon 6 77)
      ∧ (∀ j, ((beacons .host .host).slot j).owner = .learn → ((beacons .host .host).slot j).entry = none)
      ∧ (onAir.slot 0).entry = none :=
  ⟨fun _ _ _ _ _ => giving_executes _ _ rfl, by decide, by decide, rfl, by decide, by decide +kernel, by decide +kernel,
    ⟨beacon77, by decide +kernel, by decide +kernel, by decide +kernel, rfl⟩, by decide +kernel, by decide +kernel⟩

/-- The data of a WRITE_SOURCE, written out from Table 11-11: an OVEN of span 1 to 11, LOCKED, S 1 000 000, P 20 000, D 9000. -/
def writeData : List Byte :=
  [0, 1, 2, 0] ++ toBytes 4 1000000 ++ toBytes 4 20000 ++ toBytes 4 9000 ++ [1, 11, 0, 0, 0, 0, 0, 0, 3, 0] ++ toBytes 4 0

theorem met_WriteSourceAlignsAHostEntry :
    (∀ owner target data, (giving (beacons owner .learn) { code := 49, target, data }).executes (listOf { code := 49, target, data })
        { code := 49, target, data })
      ∧ 16 ≤ (16 : Byte).toNat ∧ 16 ≤ (255 : Byte).toNat ∧ (0 : Byte).toNat = (0 : Fin 16).val ∧ ((beacons .learn .learn).slot 0).owner = .learn
      ∧ ((beacons .host .learn).slot 0).owner = .host
      ∧ readSourceImage (beacons .host .learn).settings (beacons .host .learn).clock.now [] = none
      ∧ readSourceImage (beacons .host .learn).settings (beacons .host .learn).clock.now writeData = some ovenA :=
  ⟨fun _ _ _ => giving_executes _ _ rfl, by decide, by decide, rfl, by decide +kernel, by decide +kernel, by decide +kernel,
    by decide +kernel⟩

/-- The ring runs at index 0 with a given current and next entry; the current end is reached. -/
def walking (current next : RingEntry) : State :=
  { State.at' onAir 1000500 with
    ring :=
      { Ring.powerOn with
        entries := (Ring.powerOn.entries.set 0 current).set 1 next, running := true, endTimer := some 1000500 } }

theorem met_RingWalkConsumesAndAdvances :
    let e := reservation 1000000 500 1
    let next := fun s : State => (s.ring.entries.set 0 { (s.ring.entry 0) with valid := false })[(1 : Fin 32)]
    (∀ current n, (walking current n).inReset = false ∧ (walking current n).ring.running = true
        ∧ (walking current n).ring.endTimer = some 1000500)
      ∧ atOrBefore 1000500 (1000500 : Instant) = true
      ∧ ((walking { e with last := true } e).ring.entry 0).last = true ∧ ((walking e RingEntry.powerOn).ring.entry 0).last = false
      ∧ (next (walking e RingEntry.powerOn)).valid = false ∧ (next (walking e (reservation 1000400 101 2))).valid = true
      ∧ (next (walking e (reservation 1000400 101 2))).stale = false
      ∧ atOrBefore (next (walking e (reservation 1000400 101 2))).stop 1000500 = false
      ∧ atOrBefore (next (walking e (reservation 1000400 100 2))).stop 1000500 = true
      ∧ (next (walking e { reservation 1000400 101 2 with stale := true })).stale = true :=
  ⟨fun _ _ => ⟨rfl, rfl, rfl⟩, by decide +kernel⟩

/-- The data of a LOAD_RESERVATIONS of one valid entry. -/
def loadData : List Byte := [1, 9] ++ toBytes 2 65535 ++ toBytes 4 1000400

theorem met_RingCommandsStartStopAndLoad :
    let idle := { walking (reservation 1000400 101 1) RingEntry.powerOn with
                  ring :=
                    { Ring.powerOn with
                      entries :=
                        ((Ring.powerOn.entries.set 0 (reservation 1000400 101 1)).set 1
                          { reservation 1000400 101 1 with stale := true }).set 2 (reservation 1000400 100 1) } }
    let running := walking (reservation 1000400 101 1) RingEntry.powerOn
    let late : List Byte := [1, 9] ++ toBytes 2 0 ++ toBytes 4 1000400
    let far : List Byte := [1, 9] ++ toBytes 2 1 ++ toBytes 4 (1000500 + 1073741824)
    (∀ code target data, (giving idle { code, target, data }).executes (listOf { code, target, data }) { code, target, data }
        ∧ (giving running { code, target, data }).executes (listOf { code, target, data }) { code, target, data })
      ∧ (0 : Byte).toNat = (0 : Fin 32).val ∧ (31 : Byte).toNat = (31 : Fin 32).val
      ∧ running.ring.running = true ∧ idle.ring.running = false ∧ (idle.ring.entry 31).valid = false
      ∧ (idle.ring.entry 0).valid = true ∧ (idle.ring.entry 0).stale = false
      ∧ atOrBefore (idle.ring.entry 0).stop idle.clock.now = false
      ∧ (running.ring.current - (0 : Fin 32)).val < loadData.length / 8 ∧ ¬ (running.ring.current - (1 : Fin 32)).val < 1
      ∧ loadData.length = 8 * 1
      ∧ (∀ k, k < 1 → ringEntryAccepted running.clock.now (readRingEntry ((loadData.drop (8 * k)).take 8)) = true)
      ∧ ([] : List Byte).length = 0 ∧ [(0 : Byte)].length % 8 ≠ 0 ∧ 32 ≤ (32 : Byte).toNat
      ∧ (idle.ring.entry 1).valid = true ∧ (idle.ring.entry 1).stale = true ∧ (idle.ring.entry 2).valid = true
      ∧ atOrBefore (idle.ring.entry 2).stop idle.clock.now = true ∧ (readRingEntry (late.take 8)).duration = 0 ∧ 0 < late.length / 8
      ∧ (readRingEntry (far.take 8)).valid = true
      ∧ 1073741824 ≤ (distance running.clock.now (readRingEntry (far.take 8)).start).natAbs :=
  ⟨fun _ _ _ => ⟨giving_executes _ _ rfl, giving_executes _ _ rfl⟩, by decide +kernel⟩

theorem met_SurveyCommandsReadAndClear :
    (∀ code target data, (giving onAir { code, target, data }).executes (listOf { code, target, data }) { code, target, data })
      ∧ 112 ≤ (listOf { code := 80, target := 0, data := [] }).room ∧ (1 : Byte).toNat = (0 : Fin 14).val + 1
      ∧ (14 : Byte).toNat = (13 : Fin 14).val + 1 ∧ 15 ≤ (15 : Byte).toNat ∧ (254 : Byte).toNat ≤ 254
      ∧ onAir.southArriving (report 0) ∧ readEnergy (report 0).header (report 0).payload = some (reportRead false)
      ∧ (reportRead false).channel = (5 : Fin 14).val + 1 ∧ onAir.detector.survey[(5 : Fin 14)] = { listen := 0, busy := 0 } :=
  ⟨fun _ _ _ => giving_executes _ _ rfl, by decide, by decide, by decide, by decide, by decide, ⟨rfl, rfl, reports_arrive.1⟩,
    reports_arrive.2.2.1, rfl, by decide +kernel⟩

/-- The configuration of queue 2 as OPEN_QUEUE carries it, written out from Table 11-11. -/
def openData : List Byte := [2, 0, 64, 0, 50, 0, 60, 1, 0, 1]

/-- Queue 2 in a state, with tag 301 at its head. -/
def queueIn (state : QueueState) : State :=
  { withHead onAir head301 with queues := onAir.queues.set 2 { openQueue2 with state, descriptors := [head301] } }

theorem met_QueueCommandsChangeTheirQueues :
    (∀ state code target data,
        (giving (queueIn state) { code, target, data }).executes (listOf { code, target, data }) { code, target, data })
      ∧ (∀ state, ((queueIn state).queue 2).state = state) ∧ (2 : Byte).toNat = (2 : Fin 16).val
      ∧ (15 : Byte).toNat = (15 : Fin 16).val ∧ ((queueIn .opened).queue 15).state = .closed
      ∧ ((queueIn .opened).queue 15).descriptors = [] ∧ readQueueConfig [] = none
      ∧ readQueueConfig openData = some config2 ∧ (∀ q ∈ [(2 : Fin 16)], ((queueIn .paused).queue q).state = .paused)
      ∧ 16 ≤ (16 : Byte).toNat ∧ 16 ≤ (254 : Byte).toNat ∧ (254 : Byte) ≠ 255 ∧ 16 ≤ (255 : Byte).toNat :=
  ⟨fun _ _ _ _ => giving_executes _ _ rfl, fun _ => rfl, by decide +kernel⟩

theorem met_DrainCompletesWaitingDescriptors :
    (∀ state target,
        (giving (queueIn state) { code := 19, target, data := [] }).executes (listOf { code := 19, target, data := [] })
          { code := 19, target, data := [] })
      ∧ (∀ state, ((queueIn state).queue 2).state = state) ∧ (2 : Byte).toNat = (2 : Fin 16).val
      ∧ (((queueIn .paused).queue 2).descriptors.filter fun d => d.outstanding.isSome) = []
      ∧ ((released.queue 2).descriptors.filter fun d => d.outstanding.isSome) ≠ [] :=
  ⟨fun _ _ => giving_executes _ _ rfl, fun _ => rfl, by decide, by decide, by decide⟩

theorem met_RateCommandsWriteAndRead :
    let data : List Byte := [100, 0x3E, 0x80, 0x0F, 0xA0, 64]
    (∀ code target data, (giving (queueIn .opened) { code, target, data }).executes (listOf { code, target, data })
        { code, target, data })
      ∧ 64 ≤ (64 : Byte).toNat ∧ (63 : Byte).toNat = (63 : Fin 64).val ∧ data.length = 6
      ∧ (field data 0 1 ≤ 100 ∧ 1000 ≤ field data 1 2 ∧ field data 1 2 ≤ 16000 ∧ 6 ≤ field data 3 2 ∧ field data 3 2 ≤ 4000
        ∧ field data 5 1 ≤ 64)
      ∧ ¬ field [101, 0x3E, 0x80, 0x0F, 0xA0, 64] 0 1 ≤ 100 ∧ 7 ≤ (listOf { code := 33, target := 0, data := [] }).room
      ∧ (queueIn .opened).rate 63 = none ∧ (12 : Byte).toNat = (12 : Fin 64).val ∧ (queueIn .opened).rate 12 = some rate12 :=
  ⟨fun _ _ _ => giving_executes _ _ rfl, by decide +kernel⟩

/-- A command whose list has a given room left. -/
def givingRoom (c : Command) (room : Nat) : State :=
  { onAir with engine := { onAir.engine with executing := .executing { listOf c with room } } }

theorem met_ReadCommandsReturnRecordsUnchanged :
    (∀ c room, (givingRoom c room).executes { listOf c with room } c)
      ∧ (queueImage (onAir.queue 2)).length ≤ 31 ∧ 30 < (queueImage (onAir.queue 2)).length
      ∧ (0 : Byte).toNat = (0 : Fin 16).val ∧ 1 ≤ (16 : Byte).toNat ∧ (0 : Byte).toNat + (16 : Byte).toNat ≤ 16
      ∧ (15 : Byte).toNat + (1 : Byte).toNat ≤ 16 ∧ 16 ≤ (16 : Byte).toNat ∧ (15 : Byte).toNat < 16 ∧ 16 < (15 : Byte).toNat + (2 : Byte).toNat
      ∧ ([] : List Byte).length ≠ 1 ∧ (ringImage onAir.ring).length ≤ 262 ∧ 261 < (ringImage onAir.ring).length
      ∧ (settingsImage onAir.settings).length ≤ 31 ∧ 30 < (settingsImage onAir.settings).length
      ∧ (snapshotImage onAir).length ≤ 110 ∧ 109 < (snapshotImage onAir).length := by
  refine ⟨fun _ _ => ⟨⟨rfl, rfl, rfl⟩, rfl⟩, ?_⟩
  simp

theorem met_LoadSettingsReplacesTheRecord :
    let u := fun p : Instant => { onAir with events := { onAir.events with pacing := some p, lastNotice := some 990000 } }
    (∀ data, (giving (tracking .learn 1000000 ovenA []) { code := 96, target := 0, data }).executes
        (listOf { code := 96, target := 0, data }) { code := 96, target := 0, data })
      ∧ readSettingsImage [] = none ∧ readSettingsImage (settingsImage Settings.default) = some Settings.default
      ∧ (giving (tracking .learn 1000000 ovenA []) { code := 96, target := 0, data := [] }).sourcesLawful
      ∧ (∀ i, (onAir.slot i).entry = none)
      ∧ (∀ i e, ((tracking .learn 1000000 ovenA []).slot i).entry = some e →
          atOrBefore (plus e.start (captureOf Settings.default e.kind)) 1000000 = false)
      ∧ onAir.events.pacing = none
      ∧ (∀ p, (u p).events.pacing = some p ∧ (u p).events.lastNotice = some 990000 ∧ (u p).events.noticeDue = false)
      ∧ atOrBefore (plus 990000 (10 * 1000)) (1000000 : Instant) = true ∧ atOrBefore (plus 990000 (11 * 1000)) (1000000 : Instant) = false := by
  have t := tracking_lawful .learn 1000000 ovenA [] ovenA_lawful
  refine ⟨fun _ => giving_executes _ _ rfl, by decide +kernel, by decide +kernel, ⟨t.1, t.2.1, t.2.2⟩, by decide +kernel, fun i e he => ?_, rfl,
    fun _ => ⟨rfl, rfl, rfl⟩, by decide, by decide⟩
  by_cases h : i = 0
  · subst h
    cases he
    decide
  · rw [tracking_others _ _ _ _ i h] at he
    cases he

theorem met_EventCommandsWriteEnablesAndClearFlags :
    (∀ code target data, (giving onAir { code, target, data }).executes (listOf { code, target, data }) { code, target, data })
      ∧ ([0x40, 0] : List Byte).length = 2 ∧ 16384 ≤ field [0x40, 0] 0 2 ∧ field [0x3F, 0xFF] 0 2 < 16384
      ∧ (1 : Byte) ≠ 0 ∧ (1 : Byte) ≠ 255 := ⟨fun _ _ _ => giving_executes _ _ rfl, by decide +kernel⟩

theorem met_ResetUnknownAndBrokenCommandsAreReported :
    let broken :=
      { linked with
        engine :=
          { linked.engine with
            executing := .executing { listOf { code := 0, target := 0, data := [] } with commands := [], tail := [98, 0, 0] } } }
    (∀ code target data, (giving linked { code, target, data }).executes (listOf { code, target, data }) { code, target, data })
      ∧ 2 ≤ (2 : Byte).toNat ∧ (15 : Byte) ∉ knownCodes ∧ broken.inReset = false
      ∧ (∃ l, broken.engine.executing = .executing l ∧ l.commands = [] ∧ l.tail = [98, 0, 0]) ∧ [(98 : Byte), 0, 0] ≠ [] :=
  ⟨fun _ _ _ => giving_executes _ _ rfl, by decide, by decide, rfl, ⟨_, rfl, rfl, rfl⟩, by decide⟩

theorem met_EachCommandIsAnsweredOnce :
    let c : Command := { code := 67, target := 0, data := [] }
    let cut := { listOf c with truncated := true }
    (Instr.readRing 0 []).asCommand = some c ∧ (Instr.readRing 0 []).wellFormed = true ∧ (giving linked c).atCommand (listOf c) c
      ∧ { linked with engine := { linked.engine with executing := .executing cut } }.atCommand cut c ∧ cut.truncated = true :=
  ⟨rfl, by decide, (giving_executes _ _ rfl).1, ⟨rfl, rfl, rfl⟩, rfl⟩

theorem met_CommandListsReadBack :
    (∀ c ∈ [({ code := 52, target := 0, data := [16] } : Command)], c.data.length < 65536) ∧ isBrokenTail [98, 0, 0] = true := by
  decide

theorem met_RecordImagesReadBack :
    Settings.default.consistent = true ∧ (∃ c, readSettingsImage (settingsImage Settings.default) = some c)
      ∧ (config2.priority ≤ 3 ∧ 1 ≤ config2.depth ∧ config2.depth ≤ 1024 ∧ 1 ≤ config2.hold ∧ config2.hold ≤ 1000
        ∧ config2.ack ≤ 500 ∧ config2.retry ≤ 15)
      ∧ readQueueConfig openData = some config2
      ∧ readRateImage [36, 0x0F, 0xA0, 1, 4, 22] = some rate12
      ∧ (rate12.preamble ≤ 100 ∧ 1000 ≤ rate12.symbol ∧ rate12.symbol ≤ 16000 ∧ 6 ≤ rate12.bits ∧ rate12.bits ≤ 4000
        ∧ rate12.fixedBits ≤ 64)
      ∧ (reservation 1000000 65535 1).duration ≤ 65535
      ∧ ovenA.lawful Settings.default ∧ (learned ovenA).entry = some ovenA ∧ (distance 1073741823 (0 : Instant)).natAbs < 1073741824
      ∧ (onAir.slot 0).entry = none ∧ readSourceImage Settings.default 1000000 [] = none
      ∧ readSourceImage Settings.default 1000000 writeData = some ovenA ∧ writeData.length = 30
      ∧ 9000 + (Settings.default.guardLead + Settings.default.guardTrail + 256) ≤ 20000 :=
  ⟨by decide +kernel, ⟨Settings.default, by decide +kernel⟩, by decide +kernel, by decide +kernel, by decide +kernel,
    by decide +kernel, by decide +kernel, ovenA_lawful, rfl, by decide, by decide +kernel, by decide +kernel, by decide +kernel, by decide,
    by decide⟩

/-! ### States that meet the laws, and a step from each -/

theorem met_AttnFollowsTheFlags :
    let c : Command := { code := 100, target := 255, data := [] }
    onAir.events.lawful ∧ (∃ t, step (onAir.withFront .airClockAdvance) = .next t)
      ∧ (complete linked (some .full)).inReset = false ∧ (complete linked (some .full)).north.responseWaits = false
      ∧ (∃ l, (complete linked (some .full)).engine.executing = .holding l ∧ l.reset = some .full)
      ∧ (giving onAir c).executes (listOf c) c :=
  ⟨rfl, ⟨_, rfl⟩, rfl, rfl, ⟨_, rfl, rfl⟩, giving_executes _ _ rfl⟩

/-- The numbers of an ascending free list do not repeat. -/
theorem ascending_nodup (n w : Nat) (h : n ≤ 2 ^ w) : ((List.range' 0 n).map (BitVec.ofNat w)).Nodup := by
  refine (List.nodup_range' (step := 1)).map_on fun x hx y hy e => ?_
  simp only [List.mem_range'_1] at hx hy
  have h1 := congrArg BitVec.toNat e
  simpa [Nat.mod_eq_of_lt (show x < 2 ^ w by omega), Nat.mod_eq_of_lt (show y < 2 ^ w by omega)] using h1

/-- Nor do they fall short. -/
theorem powerOn_lengths : FrameStore.powerOn.freeCells.length = 4096 ∧ FrameStore.powerOn.freeDescriptors.length = 1024 := by
  simp only [FrameStore.powerOn, List.length_map, List.length_range', Config.cells, Config.descriptors, and_self]

theorem met_StorageIsNeverLost :
    let s := linked.withFront .airClockAdvance
    s.storageLawful ∧ s.store.memory.wf = true ∧ ∃ t, step s = .next t := by
  have empty : (linked.withFront .airClockAdvance).allDescriptors = [] := by decide +kernel
  have store : (linked.withFront .airClockAdvance).store = FrameStore.powerOn := rfl
  refine ⟨⟨?_, ?_, ?_, ?_, ?_⟩, rfl, _, rfl⟩ <;> rw [empty] <;> try rw [store]
  · exact (ascending_nodup 4096 12 (by decide)).append List.nodup_nil (by simp)
  · rw [powerOn_lengths.1]
    rfl
  · exact (ascending_nodup 1024 10 (by decide)).append List.nodup_nil (by simp)
  · rw [powerOn_lengths.2]
    rfl
  · simp

/-- A DATA frame is being received with a reserved slot, and n slots are filled. -/
def nearlyFull (n : Nat) : State :=
  { (reserving 1 (.receiving (header 1 1) true false)).withFront .airClockAdvance with
    fifo := { reserved := 1, filled := List.replicate n refusal } }

/-- Its slots are lawful while they are at most 1280. -/
theorem nearlyFull_lawful (n : Nat) (h : n ≤ 1279) : (nearlyFull n).slotsLawful := by
  refine ⟨by show 1 = linked.allDescriptors.length + 1; decide +kernel, ?_, fun x r d e => ?_, fun x e => by cases e⟩
  · simp only [nearlyFull, List.length_replicate]
    omega
  · cases e
    decide

/-- So are those of a state that holds a DATA header. -/
theorem held_lawful : (reserving 0 (.held (header 1 1))).slotsLawful := by
  refine ⟨by show 0 = linked.allDescriptors.length + 0; decide +kernel, by decide, fun _ _ _ e => (by cases e), fun x e => ?_⟩
  cases e
  decide

theorem met_TxdoneSlotsAreNeverLost :
    ((nearlyFull 1279).slotsLawful ∧ ∃ t, step (nearlyFull 1279) = .next t)
      ∧ (((reserving 0 (.held (header 1 1))).withFront .dataSlotReserved).slotsLawful
        ∧ ∃ t, step ((reserving 0 (.held (header 1 1))).withFront .dataSlotReserved) = .next t) :=
  ⟨⟨nearlyFull_lawful 1279 (Nat.le_refl _), _, rfl⟩, held_lawful, _, rfl⟩

theorem met_OutstandingReleasesStayMatched :
    (released.withFront .airClockAdvance).releasesLawful ∧ ∃ t, step (released.withFront .airClockAdvance) = .next t :=
  ⟨released_lawful, _, rfl⟩

theorem met_RunningRingHasAValidEntry :
    let s := (walking (reservation 1000000 500 1) RingEntry.powerOn).withFront .airClockAdvance
    s.ring.lawful ∧ ∃ t, step s = .next t := ⟨⟨fun _ => ⟨rfl, rfl⟩, fun h => absurd h (by decide)⟩, _, rfl⟩

theorem met_BusyCountNeverPassesListenCount :
    onAir.detector.lawful ∧ ∃ t, step (onAir.withFront .airClockAdvance) = .next t := ⟨detector_reset_lawful, _, rfl⟩

theorem met_SourceEntriesStayInRange :
    (tracking .learn 1000000 ovenA []).sourcesLawful ∧ (beacons .learn .host).beaconsDistinct
      ∧ (∃ t, step ((tracking .learn 1000000 ovenA []).withFront .airClockAdvance) = .next t)
      ∧ ∃ t, step ((beacons .learn .host).withFront .airClockAdvance) = .next t := by
  refine ⟨tracking_lawful _ _ _ _ ovenA_lawful, ?_, ⟨_, rfl⟩, _, rfl⟩
  intro i j n tag e f hi hei _ hj hfj _
  have h : ∀ i, ((beacons .learn .host).slot i).owner = .learn → ((beacons .learn .host).slot i).entry.isSome = true → i = 0 := by
    decide +kernel
  rw [h i hi (by simp [hei]), h j hj (by simp [hfj])]

theorem met_RadioStateGovernsTheWindow :
    onAir.radioLawful ∧ State.reset.radioLawful ∧ ∃ t, step (onAir.withFront .airClockAdvance) = .next t := by
  refine ⟨⟨fun h => absurd h (by decide), ⟨fun _ => by decide, fun _ => ⟨6, rfl⟩⟩, fun h => absurd rfl (h 6)⟩,
    ⟨fun _ => ⟨rfl, rfl, rfl, rfl⟩, ⟨fun h => (by obtain ⟨_, h⟩ := h; cases h), fun h => absurd rfl h⟩, fun _ => by decide +kernel⟩, _, rfl⟩

theorem met_EventFlagsAreClearedOnlyByCommand :
    let c : Command := { code := 100, target := 255, data := [] }
    let s := giving (onAir.setFlag .linkError) c
    ∃ t, exec (.clearEvents 255 []) s = .next t ∧ s.flag .linkError = true ∧ t.flag .linkError = false :=
  ⟨_, rfl, by decide +kernel, by decide +kernel⟩
end Sys2Proof.Tests
end

/-! PROOFS. The admission of DATA frames (R23 to R28): what each check says of the frame and the queue, and what a refusal leaves. -/

namespace Sys2Proof.Machine

/-! ### What the checks read -/

/-- A lane byte or a target names a queue exactly when it is that queue's number (R25, R39). -/
theorem queueTarget_eq_some_iff (lane : Byte) (q : Fin 16) : queueTarget lane = some q ↔ lane.toNat = q.val := by
  unfold queueTarget
  split
  · simp [Fin.ext_iff]
  · simp; omega

theorem queueTarget_eq_none_iff (lane : Byte) : queueTarget lane = none ↔ 16 ≤ lane.toNat := by
  simp [queueTarget]

/-- The cells do not suffice exactly when their bytes do not (R20). -/
theorem lt_cellsNeeded_iff (n : Nat) (lengths : List Nat) : n < cellsNeeded lengths ↔ 128 * n < lengths.sum := by
  simp only [cellsNeeded, ceilDiv, Config.cellBytes]
  omega

/-- The queue's state passes the check that admission makes of it exactly when the queue admits (R25). -/
theorem State.admitsOn_iff (s : State) (q : Fin 16) :
    s.admitsOn q ↔ ¬ ((s.queue q).state != .opened && (s.queue q).state != .paused) = true := by
  simp [State.admitsOn, or_iff_not_imp_left]

/-! ### The five checks (Table 2-4) -/

/-- A lane that names no queue fails the second check (R25). -/
theorem State.admissionCheck_no_queue (s : State) (lane : Byte) (b : Bundle) (h : 16 ≤ lane.toNat) :
    s.admissionCheck lane b = some .refusedQueue := by
  simp [State.admissionCheck, (queueTarget_eq_none_iff lane).2 h]

/-- On a queue's lane the checks are those of the queue's state, its depth limit, the rate entry and the storage, in that order (R25, R26). -/
theorem State.admissionCheck_queue (s : State) (lane : Byte) (b : Bundle) (q : Fin 16) (h : lane.toNat = q.val)
    [Decidable (s.admitsOn q)] :
    s.admissionCheck lane b =
      if ¬ s.admitsOn q then some .refusedQueue
      else if (s.queue q).config.depth ≤ (s.queue q).descriptors.length then some .refusedFull
      else if s.rate b.rate = none then some .refusedRate
      else if s.store.freeDescriptors = [] ∨ 128 * s.store.freeCells.length < b.lengths.sum then some .refusedStore
      else none := by
  simp [State.admissionCheck, (queueTarget_eq_some_iff lane q).2 h, State.admitsOn_iff, lt_cellsNeeded_iff]

/-- A frame that fails a check is refused with that check's result and the count of R32. -/
theorem State.takeData_refused (s : State) (f : LinkFrame) (result : DoneResult) (count : Nat)
    (h : s.refusedAs f result count) : s.takeData f = s.refuse f.header result count := by
  classical
  obtain ⟨hb, rfl, rfl⟩ | ⟨b, hb, rfl, h⟩ := h
  case inl => simp [State.takeData, hb]
  case inr =>
    have hcheck : s.admissionCheck f.header.lane b = some result := by
      obtain ⟨hlane, rfl⟩ | ⟨q, hlane, h⟩ := h
      case inl => exact s.admissionCheck_no_queue _ b hlane
      case inr =>
        rw [s.admissionCheck_queue _ b q hlane]
        obtain ⟨hq, rfl⟩ | ⟨hq, hd, rfl⟩ | ⟨hq, hd, hr, rfl⟩ | ⟨hq, hd, hr, hs, rfl⟩ := h
        · exact if_pos hq
        · simp [hq, hd]
        · simp [hq, hd, hr]
        · simp [hq, hd, Option.isSome_iff_ne_none.1 hr, hs]
    simp [State.takeData, hb, hcheck]

/-! ### The refusal (R27) -/

/-- Changing one queue's record leaves the other fifteen. -/
theorem State.modQueue_eq_ofFn (s : State) (q : Fin 16) (g : Queue → Queue) :
    s.modQueue q g = { s with queues := Vector.ofFn fun p => if p.val = q.val then g (s.queue p) else s.queue p } := by
  have hqueues : s.queues.set q (g (s.queue q)) = Vector.ofFn fun p => if p.val = q.val then g (s.queue p) else s.queue p := by
    ext i hi
    by_cases hiq : q.val = i
    · subst hiq; simp
    · simp [hiq, Ne.symm hiq, State.queue]
  rw [← hqueues]
  rfl

/-- The queue records written out again are the queue records. -/
theorem State.ofFn_queue (s : State) : (Vector.ofFn fun p => s.queue p) = s.queues := by
  ext i hi
  simp [State.queue]

/-- A refusal fills the reserved slot, marks the queue of the lane where there is one, and sets FRAME_REFUSED; nothing else changes. -/
theorem State.refuse_eq (s : State) (h : LaneHeader) (result : DoneResult) (count : Nat) :
    s.refuse h result count =
      State.setFlag
        { s with
          fifo := s.fifo.fill (refusalRecord h result count s.now)
          queues := Vector.ofFn fun p : Fin 16 =>
            if p.val = h.lane.toNat then { s.queue p with refusedFlag := true } else s.queue p }
        .frameRefused := by
  unfold State.refuse
  cases hq : queueTarget h.lane with
  | some q =>
    have hlane := (queueTarget_eq_some_iff h.lane q).1 hq
    simp only [State.modQueue_eq_ofFn, hlane]
    rfl
  | none =>
    have hlane := (queueTarget_eq_none_iff h.lane).1 hq
    have hne : ∀ p : Fin 16, p.val ≠ h.lane.toNat := fun p => by omega
    simp only [hne, if_false, State.ofFn_queue]

/-! ### The event DATA_FRAME -/

/-- A DATA frame that arrives whole is taken, with the input ready for the next lane header (R5, R23). -/
theorem exec_dataFrame_of_northArriving (s : State) (f : LinkFrame) (harrives : s.northArriving f) (hkind : f.header.kind = 1) :
    exec (.dataFrame f) s = .next ((s.withInput .awaitHeader).takeData f) := by
  have hrunning : s.inReset = false := harrives.1
  calc exec (.dataFrame f) s
      = s.live fun s => s.northFrame 1 f fun s => s.takeData f := rfl
    _ = .next (s.northFrame 1 f fun s => s.takeData f) := s.live_running _ hrunning
    _ = .next ((s.withInput .awaitHeader).takeData f) := by rw [s.northFrame_taken 1 f _ harrives hkind]

/-- No admission check reads where the north input stands. -/
@[simp] theorem State.refusedAs_withInput (s : State) (i : NorthInput) (f : LinkFrame) (result : DoneResult) (count : Nat) :
    (s.withInput i).refusedAs f result count ↔ s.refusedAs f result count := Iff.rfl

/-- Settles O10: the frame is taken, fails an admission check with the result given, and is refused. -/
theorem refusedDataFrameFillsItsSlot : Obligations.RefusedDataFrameFillsItsSlot := by
  intro s f result count harrives hkind hrefused
  have htaken : (s.withInput .awaitHeader).takeData f = (s.withInput .awaitHeader).refuse f.header result count :=
    State.takeData_refused _ f result count ((s.refusedAs_withInput _ f result count).2 hrefused)
  rw [exec_dataFrame_of_northArriving s f harrives hkind, htaken, State.refuse_eq]
  rfl

end Sys2Proof.Machine

/-! PROOFS. The airtime of a head (R71), and the rate commands LOAD_RATE and READ_RATE (R69, R70). -/

namespace Sys2Proof.Machine

/-! ### Airtime (R71) -/

/-- Clamping from above is the minimum with the limit (section 4.5). -/
theorem saturate_eq_min (limit x : Nat) : saturate limit x = min limit x := by
  unfold saturate
  split <;> omega

/-- A subframe costs its length padded to whole words and its delimiter, in bits (R71). -/
theorem subframeCost_eq (length : Nat) : subframeCost length = 8 * ((length + 3) / 4 * 4 + 4) := rfl

/-- The airtime of given lengths, step by step: bits, symbols, nanoseconds, and the clamped microseconds (R71). -/
theorem airtime_eq (r : Rate) (lengths : List Nat) :
    airtime r lengths =
      min 65535
        ((r.preamble * 1000 + ((lengths.map subframeCost).sum + r.fixedBits + r.bits - 1) / r.bits * r.symbol + 999) / 1000) :=
  saturate_eq_min _ _

/-- Settles O30: the head's pending entries, priced one by one. -/
theorem airtimeIsPricedByTheRateTable : Obligations.AirtimeIsPricedByTheRateTable := by
  intro d r k _ _
  simp only [Descriptor.airtime, airtime_eq, Descriptor.pendingEntries, List.map_map, Function.comp_def, subframeCost_eq]

/-! ### A command in execution (R145, R146) -/

/-- A part that executes a command is not held in reset. -/
theorem State.inReset_of_executes (s : State) (l : ControlList) (c : Command) (h : s.executes l c) : s.inReset = false := by
  obtain ⟨⟨hrunning, -, -⟩, -⟩ := h
  exact hrunning

/-- A command in execution that fails a check is answered with that check's result and does nothing (R145). -/
theorem State.command_refused (s : State) (l : ControlList) (code target : Byte) (data : List Byte) (result : Result) (size : Nat)
    (act : State → State × List Byte) (h : s.executes l { code, target, data }) :
    s.command code target data (some result) size act = s.answered l { code, target, data } result [] := by
  obtain ⟨hat, hwhole⟩ := h
  simp [s.command_of_atCommand l _ _ _ _ _ _ hat, hwhole]

/-- A command in execution that passes its checks and finds room is carried out and answered OK, when it leaves the engine as it was
(R145, R146). -/
theorem State.command_done (s : State) (l : ControlList) (code target : Byte) (data : List Byte) (size : Nat)
    (act : State → State × List Byte) (h : s.executes l { code, target, data }) (hroom : size ≤ l.room)
    (hlist : (act s).1.engine = s.engine) :
    s.command code target data none size act = (act s).1.answered l { code, target, data } .ok (act s).2 := by
  obtain ⟨hat, hwhole⟩ := h
  have ⟨_, hbuffer, _⟩ := hat
  have hexecuting : (act s).1.engine.executing = .executing l := by rw [hlist, hbuffer]
  simp [s.command_of_atCommand l _ _ _ _ _ _ hat, hwhole, Nat.not_lt.2 hroom, State.reportResult_eq_answered _ l _ _ _ hexecuting]

/-! ### What the rate commands check (R69) -/

/-- A target names a rate entry exactly when it is that entry's index (R69). -/
theorem rateTarget_eq_some_iff (target : Byte) (i : Fin 64) : rateTarget target = some i ↔ target.toNat = i.val := by
  unfold rateTarget
  split
  · simp [Fin.ext_iff]
  · simp; omega

theorem rateTarget_eq_none_iff (target : Byte) : rateTarget target = none ↔ 64 ≤ target.toNat := by
  simp [rateTarget]

/-- A target beyond the table fails the first check (R69). -/
theorem refuseIf_no_rateTarget (target : Byte) (badValue : Bool) (h : 64 ≤ target.toNat) :
    refuseIf (rateTarget target).isNone false badValue = some .badTarget := by
  simp [refuseIf, (rateTarget_eq_none_iff target).2 h]

/-- With a target that names a rate entry only the data is left to check. -/
theorem refuseIf_rateTarget (target : Byte) (i : Fin 64) (badValue : Bool) (h : target.toNat = i.val) :
    refuseIf (rateTarget target).isNone false badValue = if badValue then some .badValue else none := by
  simp [refuseIf, (rateTarget_eq_some_iff target i).2 h]

/-- The fields of a LOAD_RATE lie in the ranges of Table 5-1 (R69). -/
def rateInRange (data : List Byte) : Prop :=
  field data 0 1 ≤ 100 ∧ 1000 ≤ field data 1 2 ∧ field data 1 2 ≤ 16000 ∧ 6 ≤ field data 3 2
    ∧ field data 3 2 ≤ 4000 ∧ field data 5 1 ≤ 64

/-- Six bytes in range are read as the rate whose four fields they spell. -/
theorem readRateImage_inRange (data : List Byte) (hlength : data.length = 6) (hrange : rateInRange data) :
    readRateImage data =
      some { preamble := field data 0 1, symbol := field data 1 2, bits := field data 3 2, fixedBits := field data 5 1 } :=
  if_pos ⟨hlength, hrange⟩

/-- Data with a field out of range is no rate. -/
theorem readRateImage_outOfRange (data : List Byte) (hrange : ¬ rateInRange data) : readRateImage data = none :=
  if_neg fun h => hrange h.2

/-- Writing a rate entry leaves the command engine. -/
@[simp] theorem State.writeRate_engine (s : State) (i : Fin 64) (r : Rate) : (s.writeRate i r).engine = s.engine := by
  simp [State.writeRate]

/-! ### LOAD_RATE (R69) -/

/-- What LOAD_RATE does once its checks pass, and its read data. -/
def loadRateAct (target : Byte) (data : List Byte) (s : State) : State × List Byte :=
  match rateTarget target, readRateImage data with
  | some i, some r => (s.writeRate i r, [])
  | _, _ => (s, [])

theorem loadRateAct_eq (target : Byte) (data : List Byte) (s : State) (i : Fin 64) (r : Rate) (htarget : target.toNat = i.val)
    (hdata : readRateImage data = some r) : loadRateAct target data s = (s.writeRate i r, []) := by
  simp [loadRateAct, (rateTarget_eq_some_iff target i).2 htarget, hdata]

/-- LOAD_RATE as a command of a running part. -/
theorem exec_loadRate_running (s : State) (target : Byte) (data : List Byte) (hrunning : s.inReset = false) :
    exec (.loadRate target data) s =
      .next (s.command 32 target data (refuseIf (rateTarget target).isNone false (readRateImage data).isNone) 0
        (loadRateAct target data)) :=
  s.live_running
    (fun s => s.command 32 target data (refuseIf (rateTarget target).isNone false (readRateImage data).isNone) 0
      (loadRateAct target data))
    hrunning

/-- A target beyond the table is refused, whatever the data. -/
theorem exec_loadRate_badTarget (s : State) (l : ControlList) (target : Byte) (data : List Byte)
    (h : s.executes l { code := 32, target, data }) (htarget : 64 ≤ target.toNat) :
    exec (.loadRate target data) s = .next (s.answered l { code := 32, target, data } .badTarget []) := by
  rw [exec_loadRate_running s target data (s.inReset_of_executes l _ h), refuseIf_no_rateTarget target _ htarget,
    s.command_refused l _ _ _ _ _ _ h]

/-- Data that is no rate is refused whole. -/
theorem exec_loadRate_badValue (s : State) (l : ControlList) (target : Byte) (data : List Byte) (i : Fin 64)
    (h : s.executes l { code := 32, target, data }) (htarget : target.toNat = i.val) (hdata : readRateImage data = none) :
    exec (.loadRate target data) s = .next (s.answered l { code := 32, target, data } .badValue []) := by
  have hrefusal : refuseIf (rateTarget target).isNone false (readRateImage data).isNone = some .badValue := by
    simp [refuseIf_rateTarget target i _ htarget, hdata]
  rw [exec_loadRate_running s target data (s.inReset_of_executes l _ h), hrefusal, s.command_refused l _ _ _ _ _ _ h]

/-- A rate is written to the entry that the target names. -/
theorem exec_loadRate_ok (s : State) (l : ControlList) (target : Byte) (data : List Byte) (i : Fin 64) (r : Rate)
    (h : s.executes l { code := 32, target, data }) (htarget : target.toNat = i.val) (hdata : readRateImage data = some r) :
    exec (.loadRate target data) s = .next ((s.writeRate i r).answered l { code := 32, target, data } .ok []) := by
  have hrefusal : refuseIf (rateTarget target).isNone false (readRateImage data).isNone = none := by
    simp [refuseIf_rateTarget target i _ htarget, hdata]
  have hact := loadRateAct_eq target data s i r htarget hdata
  have hengine : (loadRateAct target data s).1.engine = s.engine := by rw [hact, s.writeRate_engine]
  rw [exec_loadRate_running s target data (s.inReset_of_executes l _ h), hrefusal,
    s.command_done l _ _ _ 0 _ h (Nat.zero_le _) hengine, hact]

/-! ### READ_RATE (R70) -/

/-- What READ_RATE does once its checks pass, and its read data. -/
def readRateAct (target : Byte) (s : State) : State × List Byte :=
  (s, match rateTarget target with
    | some i => rateImage (s.rate i)
    | none => [])

theorem readRateAct_eq (target : Byte) (s : State) (i : Fin 64) (htarget : target.toNat = i.val) :
    readRateAct target s = (s, rateImage (s.rate i)) := by
  simp [readRateAct, (rateTarget_eq_some_iff target i).2 htarget]

/-- READ_RATE without data, as a command of a running part. -/
theorem exec_readRate_running (s : State) (target : Byte) (hrunning : s.inReset = false) :
    exec (.readRate target []) s =
      .next (s.command 33 target [] (refuseIf (rateTarget target).isNone false false) 7 (readRateAct target)) :=
  s.live_running
    (fun s => s.command 33 target [] (refuseIf (rateTarget target).isNone false false) 7 (readRateAct target)) hrunning

/-- A target beyond the table is refused. -/
theorem exec_readRate_badTarget (s : State) (l : ControlList) (target : Byte)
    (h : s.executes l { code := 33, target, data := [] }) (htarget : 64 ≤ target.toNat) :
    exec (.readRate target []) s = .next (s.answered l { code := 33, target, data := [] } .badTarget []) := by
  rw [exec_readRate_running s target (s.inReset_of_executes l _ h), refuseIf_no_rateTarget target _ htarget,
    s.command_refused l _ _ _ _ _ _ h]

/-- The image of the entry that the target names is returned, and nothing but the answer changes. -/
theorem exec_readRate_ok (s : State) (l : ControlList) (target : Byte) (i : Fin 64)
    (h : s.executes l { code := 33, target, data := [] }) (htarget : target.toNat = i.val) (hroom : 7 ≤ l.room) :
    exec (.readRate target []) s =
      .next (s.answered l { code := 33, target, data := [] } .ok (rateImage (s.rate i))) := by
  have hrefusal : refuseIf (rateTarget target).isNone false false = none := refuseIf_rateTarget target i false htarget
  rw [exec_readRate_running s target (s.inReset_of_executes l _ h), hrefusal, s.command_done l _ _ _ 7 _ h hroom rfl,
    readRateAct_eq target s i htarget]

/-- Settles O43: LOAD_RATE by its target and then by the ranges of its fields, READ_RATE by its target and then by the entry. -/
theorem rateCommandsWriteAndRead : Obligations.RateCommandsWriteAndRead := by
  intro s l target data
  constructor
  case left =>
    intro h
    refine ⟨exec_loadRate_badTarget s l target data h, fun i htarget hlength => ⟨fun hout => ?_, fun hin => ?_⟩⟩
    · exact exec_loadRate_badValue s l target data i h htarget (readRateImage_outOfRange data hout)
    · exact exec_loadRate_ok s l target data i _ h htarget (readRateImage_inRange data hlength hin)
  case right =>
    intro h
    refine ⟨exec_readRate_badTarget s l target h, fun i htarget hroom => ⟨fun hnone => ?_, fun r hsome => ?_⟩⟩
    · rw [exec_readRate_ok s l target i h htarget hroom, hnone]
      rfl
    · rw [exec_readRate_ok s l target i h htarget hroom, hsome]
      rfl

end Sys2Proof.Machine

/-! PROOFS. The answers to releases (R87 to R93): which release a TXSTAT answers, what its result does to the head, and what the resolution of
the release leaves. -/

namespace Sys2Proof.Machine

/-! ### Flags read back (R152) -/

/-- The flags stand in the order of their bits (Table 10-2). -/
theorem EventFlag.ofNat_index (f : EventFlag) : EventFlag.ofNat f.index = f := by
  cases f <;> rfl

theorem EventFlag.index_injective : Function.Injective EventFlag.index :=
  Function.LeftInverse.injective EventFlag.ofNat_index

theorem EventFlag.index_lt (f : EventFlag) : f.index < 14 := by
  cases f <;> decide

/-- Setting a flag sets it and leaves the other thirteen. -/
@[simp] theorem State.flag_setFlag (s : State) (f g : EventFlag) : (s.setFlag f).flag g = (s.flag g || decide (f = g)) := by
  simp [State.flag, EventFlag.mask, g.index_lt, EventFlag.index_injective.eq_iff, eq_comm]

@[simp] theorem State.flag_setFlagIf (s : State) (c : Bool) (f g : EventFlag) :
    (s.setFlagIf c f).flag g = (s.flag g || (c && decide (f = g))) := by
  cases c <;> simp [State.setFlagIf]

@[simp] theorem State.flag_modQueue (s : State) (q : Fin 16) (f : Queue → Queue) (g : EventFlag) :
    (s.modQueue q f).flag g = s.flag g := rfl

@[simp] theorem State.flag_reevaluate (s : State) (q : Fin 16) (g : EventFlag) : (s.reevaluate q).flag g = s.flag g := rfl

@[simp] theorem State.flag_finishHead (s : State) (q : Fin 16) (g : EventFlag) : (s.finishHead q).flag g = s.flag g := by
  simp [State.flag]

@[simp] theorem State.flag_closeDrained (s : State) (q : Fin 16) (g : EventFlag) :
    (s.closeDrained q).flag g = (s.flag g || decide (.drainDone = g)) := by
  simp [State.closeDrained]

/-! ### Queues read back -/

@[simp] theorem State.queue_setFlag (s : State) (f : EventFlag) (q : Fin 16) : (s.setFlag f).queue q = s.queue q := by
  simp [State.queue]

@[simp] theorem State.queue_setFlagIf (s : State) (c : Bool) (f : EventFlag) (q : Fin 16) :
    (s.setFlagIf c f).queue q = s.queue q := by
  simp [State.queue]

/-- Re-evaluation writes a queue's request and nothing else of it (R49). -/
@[simp] theorem State.queue_reevaluate_self (s : State) (q : Fin 16) :
    (s.reevaluate q).queue q = { s.queue q with request := (s.offer q).isSome } :=
  s.queue_modQueue_self q _

theorem State.queue_reevaluate_other (s : State) (q p : Fin 16) (h : q ≠ p) : (s.reevaluate q).queue p = s.queue p :=
  s.queue_modQueue_other q p _ h

theorem Queue.head_of_cons (x : Queue) (d : Descriptor) (rest : List Descriptor) (h : x.descriptors = d :: rest) :
    x.head = some d := by
  simp [Queue.head, h]

theorem Queue.modHead_of_cons (x : Queue) (d : Descriptor) (rest : List Descriptor) (f : Descriptor → Descriptor)
    (h : x.descriptors = d :: rest) : x.modHead f = { x with descriptors := f d :: rest } := by
  simp [Queue.modHead, h]

/-! ### Completion and closing (R31, R43) -/

/-- The completion of a head: its slot filled, its storage returned, and the next descriptor's aging started (R31, R46). -/
theorem State.finishHead_of_cons (s : State) (q : Fin 16) (d : Descriptor) (rest : List Descriptor)
    (h : (s.queue q).descriptors = d :: rest) :
    s.finishHead q = (s.finish q d).modQueue q fun x => Queue.startAging { x with descriptors := x.descriptors.tail } s.now := by
  simp [State.finishHead, (s.queue q).head_of_cons d rest h]

theorem State.queue_finishHead_self (s : State) (q : Fin 16) (d : Descriptor) (rest : List Descriptor)
    (h : (s.queue q).descriptors = d :: rest) :
    (s.finishHead q).queue q = Queue.startAging { s.queue q with descriptors := rest } s.now := by
  have hqueue : (s.finish q d).queue q = s.queue q := rfl
  rw [s.finishHead_of_cons q d rest h, State.queue_modQueue_self, hqueue, h, List.tail_cons]

theorem State.queue_finishHead_other (s : State) (q p : Fin 16) (h : q ≠ p) : (s.finishHead q).queue p = s.queue p := by
  unfold State.finishHead
  split
  · rfl
  · exact State.queue_modQueue_other _ q p _ h

theorem State.finishHead_fifo (s : State) (q : Fin 16) (d : Descriptor) (rest : List Descriptor)
    (h : (s.queue q).descriptors = d :: rest) : (s.finishHead q).fifo = s.fifo.fill (doneRecord (s.queue q) d s.now) := by
  rw [s.finishHead_of_cons q d rest h]
  rfl

theorem State.finishHead_store (s : State) (q : Fin 16) (d : Descriptor) (rest : List Descriptor)
    (h : (s.queue q).descriptors = d :: rest) : (s.finishHead q).store = s.store.free d := by
  rw [s.finishHead_of_cons q d rest h]
  rfl

@[simp] theorem State.queue_closeDrained_self (s : State) (q : Fin 16) :
    (s.closeDrained q).queue q = { s.queue q with state := .closed, aging := none } := by
  simp [State.closeDrained]

theorem State.queue_closeDrained_other (s : State) (q p : Fin 16) (h : q ≠ p) : (s.closeDrained q).queue p = s.queue p := by
  simp [State.closeDrained, State.queue_modQueue_other _ q p _ h]

/-- The record of a completed descriptor reads neither its queue's list nor its queue's flags (Table 2-6). -/
@[simp] theorem doneRecord_withDescriptors (x : Queue) (list : List Descriptor) (dropped : Bool) (d : Descriptor) (now : Instant) :
    doneRecord { x with descriptors := list, droppedFlag := dropped } d now = doneRecord x d now := rfl

/-- A descriptor has nothing left to send exactly when every entry is DELIVERED or DROPPED (R29). -/
theorem Descriptor.unfinished_eq_false_iff (d : Descriptor) :
    d.unfinished = false ↔ ∀ y ∈ d.subframes, y.state = .delivered ∨ y.state = .dropped := by
  have hstate : ∀ st : SubState, (st == .pending || st == .out) = false ↔ st = .delivered ∨ st = .dropped := by
    intro st
    cases st <;> decide
  simp only [Descriptor.unfinished, List.any_eq_false, Bool.not_eq_true, hstate]

/-! ### The resolution of a release (R93) -/

/-- The entry's release leaves the outstanding table, and its CANCEL, when one waits, is withdrawn (steps 1 and 2 of R93). -/
def State.unlist (s : State) (e : Outstanding) : State :=
  { s with
    gate := { s.gate with table := s.gate.table.filter fun x => x.id != e.id }
    south := { s.south with cancels := s.south.cancels.filter fun c => c.id != e.id } }

/-- Unlisting a release leaves every queue. -/
@[simp] theorem State.queue_unlist (s : State) (e : Outstanding) (q : Fin 16) : (s.unlist e).queue q = s.queue q := rfl

@[simp] theorem State.flag_unlist (s : State) (e : Outstanding) (g : EventFlag) : (s.unlist e).flag g = s.flag g := rfl

/-- What settling does once the release is unlisted: a head that stays is left, a finished one completes, and the one of a DRAINING queue completes
and closes the queue; then the queue's request is re-evaluated (steps 3 to 5 of R93). -/
theorem State.settle_cases (s : State) (e : Outstanding) :
    ((∀ d, (s.queue e.queue).head = some d → (s.queue e.queue).state ≠ .draining ∧ d.unfinished = true)
        ∧ s.settle e = (s.unlist e).reevaluate e.queue)
      ∨ (∃ d, (s.queue e.queue).head = some d ∧ (s.queue e.queue).state ≠ .draining ∧ d.unfinished = false
        ∧ s.settle e = ((s.unlist e).finishHead e.queue).reevaluate e.queue)
      ∨ ((s.queue e.queue).state = .draining
        ∧ s.settle e = (((s.unlist e).finishHead e.queue).closeDrained e.queue).reevaluate e.queue) := by
  unfold State.settle
  dsimp only
  split
  case h_1 hnone =>
    have hnone : (s.queue e.queue).head = none := hnone
    exact .inl ⟨by simp [hnone], rfl⟩
  case h_2 hdraining _ => exact .inr (.inr ⟨hdraining, rfl⟩)
  case h_3 d hhead hstate =>
    have hhead : (s.queue e.queue).head = some d := hhead
    have hstate : (s.queue e.queue).state ≠ .draining := hstate
    split
    case isTrue hd => exact .inl ⟨fun _ h => ⟨hstate, Option.some.inj (hhead.symm.trans h) ▸ hd⟩, rfl⟩
    case isFalse hd => exact .inr (.inl ⟨d, hhead, hstate, by simpa using hd, rfl⟩)

@[simp] theorem State.settle_gate (s : State) (e : Outstanding) : (s.settle e).gate = (s.unlist e).gate := by
  rcases s.settle_cases e with ⟨-, h⟩ | ⟨_, -, -, -, h⟩ | ⟨-, h⟩ <;> simp [h]

@[simp] theorem State.settle_south (s : State) (e : Outstanding) : (s.settle e).south = (s.unlist e).south := by
  rcases s.settle_cases e with ⟨-, h⟩ | ⟨_, -, -, -, h⟩ | ⟨-, h⟩ <;> simp [h]

/-- Settling a release changes no queue but its own. -/
theorem State.queue_settle_other (s : State) (e : Outstanding) (p : Fin 16) (hp : e.queue ≠ p) :
    (s.settle e).queue p = s.queue p := by
  rcases s.settle_cases e with ⟨-, h⟩ | ⟨_, -, -, -, h⟩ | ⟨-, h⟩ <;>
    simp [h, State.queue_reevaluate_other _ _ p hp, State.queue_closeDrained_other _ _ p hp, State.queue_finishHead_other _ _ p hp]

/-- Settling a release sets no flag but DRAIN_DONE. -/
theorem State.flag_settle_other (s : State) (e : Outstanding) (g : EventFlag) (hg : g ≠ .drainDone) :
    (s.settle e).flag g = s.flag g := by
  rcases s.settle_cases e with ⟨-, h⟩ | ⟨_, -, -, -, h⟩ | ⟨-, h⟩ <;> simp [h, hg.symm]

section
variable (s : State) (e : Outstanding) (d : Descriptor) (rest : List Descriptor)

/-- Settling a release leaves the DROPPED flag of its queue. -/
theorem State.settle_droppedFlag (hhead : (s.queue e.queue).descriptors = d :: rest) :
    ((s.settle e).queue e.queue).droppedFlag = (s.queue e.queue).droppedFlag := by
  have hfinish := (s.unlist e).queue_finishHead_self e.queue d rest hhead
  rcases s.settle_cases e with ⟨-, h⟩ | ⟨_, -, -, -, h⟩ | ⟨-, h⟩ <;> simp [h, hfinish, Queue.startAging]

/-- A head with a subframe still to send stays, unless its queue drains (R93, step 4). -/
theorem State.settle_unfinished (hhead : (s.queue e.queue).descriptors = d :: rest) (hstate : (s.queue e.queue).state ≠ .draining)
    (hd : d.unfinished = true) : s.settle e = (s.unlist e).reevaluate e.queue := by
  have hhead' := Queue.head_of_cons _ d rest hhead
  obtain ⟨-, h⟩ | ⟨d', hd', -, hfinished, -⟩ | ⟨hdraining, -⟩ := s.settle_cases e
  case inl => exact h
  case inr.inl => simp_all
  case inr.inr => exact absurd hdraining hstate

/-- A finished head completes and leaves the queue (R93, step 4; R31). -/
theorem State.settle_finished (hhead : (s.queue e.queue).descriptors = d :: rest) (hstate : (s.queue e.queue).state ≠ .draining)
    (hd : d.unfinished = false) :
    ((s.settle e).queue e.queue).descriptors = rest ∧ ((s.settle e).queue e.queue).state = (s.queue e.queue).state
      ∧ (s.settle e).fifo = s.fifo.fill (doneRecord (s.queue e.queue) d s.now) ∧ (s.settle e).store = s.store.free d := by
  have hhead' := Queue.head_of_cons _ d rest hhead
  have hqueue := (s.unlist e).queue_finishHead_self e.queue d rest hhead
  have hfifo := (s.unlist e).finishHead_fifo e.queue d rest hhead
  have hstore := (s.unlist e).finishHead_store e.queue d rest hhead
  obtain ⟨hstays, -⟩ | ⟨_, -, -, -, h⟩ | ⟨hdraining, -⟩ := s.settle_cases e
  case inl => simp_all
  case inr.inl =>
    simp only [h, State.queue_reevaluate_self, State.reevaluate_keeps, hqueue, hfifo, hstore]
    exact ⟨rfl, rfl, rfl, rfl⟩
  case inr.inr => exact absurd hdraining hstate

/-- The head of a DRAINING queue completes, the queue becomes CLOSED, and DRAIN_DONE is set (R93, step 3; R43). -/
theorem State.settle_draining (hhead : (s.queue e.queue).descriptors = d :: rest) (hstate : (s.queue e.queue).state = .draining) :
    ((s.settle e).queue e.queue).descriptors = rest ∧ ((s.settle e).queue e.queue).state = .closed
      ∧ (s.settle e).fifo = s.fifo.fill (doneRecord (s.queue e.queue) d s.now) ∧ (s.settle e).store = s.store.free d
      ∧ (s.settle e).flag .drainDone = true := by
  have hhead' := Queue.head_of_cons _ d rest hhead
  have hqueue := (s.unlist e).queue_finishHead_self e.queue d rest hhead
  have hfifo := (s.unlist e).finishHead_fifo e.queue d rest hhead
  have hstore := (s.unlist e).finishHead_store e.queue d rest hhead
  obtain ⟨hstays, -⟩ | ⟨_, -, hnot, -, -⟩ | ⟨-, h⟩ := s.settle_cases e
  case inl => exact absurd hstate (hstays d hhead').1
  case inr.inl => exact absurd hstate hnot
  case inr.inr =>
    simp only [h, State.queue_reevaluate_self, State.queue_closeDrained_self, State.reevaluate_keeps, State.closeDrained_keeps,
      State.flag_reevaluate, State.flag_closeDrained, hqueue, hfifo, hstore, decide_true, Bool.or_true]
    exact ⟨rfl, trivial, rfl, rfl, trivial⟩

end

/-! ### Which release a TXSTAT answers (R87) -/

/-- In a table without two equal ids a TXSTAT of a release sent whole is matched to the entry with its id. -/
theorem State.matchTxStat_of_mem (s : State) (x : TxStat) (e : Outstanding) (hids : (s.gate.table.map Outstanding.id).Nodup)
    (he : e ∈ s.gate.table) (hid : e.id = x.id) (hsent : s.south.txdataUnsent x.id = false) : s.matchTxStat x = some e := by
  have hfound : s.gate.table.find? (fun y => y.id == x.id) = some e := by
    have hsome : (s.gate.table.find? fun y => y.id == x.id).isSome = true := List.find?_isSome.2 ⟨e, he, by simp [hid]⟩
    obtain ⟨y, hy⟩ := Option.isSome_iff_exists.1 hsome
    have hyid : y.id = x.id := by simpa using List.find?_some hy
    rw [hy, List.inj_on_of_nodup_map hids (List.mem_of_find?_eq_some hy) he (hyid.trans hid.symm)]
  simp [State.matchTxStat, hsent, hfound]

/-- A TXSTAT that arrives and can be read is applied (R87). -/
theorem exec_txstat_of_southArriving (s : State) (f : LinkFrame) (x : TxStat) (harrives : s.southArriving f) (hkind : f.header.kind = 7)
    (hread : readTxStat f.payload = some x) : exec (.txstat f) s = .next (s.applyTxStat x) := by
  have ⟨hrunning, _, _⟩ := harrives
  calc exec (.txstat f) s
      = s.live fun s => s.southFrame 7 f fun s => s.takeTxStat f := rfl
    _ = .next (s.southFrame 7 f fun s => s.takeTxStat f) := s.live_running _ hrunning
    _ = .next (s.applyTxStat x) := by rw [s.southFrame_taken 7 f _ harrives hkind, State.takeTxStat, hread]

theorem State.applyTxStat_sent (s : State) (x : TxStat) (e : Outstanding) (hmatch : s.matchTxStat x = some e) (hsent : x.result = .sent) :
    s.applyTxStat x = (s.setFlagIf (x.malformedFor e) .linkError).resolveSent x.acks e := by
  simp [State.applyTxStat, hmatch, hsent]

theorem State.applyTxStat_unsent (s : State) (x : TxStat) (e : Outstanding) (hmatch : s.matchTxStat x = some e)
    (hunsent : x.result ≠ .sent) : s.applyTxStat x = s.resolveUnsent e := by
  cases hresult : x.result with
  | sent => exact absurd hresult hunsent
  | expired => simp [State.applyTxStat, hmatch, hresult]
  | cancelled => simp [State.applyTxStat, hmatch, hresult]

/-! ### What the laws say of an outstanding head (R22, R78) -/

/-- The head of a release's queue is the released descriptor: its OUT entries are the release's ordinals, at least one, and no two of its entries
share an ordinal. -/
theorem State.outstanding_head (s : State) (e : Outstanding) (d : Descriptor) (rest : List Descriptor) (h : s.releasesLawful)
    (he : e ∈ s.gate.table) (hhead : (s.queue e.queue).descriptors = d :: rest) :
    (d.subframes.filter fun y => y.state == .out).map Subframe.ordinal = e.ordinals ∧ e.ordinals ≠ []
      ∧ (d.subframes.map Subframe.ordinal).Nodup := by
  obtain ⟨hqueues, -, -, -, htable, -⟩ := h
  obtain ⟨d', hd', -, -, hout, hsome⟩ := htable e he
  obtain rfl : d = d' := by simpa [Queue.head, hhead] using hd'
  obtain ⟨-, -, -, -, hdescriptors⟩ := hqueues e.queue
  obtain ⟨-, hordinals, -⟩ := hdescriptors d (by simp [hhead])
  exact ⟨hout, hsome, hordinals ▸ List.nodup_range⟩

/-- Every entry that a release includes is OUT. -/
theorem Descriptor.out_of_included (d : Descriptor) (ordinals : List Nat)
    (hout : (d.subframes.filter fun y => y.state == .out).map Subframe.ordinal = ordinals)
    (hnodup : (d.subframes.map Subframe.ordinal).Nodup) (y : Subframe) (hy : y ∈ d.subframes) (hyo : y.ordinal ∈ ordinals) :
    y.state = .out := by
  obtain ⟨z, hz, hzy⟩ := List.mem_map.1 (hout ▸ hyo)
  obtain ⟨hzd, hzout⟩ := List.mem_filter.1 hz
  obtain rfl := List.inj_on_of_nodup_map hnodup hzd hy hzy
  exact beq_iff_eq.1 hzout

/-! ### EXPIRED and CANCELLED (R92) -/

theorem Descriptor.applyUnsent_eq (e : Outstanding) (d : Descriptor) :
    d.applyUnsent e =
      { d with
        subframes := d.subframes.map fun y =>
          if y.ordinal ∈ e.ordinals then { y with state := .pending, attempts := y.attempts - 1 } else y
        outstanding := none } := by
  have hentry : ∀ y, Subframe.applyUnsent e.ordinals y
      = if y.ordinal ∈ e.ordinals then { y with state := .pending, attempts := y.attempts - 1 } else y := by
    intro y
    simp [Subframe.applyUnsent]
  simp only [Descriptor.applyUnsent, funext hentry]

/-- A head whose release is given back has a subframe to send. -/
theorem Descriptor.applyUnsent_unfinished (e : Outstanding) (d : Descriptor)
    (hout : (d.subframes.filter fun y => y.state == .out).map Subframe.ordinal = e.ordinals) (hsome : e.ordinals ≠ []) :
    (d.applyUnsent e).unfinished = true := by
  obtain ⟨o, ho⟩ := List.exists_mem_of_ne_nil _ hsome
  obtain ⟨y, hy, rfl⟩ := List.mem_map.1 (hout ▸ ho)
  have hpending : (Subframe.applyUnsent e.ordinals y).state = .pending := by simp [Subframe.applyUnsent, ho]
  have hmem : Subframe.applyUnsent e.ordinals y ∈ (d.applyUnsent e).subframes :=
    List.mem_map_of_mem (List.mem_filter.1 hy).1
  exact List.any_eq_true.2 ⟨_, hmem, by simp [hpending]⟩

/-- The part with the head's entries given back, before the release is resolved (R92). -/
def State.withUnsentHead (s : State) (e : Outstanding) : State :=
  s.modQueue e.queue fun x => x.modHead (Descriptor.applyUnsent e)

theorem State.resolveUnsent_eq (s : State) (e : Outstanding) : s.resolveUnsent e = (s.withUnsentHead e).settle e := rfl

theorem State.queue_withUnsentHead (s : State) (e : Outstanding) (d : Descriptor) (rest : List Descriptor)
    (hhead : (s.queue e.queue).descriptors = d :: rest) :
    (s.withUnsentHead e).queue e.queue = { s.queue e.queue with descriptors := d.applyUnsent e :: rest } := by
  rw [State.withUnsentHead, State.queue_modQueue_self, Queue.modHead_of_cons _ d rest _ hhead]

theorem State.queue_withUnsentHead_other (s : State) (e : Outstanding) (p : Fin 16) (hp : e.queue ≠ p) :
    (s.withUnsentHead e).queue p = s.queue p :=
  s.queue_modQueue_other e.queue p _ hp

/-! ### SENT (R88, R90, R91) -/

theorem Descriptor.applySent_eq (retry : Nat) (e : Outstanding) (acks : List Bool) (d : Descriptor) :
    d.applySent retry e acks =
      { d with
        subframes := d.subframes.map fun y =>
          if y.ordinal ∈ e.ordinals then
            { y with
              state :=
                if acks.getD (e.ordinals.idxOf y.ordinal) false then .delivered else if retry < y.attempts then .dropped else .pending }
          else y
        outstanding := none
        firstRelease := some (d.firstRelease.getD e.stamp) } := by
  have hentry : ∀ y, Subframe.applySent retry e.ordinals acks y
      = if y.ordinal ∈ e.ordinals then
          { y with
            state :=
              if acks.getD (e.ordinals.idxOf y.ordinal) false then .delivered else if retry < y.attempts then .dropped else .pending }
        else y := by
    intro y
    simp [Subframe.applySent, ackOf]
  cases hfirst : d.firstRelease <;> simp only [Descriptor.applySent, funext hentry, hfirst] <;> rfl

/-- A SENT result drops an entry of the descriptor (R90). -/
def Descriptor.dropsOn (retry : Nat) (e : Outstanding) (acks : List Bool) (d : Descriptor) : Bool :=
  d.subframes.any (Subframe.dropsOn retry e.ordinals acks)

theorem Descriptor.dropsOn_iff (retry : Nat) (e : Outstanding) (acks : List Bool) (d : Descriptor) :
    d.dropsOn retry e acks = true ↔
      ∃ y ∈ d.subframes, y.ordinal ∈ e.ordinals ∧ acks.getD (e.ordinals.idxOf y.ordinal) false = false ∧ retry < y.attempts := by
  simp [Descriptor.dropsOn, Subframe.dropsOn, ackOf, and_assoc]

/-- The part with a SENT result applied to the head and its drops flagged, before the release is resolved (R90, R91). -/
def State.withSentHead (s : State) (acks : List Bool) (e : Outstanding) (d : Descriptor) : State :=
  let drops := d.dropsOn (s.queue e.queue).config.retry e acks
  (s.modQueue e.queue fun x =>
    { (x.modHead (Descriptor.applySent x.config.retry e acks)) with droppedFlag := x.droppedFlag || drops }).setFlagIf drops
      .subframeDropped

section
variable (s : State) (acks : List Bool) (e : Outstanding) (d : Descriptor) (rest : List Descriptor)

@[simp] theorem State.withSentHead_keeps :
    (s.withSentHead acks e d).clock = s.clock ∧ (s.withSentHead acks e d).gate = s.gate
      ∧ (s.withSentHead acks e d).south = s.south ∧ (s.withSentHead acks e d).fifo = s.fifo
      ∧ (s.withSentHead acks e d).store = s.store := by
  simp [State.withSentHead]

theorem State.queue_withSentHead_other (p : Fin 16) (hp : e.queue ≠ p) : (s.withSentHead acks e d).queue p = s.queue p := by
  simp only [State.withSentHead, State.queue_setFlagIf, State.queue_modQueue_other _ _ p _ hp]

theorem State.flag_withSentHead (g : EventFlag) :
    (s.withSentHead acks e d).flag g =
      (s.flag g || (d.dropsOn (s.queue e.queue).config.retry e acks && decide (.subframeDropped = g))) := by
  simp [State.withSentHead]

variable (hhead : (s.queue e.queue).descriptors = d :: rest)
include hhead

theorem State.queue_withSentHead :
    (s.withSentHead acks e d).queue e.queue =
      { s.queue e.queue with
        descriptors := d.applySent (s.queue e.queue).config.retry e acks :: rest
        droppedFlag := (s.queue e.queue).droppedFlag || d.dropsOn (s.queue e.queue).config.retry e acks } := by
  simp only [State.withSentHead, State.queue_setFlagIf, State.queue_modQueue_self, Queue.modHead_of_cons _ d rest _ hhead]

theorem State.resolveSent_eq : s.resolveSent acks e = (s.withSentHead acks e d).settle e := by
  simp only [State.resolveSent, Queue.head_of_cons _ d rest hhead]
  rfl

/-- Resolving a SENT release unlists it, and the queues of other releases stand. -/
theorem State.resolveSent_unlists :
    (s.resolveSent acks e).gate = (s.unlist e).gate ∧ (s.resolveSent acks e).south = (s.unlist e).south
      ∧ ∀ p, e.queue ≠ p → (s.resolveSent acks e).queue p = s.queue p := by
  rw [s.resolveSent_eq acks e d rest hhead]
  refine ⟨?_, ?_, fun p hp => ?_⟩
  · simp [State.unlist]
  · simp [State.unlist]
  · rw [State.queue_settle_other _ e p hp, s.queue_withSentHead_other acks e d p hp]

/-- A drop sets the queue's DROPPED flag (R91). -/
theorem State.resolveSent_droppedFlag :
    ((s.resolveSent acks e).queue e.queue).droppedFlag =
      ((s.queue e.queue).droppedFlag || d.dropsOn (s.queue e.queue).config.retry e acks) := by
  have hqueue := s.queue_withSentHead acks e d rest hhead
  rw [s.resolveSent_eq acks e d rest hhead, State.settle_droppedFlag _ e _ rest (by rw [hqueue]), hqueue]

/-- A drop sets SUBFRAME_DROPPED, and no other flag but DRAIN_DONE changes (R91, R93). -/
theorem State.flag_resolveSent (g : EventFlag) (hg : g ≠ .drainDone) :
    (s.resolveSent acks e).flag g =
      (s.flag g || (d.dropsOn (s.queue e.queue).config.retry e acks && decide (.subframeDropped = g))) := by
  rw [s.resolveSent_eq acks e d rest hhead, State.flag_settle_other _ e g hg, State.flag_withSentHead]

/-- A head with a subframe still to send stays with its entries changed (R90, R93). -/
theorem State.resolveSent_unfinished (hstate : (s.queue e.queue).state ≠ .draining)
    (hd : (d.applySent (s.queue e.queue).config.retry e acks).unfinished = true) :
    ((s.resolveSent acks e).queue e.queue).descriptors = d.applySent (s.queue e.queue).config.retry e acks :: rest
      ∧ ((s.resolveSent acks e).queue e.queue).state = (s.queue e.queue).state
      ∧ ((s.resolveSent acks e).queue e.queue).aging = (s.queue e.queue).aging
      ∧ (s.resolveSent acks e).fifo = s.fifo ∧ (s.resolveSent acks e).store = s.store := by
  have hqueue := s.queue_withSentHead acks e d rest hhead
  rw [s.resolveSent_eq acks e d rest hhead,
    State.settle_unfinished _ e _ rest (by rw [hqueue]) (by rwa [hqueue]) hd, State.queue_reevaluate_self, State.queue_unlist, hqueue]
  simp [State.unlist]

/-- A finished head completes (R90, R93). -/
theorem State.resolveSent_finished (hstate : (s.queue e.queue).state ≠ .draining)
    (hd : (d.applySent (s.queue e.queue).config.retry e acks).unfinished = false) :
    ((s.resolveSent acks e).queue e.queue).descriptors = rest
      ∧ ((s.resolveSent acks e).queue e.queue).state = (s.queue e.queue).state
      ∧ (s.resolveSent acks e).fifo =
        s.fifo.fill (doneRecord (s.queue e.queue) (d.applySent (s.queue e.queue).config.retry e acks) s.now)
      ∧ (s.resolveSent acks e).store = s.store.free (d.applySent (s.queue e.queue).config.retry e acks) := by
  have hqueue := s.queue_withSentHead acks e d rest hhead
  have hsettle := State.settle_finished _ e _ rest (by rw [hqueue]) (by rwa [hqueue]) hd
  rw [hqueue] at hsettle
  simpa [s.resolveSent_eq acks e d rest hhead, State.now] using hsettle

/-- The head of a DRAINING queue completes with its entries changed, and the queue closes (R90, R93). -/
theorem State.resolveSent_draining (hstate : (s.queue e.queue).state = .draining) :
    ((s.resolveSent acks e).queue e.queue).descriptors = rest ∧ ((s.resolveSent acks e).queue e.queue).state = .closed
      ∧ (s.resolveSent acks e).fifo =
        s.fifo.fill (doneRecord (s.queue e.queue) (d.applySent (s.queue e.queue).config.retry e acks) s.now)
      ∧ (s.resolveSent acks e).store = s.store.free (d.applySent (s.queue e.queue).config.retry e acks)
      ∧ (s.resolveSent acks e).flag .drainDone = true := by
  have hqueue := s.queue_withSentHead acks e d rest hhead
  have hsettle := State.settle_draining _ e _ rest (by rw [hqueue]) (by rwa [hqueue])
  rw [hqueue] at hsettle
  simpa [s.resolveSent_eq acks e d rest hhead, State.now] using hsettle

end

/-! ### The answered release -/

/-- Settles O24: the release is matched, its head's entries are given back, and the resolution leaves the head or closes its drained queue. -/
theorem unsentTxStatRestoresTheSubframes : Obligations.UnsentTxStatRestoresTheSubframes := by
  intro s f x e d rest harrives hkind hread hunsentResult hlawful he hid hsent hhead d'
  obtain ⟨hout, hsome, hnodup⟩ := s.outstanding_head e d rest hlawful he hhead
  obtain ⟨-, -, hids, -⟩ := hlawful
  have hd' : d.applyUnsent e = d' := Descriptor.applyUnsent_eq e d
  have hunfinished : d'.unfinished = true := hd' ▸ Descriptor.applyUnsent_unfinished e d hout hsome
  let u := s.withUnsentHead e
  have hexec : exec (.txstat f) s = .next (u.settle e) := by
    rw [exec_txstat_of_southArriving s f x harrives hkind hread,
      s.applyTxStat_unsent x e (s.matchTxStat_of_mem x e hids he hid hsent) hunsentResult, State.resolveUnsent_eq]
  have hqueue : u.queue e.queue = { s.queue e.queue with descriptors := d' :: rest } := hd' ▸ s.queue_withUnsentHead e d rest hhead
  have huhead : (u.queue e.queue).descriptors = d' :: rest := by rw [hqueue]
  refine ⟨d.out_of_included e.ordinals hout hnodup, u.settle e, hexec, u.settle_gate e, u.settle_south e, fun hstate => ?stays,
    fun hstate => ?drains, fun g hg => u.flag_settle_other e g hg, ?flag, fun p hp => ?other⟩
  case stays =>
    have hustate : (u.queue e.queue).state ≠ .draining := by rwa [hqueue]
    rw [u.settle_unfinished e d' rest huhead hustate hunfinished]
    refine ⟨rfl, ?_⟩
    rw [State.queue_reevaluate_self, State.queue_unlist, hqueue]
  case drains =>
    have hustate : (u.queue e.queue).state = .draining := by rwa [hqueue]
    obtain ⟨hdescriptors, hclosed, hfifo, -, hflag⟩ := u.settle_draining e d' rest huhead hustate
    refine ⟨hdescriptors, hclosed, ?_, hflag⟩
    rw [hfifo, hqueue]
    rfl
  case flag => rw [u.settle_droppedFlag e d' rest huhead, hqueue]
  case other => rw [u.queue_settle_other e p hp.symm, s.queue_withUnsentHead_other e p hp.symm]

/-- Settles O23: the release is matched, LINK_ERROR set for a malformed answer, and the release resolved as SENT; each clause is what the resolution
says of the head, read on the part with that flag set. -/
theorem sentTxStatResolvesItsRelease : Obligations.SentTxStatResolvesItsRelease := by
  intro s f x e d rest harrives hkind hread hsentResult hlawful he hid hsent hhead k acked d' drops finished completed
  obtain ⟨-, -, hids, -⟩ := hlawful
  let u := s.setFlagIf (x.malformedFor e) .linkError
  have hexec : exec (.txstat f) s = .next (u.resolveSent x.acks e) := by
    rw [exec_txstat_of_southArriving s f x harrives hkind hread,
      s.applyTxStat_sent x e (s.matchTxStat_of_mem x e hids he hid hsent) hsentResult]
  have hqueue : u.queue e.queue = k := s.queue_setFlagIf _ _ _
  have hd' : d.applySent (u.queue e.queue).config.retry e x.acks = d' := hqueue ▸ Descriptor.applySent_eq _ e x.acks d
  have hdrops : d.dropsOn (u.queue e.queue).config.retry e x.acks = true ↔ drops :=
    hqueue ▸ d.dropsOn_iff k.config.retry e x.acks
  have hfinished : d'.unfinished = false ↔ finished := d'.unfinished_eq_false_iff
  have hcompleted : u.fifo.fill (doneRecord k d' u.now) = completed := by
    simp only [u, State.now, State.setFlagIf_keeps]
    rfl
  have hstore : u.store = s.store := by simp [u]
  have huhead : (u.queue e.queue).descriptors = d :: rest := hqueue ▸ hhead
  obtain ⟨hgate, hsouth, hother⟩ := u.resolveSent_unlists x.acks e d rest huhead
  have hdropped := u.resolveSent_droppedFlag x.acks e d rest huhead
  have hflag := u.flag_resolveSent x.acks e d rest huhead
  have hstays := u.resolveSent_unfinished x.acks e d rest huhead
  have hcompletes := u.resolveSent_finished x.acks e d rest huhead
  have hdrains := u.resolveSent_draining x.acks e d rest huhead
  rw [hd', hqueue] at hstays hcompletes hdrains
  rw [hcompleted, hstore] at hcompletes hdrains
  refine ⟨_, hexec, ?gate, ?south, fun h => ?drops, fun h => ?keeps, fun h => ?error, fun hopen hnot => ?stays,
    fun hopen hdone => hcompletes hopen (hfinished.2 hdone), hdrains, fun p hp => ?other, ?rest⟩
  case gate => simp [hgate, State.unlist, u]
  case south => simp [hsouth, State.unlist, u]
  case drops => simp [hdropped, hflag, hdrops.2 h]
  case keeps => rw [hdropped, Bool.eq_false_iff.2 (mt hdrops.1 h), Bool.or_false, hqueue]
  case error =>
    rw [hflag .linkError (by decide), State.flag_setFlagIf, h]
    simp
  case stays =>
    have hunfinished : d'.unfinished = true := by simpa using mt hfinished.1 hnot
    simpa [u] using hstays hopen hunfinished
  case other => rw [hother p hp.symm, State.queue_setFlagIf]
  case rest => simp [u]

end Sys2Proof.Machine

/-! PROOFS. The survey (R111, R112): what a report leaves in its channel's entry, and the commands READ_SURVEY and CLEAR_SURVEY. -/

namespace Sys2Proof.Machine

/-! ### Which entry a channel names -/

/-- A channel names a survey entry exactly when it is that entry's number, counted from 1 (R111). -/
theorem surveyIndex_eq_some_iff (channel : Nat) (i : Fin 14) : surveyIndex channel = some i ↔ channel = i.val + 1 := by
  unfold surveyIndex
  split_ifs <;> simp [Fin.ext_iff] <;> omega

theorem surveyIndex_eq_none_iff (channel : Nat) : surveyIndex channel = none ↔ channel = 0 ∨ 15 ≤ channel := by
  unfold surveyIndex
  split_ifs <;> simp <;> omega

/-! ### The samples counted (R111) -/

/-- Samples added one by one to an entry within its range: every interval to the listen count, those at or above the on level to the busy count
too, each count clamped once at the end as at every step. -/
theorem SurveyEntry.foldl_add (interval : Nat) (onLevel : Int) (samples : List Int) (x : SurveyEntry)
    (hlisten : x.listen ≤ 4294967295) (hbusy : x.busy ≤ 4294967295) :
    samples.foldl (fun x level => x.add interval (decide (onLevel ≤ level))) x =
      { listen := min 4294967295 (x.listen + samples.length * interval)
        busy := min 4294967295 (x.busy + (samples.filter fun level => decide (onLevel ≤ level)).length * interval) } := by
  induction samples generalizing x with
  | nil => simp [hlisten, hbusy]
  | cons level rest ih =>
    have hadded : (x.add interval (decide (onLevel ≤ level))).listen = min 4294967295 (x.listen + interval) :=
      saturate_eq_min _ _
    by_cases hloud : onLevel ≤ level
    case pos =>
      have hcounted : (x.add interval (decide (onLevel ≤ level))).busy = min 4294967295 (x.busy + interval) := by
        simp [SurveyEntry.add, hloud, saturate_eq_min]
      rw [List.foldl_cons, ih _ (by omega) (by omega), hadded, hcounted]
      simp only [List.length_cons, List.filter_cons, hloud, decide_true, if_true, Nat.succ_mul, SurveyEntry.mk.injEq]
      omega
    case neg =>
      have hcounted : (x.add interval (decide (onLevel ≤ level))).busy = x.busy := by simp [SurveyEntry.add, hloud]
      rw [List.foldl_cons, ih _ (by omega) (by omega), hadded, hcounted]
      simp only [List.length_cons, List.filter_cons, hloud, decide_false, Bool.false_eq_true, if_false, Nat.succ_mul,
        SurveyEntry.mk.injEq, and_true]
      omega

/-- A report changes the entry of its channel and no other. -/
theorem Detector.surveyReport_survey (d : Detector) (onLevel : Int) (r : EnergyReport) (i : Fin 14) (h : r.channel = i.val + 1) :
    (d.surveyReport onLevel r).survey =
      d.survey.set i (r.samples.foldl (fun x level => x.add r.interval (decide (onLevel ≤ level))) d.survey[i]) := by
  simp [Detector.surveyReport, (surveyIndex_eq_some_iff r.channel i).2 h]

/-! ### The detector's other work leaves the survey -/

@[simp] theorem Track.startBurst_survey (t : Track) (n : Nat) (stamp : Instant) (certain : Bool) (level : Int) :
    (t.startBurst n stamp certain level).state.detector.survey = t.state.detector.survey := by
  cases certain <;> simp [Track.startBurst]

@[simp] theorem Track.sampleIdle_survey (t : Track) (n : Nat) (stamp : Instant) (certain : Bool) (level : Int) :
    (t.sampleIdle n stamp certain level).state.detector.survey = t.state.detector.survey := by
  unfold Track.sampleIdle
  split <;> simp

@[simp] theorem Track.sample_survey (t : Track) (n : Nat) (stamp : Instant) (certain : Bool) (level : Int) :
    (t.sample n stamp certain level).state.detector.survey = t.state.detector.survey := by
  unfold Track.sample
  (repeat' split) <;> simp

@[simp] theorem Track.samples_survey (t : Track) (n : Nat) (r : EnergyReport) (oldEnd : Option Instant) (i : Nat)
    (levels : List Int) : (Track.samples n r oldEnd i levels t).state.detector.survey = t.state.detector.survey := by
  induction levels generalizing t i with
  | nil => rfl
  | cons level rest ih =>
    simp only [Track.samples, ih]
    (repeat' split) <;> simp

@[simp] theorem Track.removeSpans_survey (t : Track) (kept : List Span) :
    (t.removeSpans kept).state.detector.survey = t.state.detector.survey := by
  obtain h | ⟨-, h⟩ := t.removeSpans_detector kept <;> simp [h]

@[simp] theorem Track.ageSpans_survey (t : Track) : t.ageSpans.state.detector.survey = t.state.detector.survey := by
  unfold Track.ageSpans
  (repeat' split) <;> simp

/-! ### The event ENERGY_REPORT -/

/-- A detection report counts its samples after the burst detector has seen them, in the survey that was there before (R109, R111). -/
theorem State.detectionReport_survey (s : State) (n : Nat) (r : EnergyReport) (i : Fin 14) (h : r.channel = i.val + 1) :
    (s.detectionReport n r).detector.survey = (s.detector.surveyReport s.settings.onLevel r).survey := by
  unfold State.detectionReport
  dsimp only
  split <;> simp [Detector.surveyReport_survey _ _ r i h]

/-- Detection reports and survey-only reports count alike (R99, R111). -/
theorem State.energyReport_survey (s : State) (r : EnergyReport) (i : Fin 14) (h : r.channel = i.val + 1) :
    (s.energyReport r).detector.survey = (s.detector.surveyReport s.settings.onLevel r).survey := by
  unfold State.energyReport
  (repeat' split)
  · exact s.detectionReport_survey _ r i h
  · rfl
  · rfl

/-- An accepted report that arrives whole is given to the detector (R99). -/
theorem exec_energyReport_of_southArriving (s : State) (f : LinkFrame) (r : EnergyReport) (harrives : s.southArriving f)
    (hkind : f.header.kind = 6) (hread : readEnergy f.header f.payload = some r) :
    exec (.energyReport f) s = .next (s.energyReport r) := by
  have ⟨hrunning, _, _⟩ := harrives
  calc exec (.energyReport f) s
      = s.live fun s => s.southFrame 6 f fun s => s.takeEnergy f := rfl
    _ = .next (s.southFrame 6 f fun s => s.takeEnergy f) := s.live_running _ hrunning
    _ = .next (s.takeEnergy f) := by rw [s.southFrame_taken 6 f _ harrives hkind]
    _ = .next (s.energyReport r) := by simp [State.takeEnergy, hread]

/-- An accepted report holds at most 128 samples at intervals of at most 256 µs (R99). -/
theorem readEnergy_bounds (h : LaneHeader) (payload : List Byte) (r : EnergyReport) (hread : readEnergy h payload = some r) :
    r.samples.length ≤ 128 ∧ r.interval ≤ 256 := by
  simp only [readEnergy, Option.ite_none_right_eq_some, Option.some.injEq] at hread
  obtain ⟨⟨-, -, -, -, hinterval, -, hcount, -⟩, rfl⟩ := hread
  simpa using ⟨hcount, hinterval⟩

/-- The first report counted in a cleared entry gives the entry's counts, well below their ceiling (R112). -/
theorem State.energyReport_survey_of_clear (s : State) (r : EnergyReport) (i : Fin 14) (hchannel : r.channel = i.val + 1)
    (hlength : r.samples.length ≤ 128) (hinterval : r.interval ≤ 256)
    (hclear : s.detector.survey[i] = { listen := 0, busy := 0 }) :
    (s.energyReport r).detector.survey[i] =
      { listen := r.samples.length * r.interval
        busy := (r.samples.filter fun x => decide (s.settings.onLevel ≤ x)).length * r.interval } := by
  have hloud := (r.samples.length_filter_le fun x => decide (s.settings.onLevel ≤ x)).trans hlength
  have hlisten : r.samples.length * r.interval ≤ 128 * 256 := Nat.mul_le_mul hlength hinterval
  have hbusy : (r.samples.filter fun x => decide (s.settings.onLevel ≤ x)).length * r.interval ≤ 128 * 256 :=
    Nat.mul_le_mul hloud hinterval
  rw [s.energyReport_survey r i hchannel, Detector.surveyReport_survey _ _ r i hchannel, hclear,
    SurveyEntry.foldl_add _ _ _ _ (by decide) (by decide)]
  simp only [Fin.getElem_fin, Vector.getElem_set_self, SurveyEntry.mk.injEq]
  omega

/-! ### READ_SURVEY (R112) -/

/-- READ_SURVEY returns the survey's image, and nothing but the answer changes. -/
theorem exec_readSurvey_ok (s : State) (l : ControlList) (target : Byte) (h : s.executes l { code := 80, target, data := [] })
    (hroom : 112 ≤ l.room) :
    exec (.readSurvey target []) s =
      .next (s.answered l { code := 80, target, data := [] } .ok (surveyImage s.detector)) :=
  calc exec (.readSurvey target []) s
      = s.live fun s => s.command 80 target [] none 112 fun s => (s, surveyImage s.detector) := rfl
    _ = .next (s.command 80 target [] none 112 fun s => (s, surveyImage s.detector)) :=
        s.live_running _ (s.inReset_of_executes l _ h)
    _ = _ := by rw [s.command_done l _ _ _ 112 _ h hroom rfl]

/-! ### CLEAR_SURVEY (R112) -/

/-- The target names neither a channel of the survey nor all of them. -/
def badSurveyTarget (target : Byte) : Bool := target != 255 && (surveyIndex target.toNat).isNone

theorem badSurveyTarget_eq_true_iff (target : Byte) :
    badSurveyTarget target = true ↔ target = 0 ∨ 15 ≤ target.toNat ∧ target.toNat ≤ 254 := by
  simp only [badSurveyTarget, Bool.and_eq_true, bne_iff_ne, Option.isNone_iff_eq_none, surveyIndex_eq_none_iff]
  bv_omega

/-- CLEAR_SURVEY without data, as a command of a running part. -/
theorem exec_clearSurvey_running (s : State) (target : Byte) (hrunning : s.inReset = false) :
    exec (.clearSurvey target []) s =
      .next (s.command 81 target [] (if badSurveyTarget target then some .badTarget else none) 0 fun s =>
        (s.withDetector (s.detector.clearSurvey target), [])) :=
  s.live_running
    (fun s => s.command 81 target [] (if badSurveyTarget target then some .badTarget else none) 0 fun s =>
      (s.withDetector (s.detector.clearSurvey target), []))
    hrunning

/-- A target that names no entry is refused. -/
theorem exec_clearSurvey_badTarget (s : State) (l : ControlList) (target : Byte)
    (h : s.executes l { code := 81, target, data := [] }) (htarget : badSurveyTarget target = true) :
    exec (.clearSurvey target []) s = .next (s.answered l { code := 81, target, data := [] } .badTarget []) := by
  rw [exec_clearSurvey_running s target (s.inReset_of_executes l _ h), if_pos htarget, s.command_refused l _ _ _ _ _ _ h]

/-- A target that names an entry, or all, has the detector clear them. -/
theorem exec_clearSurvey_ok (s : State) (l : ControlList) (target : Byte) (h : s.executes l { code := 81, target, data := [] })
    (htarget : ¬ badSurveyTarget target = true) :
    exec (.clearSurvey target []) s =
      .next ((s.withDetector (s.detector.clearSurvey target)).answered l { code := 81, target, data := [] } .ok []) := by
  rw [exec_clearSurvey_running s target (s.inReset_of_executes l _ h), if_neg htarget,
    s.command_done l _ _ _ 0 _ h (Nat.zero_le _) rfl]

theorem Detector.clearSurvey_channel (d : Detector) (target : Byte) (i : Fin 14) (h : target.toNat = i.val + 1) :
    d.clearSurvey target = { d with survey := d.survey.set i { listen := 0, busy := 0 } } := by
  have hone : target ≠ 255 := by bv_omega
  rw [Detector.clearSurvey, if_neg hone, (surveyIndex_eq_some_iff target.toNat i).2 h]

theorem Detector.clearSurvey_all (d : Detector) :
    d.clearSurvey 255 = { d with survey := Vector.replicate 14 { listen := 0, busy := 0 } } := rfl

/-- Settles O40: READ_SURVEY returns the image, CLEAR_SURVEY goes by its target, and a report counted in a cleared entry starts its counts. -/
theorem surveyCommandsReadAndClear : Obligations.SurveyCommandsReadAndClear := by
  intro s l target
  refine ⟨exec_readSurvey_ok s l target, fun h => ⟨fun i hchannel => ?one, fun hall => ?all, fun hbad => ?bad⟩,
    fun f r i harrives hkind hread hchannel hclear => ?report⟩
  case one =>
    have hgood : ¬ badSurveyTarget target = true := by rw [badSurveyTarget_eq_true_iff]; bv_omega
    rw [exec_clearSurvey_ok s l target h hgood, s.detector.clearSurvey_channel target i hchannel]
    rfl
  case all =>
    subst hall
    rw [exec_clearSurvey_ok s l 255 h (by decide), s.detector.clearSurvey_all]
    rfl
  case bad => exact exec_clearSurvey_badTarget s l target h ((badSurveyTarget_eq_true_iff target).2 hbad)
  case report =>
    obtain ⟨hlength, hinterval⟩ := readEnergy_bounds f.header f.payload r hread
    exact ⟨_, exec_energyReport_of_southArriving s f r harrives hkind hread,
      s.energyReport_survey_of_clear r i hchannel hlength hinterval hclear⟩

end Sys2Proof.Machine

/-! PROOFS. ATTN (R154): every operation keeps it following the flags and enables, hence so does every step; and a FULL part reset and CLEAR_EVENTS
of all deassert it. -/

namespace Sys2Proof.Machine

/-! ### The event block -/

/-- A FULL part reset clears flags, enables and ATTN together (R152 to R154). -/
theorem Events.afterReset_full_lawful (e : Events) : (e.afterReset .full).lawful := by
  simp [Events.lawful, Events.afterReset]

theorem Events.afterReset_lawful (e : Events) (scope : ResetScope) (h : e.lawful) : (e.afterReset scope).lawful := by
  cases scope with
  | traffic => exact h
  | full => exact e.afterReset_full_lawful

/-- With no enable set ATTN is not asserted. -/
theorem Events.attn_of_no_enables (e : Events) (h : e.lawful) (henables : e.enables = 0) : e.attn = false := by
  simpa [Events.lawful, henables] using h

/-! ### Setting flags and queueing NOTICEs -/

theorem State.queueNotice_lawful (s : State) (h : s.events.lawful) : s.queueNotice.events.lawful := by
  obtain ⟨hflags, henables, hattn⟩ := s.queueNotice_events
  exact Events.lawful_of_eq h hflags henables hattn

theorem State.setFlagIf_lawful (s : State) (c : Bool) (f : EventFlag) (h : s.events.lawful) :
    (s.setFlagIf c f).events.lawful := by
  cases c with
  | false => exact h
  | true => exact s.setFlag_lawful f h

theorem State.setFlags_lawful (s : State) (fs : List EventFlag) (h : s.events.lawful) : (s.setFlags fs).events.lawful :=
  fs.foldlRecOn State.setFlag h fun u hu f _ => u.setFlag_lawful f hu

@[simp] theorem State.setFlagIf_enables (s : State) (c : Bool) (f : EventFlag) :
    (s.setFlagIf c f).events.enables = s.events.enables := by
  cases c with
  | false => rfl
  | true => exact (s.setFlag_flags f).2

/-! ### The window unit and the release gate -/

theorem State.search_lawful (s : State) (opened : Bool) (h : s.events.lawful) : (s.search opened).events.lawful := by
  unfold State.search
  dsimp only
  split
  case isTrue =>
    have hflag := State.setFlagIf_lawful { s with window := s.searchResult }
      (s.searchResult.saturated && !s.window.saturated) .channelSaturated h
    split <;> simpa using hflag
  case isFalse => simpa using h

/-- A search sets at most a flag, and leaves the enables. -/
@[simp] theorem State.search_enables (s : State) (opened : Bool) : (s.search opened).events.enables = s.events.enables := by
  unfold State.search
  dsimp only
  (repeat' split) <;> simp

theorem State.releaseHead_lawful (s : State) (q : Fin 16) (d : Descriptor) (r : Rate) (v : Verdict) (h : s.events.lawful) :
    (s.releaseHead q d r v).events.lawful :=
  State.search_lawful _ _ (State.setFlagIf_lawful _ _ .frameForced h)

theorem State.arbitrate_lawful (n : Nat) (s : State) (h : s.events.lawful) : (State.arbitrate n s).events.lawful := by
  induction n generalizing s with
  | zero => exact h
  | succ n ih =>
    unfold State.arbitrate
    split
    case h_1 => exact h
    case h_2 =>
      split
      case h_1 => exact State.releaseHead_lawful _ _ _ _ _ h
      case h_2 => exact ih _ h

/-! ### Draining and the resolution of releases -/

theorem State.closeDrained_lawful (s : State) (q : Fin 16) (h : s.events.lawful) : (s.closeDrained q).events.lawful :=
  State.setFlag_lawful _ .drainDone h

@[simp] theorem State.foldl_finish_events (q : Fin 16) (list : List Descriptor) (s : State) :
    (list.foldl (fun u d => u.finish q d) s).events = s.events := by
  induction list generalizing s with
  | nil => rfl
  | cons d list ih => exact ih _

theorem State.drain_lawful (s : State) (q : Fin 16) (h : s.events.lawful) : (s.drain q).events.lawful := by
  unfold State.drain
  dsimp only
  split
  case isTrue => exact State.closeDrained_lawful _ q (by simpa using h)
  case isFalse => simpa using h

theorem State.settle_lawful (s : State) (e : Outstanding) (h : s.events.lawful) : (s.settle e).events.lawful := by
  have hunlisted : (s.unlist e).events.lawful := h
  have hhead : ((s.unlist e).finishHead e.queue).events.lawful := by simpa using hunlisted
  rcases s.settle_cases e with ⟨-, hs⟩ | ⟨_, -, -, -, hs⟩ | ⟨-, hs⟩ <;> rw [hs]
  · exact h
  · exact hhead
  · exact State.closeDrained_lawful _ _ hhead

theorem State.resolveSent_lawful (s : State) (acks : List Bool) (e : Outstanding) (h : s.events.lawful) :
    (s.resolveSent acks e).events.lawful :=
  State.settle_lawful _ e (State.setFlagIf_lawful _ _ .subframeDropped h)

theorem State.resolveUnsent_lawful (s : State) (e : Outstanding) (h : s.events.lawful) : (s.resolveUnsent e).events.lawful :=
  State.settle_lawful _ e h

theorem State.resolveAll_lawful (s : State) (h : s.events.lawful) : s.resolveAll.events.lawful :=
  s.gate.table.foldlRecOn (motive := fun u : State => u.events.lawful) _ h fun u hu e _ => u.resolveSent_lawful [] e hu

theorem State.applyTxStat_lawful (s : State) (x : TxStat) (h : s.events.lawful) : (s.applyTxStat x).events.lawful := by
  unfold State.applyTxStat
  split
  case h_1 => exact s.setFlag_lawful .strayStatus h
  case h_2 e _ =>
    cases x.result with
    | sent => exact State.resolveSent_lawful _ _ e (s.setFlagIf_lawful _ .linkError h)
    | expired => exact s.resolveUnsent_lawful e h
    | cancelled => exact s.resolveUnsent_lawful e h

/-! ### The source tracker, the burst detector and the ring -/

/-- While an event is under way at the tracker its flags wait; handing on sets them (R128). -/
theorem Track.handOn_lawful (t : Track) (h : t.state.events.lawful) : t.handOn.events.lawful := by
  have hadded : (t.state.addBusyAll t.additions).events.lawful := by simpa using h
  refine State.setFlags_lawful _ t.raised ?_
  split
  case isTrue => exact State.search_lawful _ _ hadded
  case isFalse => exact hadded

theorem State.readBeacon_lawful (s : State) (payload : List Byte) (h : s.events.lawful) :
    (s.readBeacon payload).events.lawful := by
  unfold State.readBeacon
  split
  case h_1 =>
    split
    case isTrue => exact Track.handOn_lawful _ (by simpa using h)
    case isFalse => exact h
  case h_2 => exact h

theorem State.detectionReport_lawful (s : State) (n : Nat) (r : EnergyReport) (h : s.events.lawful) :
    (s.detectionReport n r).events.lawful := by
  refine Track.handOn_lawful _ ?_
  split <;> simpa using h

theorem State.energyReport_lawful (s : State) (r : EnergyReport) (h : s.events.lawful) : (s.energyReport r).events.lawful := by
  unfold State.energyReport
  split
  case h_1 n _ =>
    split
    case isTrue => exact s.detectionReport_lawful n r h
    case isFalse => exact h
  case h_2 => exact h

theorem State.ageCoverage_lawful (s : State) (h : s.events.lawful) : s.ageCoverage.events.lawful :=
  Track.handOn_lawful _ (by simpa using h)

theorem State.handRing_lawful (s : State) (r : Ring) (h : s.events.lawful) : (s.handRing r).events.lawful := by
  refine State.setFlagIf_lawful _ _ .ringStopped (State.search_lawful _ _ ?_)
  split <;> simpa using h

/-! ### Radio state changes -/

theorem State.changeRadio_lawful (s : State) (radio : Radio) (last : Option Nat) (opened : Bool) (h : s.events.lawful) :
    (s.changeRadio radio last opened).events.lawful :=
  State.setFlags_lawful _ _ (State.search_lawful _ _ (by simpa using h))

theorem State.applyRadio_lawful (s : State) (r : RadioRecord) (h : s.events.lawful) : (s.applyRadio r).events.lawful := by
  unfold State.applyRadio
  split
  case h_1 n _ => exact s.changeRadio_lawful _ _ _ h
  case h_2 => exact s.changeRadio_lawful _ _ _ h
  case h_3 => exact h
  case h_4 =>
    split
    case h_1 => exact s.changeRadio_lawful _ _ _ h
    case h_2 => exact h
  case h_5 => exact h

theorem State.southLost_lawful (s : State) (h : s.events.lawful) : s.southLost.events.lawful := by
  unfold State.southLost
  split
  case isTrue =>
    have hresolved := State.resolveAll_lawful
      (s.withSouth { s.south with synced := false, txdata := [], cancels := [], sending := none }) h
    refine State.setFlag_lawful _ .radioLost ?_
    split
    case isTrue => exact hresolved
    case isFalse => exact State.changeRadio_lawful _ _ _ _ hresolved
  case isFalse => exact h

/-! ### Frames received -/

theorem State.refuse_lawful (s : State) (header : LaneHeader) (result : DoneResult) (count : Nat) (h : s.events.lawful) :
    (s.refuse header result count).events.lawful := by
  rw [State.refuse_eq]
  exact State.setFlag_lawful _ .frameRefused h

theorem State.takeData_lawful (s : State) (f : LinkFrame) (h : s.events.lawful) : (s.takeData f).events.lawful := by
  unfold State.takeData
  split
  case h_1 => exact s.refuse_lawful _ _ _ h
  case h_2 =>
    split
    case h_1 => exact s.refuse_lawful _ _ _ h
    case h_2 => simpa using h
    case h_3 => exact s.refuse_lawful _ _ _ h

theorem State.takeControl_lawful (s : State) (f : LinkFrame) (h : s.events.lawful) : (s.takeControl f).events.lawful := by
  unfold State.takeControl
  dsimp only
  split
  case h_1 => exact State.setFlag_lawful _ .controlOverrun h
  case h_2 => split <;> exact h

theorem State.takeRxdata_lawful (s : State) (f : LinkFrame) (h : s.events.lawful) : (s.takeRxdata f).events.lawful := by
  refine State.readBeacon_lawful _ f.payload ?_
  unfold State.passRxdata
  split
  case isTrue => exact h
  case isFalse => exact s.setFlag_lawful .rxDropped h

theorem State.takeEnergy_lawful (s : State) (f : LinkFrame) (h : s.events.lawful) : (s.takeEnergy f).events.lawful := by
  unfold State.takeEnergy
  split
  case h_1 r _ => exact s.energyReport_lawful r h
  case h_2 => exact s.setFlag_lawful .linkError h

theorem State.takeTxStat_lawful (s : State) (f : LinkFrame) (h : s.events.lawful) : (s.takeTxStat f).events.lawful := by
  unfold State.takeTxStat
  split
  case h_1 x _ => exact s.applyTxStat_lawful x h
  case h_2 => exact s.setFlag_lawful .linkError h

theorem State.takeRadio_lawful (s : State) (f : LinkFrame) (h : s.events.lawful) : (s.takeRadio f).events.lawful := by
  unfold State.takeRadio
  split
  case h_1 r _ => exact s.applyRadio_lawful r h
  case h_2 => exact s.setFlag_lawful .linkError h

theorem State.discardNorth_lawful (s : State) (reserved checkFailed : Bool) (h : s.events.lawful) :
    (s.discardNorth reserved checkFailed).events.lawful := by
  refine State.setFlagIf_lawful _ checkFailed .linkError ?_
  split <;> exact h

/-- A north frame that is not given to its event is discarded at most. -/
theorem State.northFrame_lawful (s : State) (kind : Byte) (f : LinkFrame) (taken : State → State)
    (htaken : ∀ u : State, u.events.lawful → (taken u).events.lawful) (h : s.events.lawful) :
    (s.northFrame kind f taken).events.lawful := by
  unfold State.northFrame
  split
  case isFalse => exact h
  case isTrue =>
    extract_lets headed
    have hheaded : headed.events.lawful := by
      unfold headed
      split <;> simpa using h
    split
    case h_2 => exact hheaded
    case h_1 =>
      (repeat' split)
      · exact State.discardNorth_lawful _ _ _ hheaded
      · exact htaken _ hheaded
      · exact h
      · exact State.discardNorth_lawful _ _ _ hheaded
      · exact h

theorem State.southFrame_lawful (s : State) (kind : Byte) (f : LinkFrame) (taken : State → State)
    (htaken : ∀ u : State, u.events.lawful → (taken u).events.lawful) (h : s.events.lawful) :
    (s.southFrame kind f taken).events.lawful := by
  unfold State.southFrame
  (repeat' split)
  · exact htaken s h
  · exact h
  · exact s.setFlag_lawful .linkError h
  · exact h

theorem State.discardFrame_lawful (s : State) (link : Link) (f : LinkFrame) (h : s.events.lawful) :
    (s.discardFrame link f).events.lawful := by
  cases link with
  | north => exact s.northFrame_lawful _ f _ (fun _ _ => h) h
  | south => exact s.southFrame_lawful _ f _ (fun _ hu => hu) h

/-! ### Part reset and the response -/

/-- A part reset keeps the law that its clearing of the event block gives or leaves. -/
theorem State.partReset_lawful (s : State) (scope : ResetScope) (h : (s.events.afterReset scope).lawful) :
    (s.partReset scope).events.lawful := by
  have hblocks : (s.resetBlocks scope).events.lawful := h
  have hchecked : (Track.begin (s.resetBlocks scope)).checkDeferred.state.events.lawful := by simpa using hblocks
  have hflag := State.setFlagIf_lawful _ (scope == .traffic && s.ring.running) .ringStopped hchecked
  refine State.search_lawful _ _ ?_
  split
  case isTrue => simpa using hflag
  case isFalse => exact hflag

/-- A FULL part reset clears every enable, and nothing that follows in it sets one (R151, R153). -/
theorem State.partReset_full_enables (s : State) : (s.partReset .full).events.enables = 0 := by
  simp [State.partReset, State.resetBlocks, Events.afterReset]

theorem State.queueResponse_lawful (s : State) (h : s.events.lawful) : s.queueResponse.events.lawful := by
  unfold State.queueResponse
  split
  case h_2 => exact h
  case h_1 =>
    split
    case isTrue => exact h
    case isFalse =>
      dsimp only
      split
      case h_1 scope _ => exact State.partReset_lawful _ scope (s.events.afterReset_lawful scope h)
      case h_2 => split <;> exact h

/-- The response of a list that accepted a FULL reset: the reset executes once the response is queued (R147, R151). -/
theorem State.queueResponse_full (s : State) (l : ControlList) (hholding : s.engine.executing = .holding l)
    (hreset : l.reset = some .full) (hfree : s.north.responseWaits = false) :
    ∃ u : State, s.queueResponse = u.partReset .full := by
  simp only [State.queueResponse, hholding, hfree, hreset, Bool.false_eq_true, if_false]
  exact ⟨_, rfl⟩

/-! ### Outputs and timers -/

theorem State.statusSent_lawful (s : State) (h : s.events.lawful) : s.statusSent.events.lawful := by
  unfold State.statusSent
  split
  case h_1 => exact State.queueResponse_lawful _ h
  case h_2 => exact State.queueNotice_lawful _ h
  case h_3 => exact h
  case h_4 => exact h

theorem State.runArbiter_lawful (s : State) (ready : Bool) (h : s.events.lawful) : (s.runArbiter ready).events.lawful := by
  unfold State.runArbiter
  dsimp only
  (repeat' split)
  · exact State.arbitrate_lawful 17 _ h
  · exact h
  · exact h

theorem State.windowExpired_lawful (s : State) (h : s.events.lawful) : s.windowExpired.events.lawful := by
  unfold State.windowExpired
  split
  case isTrue => exact s.search_lawful _ h
  case isFalse => exact h

theorem State.coverageExpired_lawful (s : State) (h : s.events.lawful) : s.coverageExpired.events.lawful := by
  unfold State.coverageExpired
  split
  case isTrue => exact s.ageCoverage_lawful h
  case isFalse => exact h

theorem State.checkExpired_lawful (s : State) (i : Fin 16) (h : s.events.lawful) : (s.checkExpired i).events.lawful := by
  unfold State.checkExpired
  split
  case isTrue => exact Track.handOn_lawful _ (by simpa using h)
  case isFalse => exact h

theorem State.ringEndExpired_lawful (s : State) (h : s.events.lawful) : s.ringEndExpired.events.lawful := by
  unfold State.ringEndExpired
  split
  case isTrue => exact s.handRing_lawful _ h
  case isFalse => exact h

theorem State.pacingExpired_lawful (s : State) (h : s.events.lawful) : s.pacingExpired.events.lawful := by
  unfold State.pacingExpired
  split
  case isTrue => exact State.queueNotice_lawful _ h
  case isFalse => exact h

/-! ### Events that leave the event block -/

@[simp] theorem State.northGained_events (s : State) : s.northGained.events = s.events := by
  unfold State.northGained
  (repeat' split) <;> rfl

@[simp] theorem State.northLost_events (s : State) : s.northLost.events = s.events := by
  unfold State.northLost
  split <;> rfl

@[simp] theorem State.southGained_events (s : State) : s.southGained.events = s.events := by
  unfold State.southGained
  split <;> rfl

@[simp] theorem State.northHeader_events (s : State) (header : LaneHeader) : (s.northHeader header).events = s.events := by
  unfold State.northHeader
  split <;> simp

@[simp] theorem State.reserveHeld_events (s : State) : s.reserveHeld.events = s.events := by
  unfold State.reserveHeld
  (repeat' split) <;> rfl

@[simp] theorem State.northChoice_events (s : State) (ready : Bool) : (s.northChoice ready).events = s.events := by
  unfold State.northChoice
  dsimp only
  (repeat' split) <;> simp

@[simp] theorem State.txdoneSent_events (s : State) : s.txdoneSent.events = s.events := by
  unfold State.txdoneSent
  split <;> rfl

@[simp] theorem State.rxdataSent_events (s : State) : s.rxdataSent.events = s.events := by
  unfold State.rxdataSent
  split <;> rfl

@[simp] theorem State.southStart_events (s : State) (ready : Bool) : (s.southStart ready).events = s.events := by
  unfold State.southStart
  dsimp only
  (repeat' split) <;> simp

@[simp] theorem State.txdataSent_events (s : State) : s.txdataSent.events = s.events := by
  unfold State.txdataSent
  split <;> rfl

@[simp] theorem State.cancelSent_events (s : State) : s.cancelSent.events = s.events := by
  unfold State.cancelSent
  split <;> rfl

@[simp] theorem State.agingExpired_events (s : State) (q : Fin 16) : (s.agingExpired q).events = s.events := by
  unfold State.agingExpired
  split <;> rfl

@[simp] theorem State.committedExpired_events (s : State) : s.committedExpired.events = s.events := by
  unfold State.committedExpired
  split <;> rfl

@[simp] theorem State.ringLoadExpired_events (s : State) (i : Fin 32) : (s.ringLoadExpired i).events = s.events := by
  unfold State.ringLoadExpired
  split <;> rfl

/-! ### Commands of a list -/

/-- A command reports its result, and only what it carries out can reach the event block. -/
theorem State.command_lawful (s : State) (code target : Byte) (data : List Byte) (refusal : Option Result) (size : Nat)
    (act : State → State × List Byte) (hact : s.events.lawful → (act s).1.events.lawful) (h : s.events.lawful) :
    (s.command code target data refusal size act).events.lawful := by
  unfold State.command
  split
  case h_1 => exact h
  case h_2 =>
    dsimp only
    (repeat' split)
    · simpa using h
    · simpa using h
    · simpa using h
    · simpa using hact h
    · exact h

/-- An operation on each of some queues keeps the law when it does so on each. -/
theorem State.forQueues_lawful (s : State) (qs : List (Fin 16)) (f : State → Fin 16 → State)
    (hf : ∀ (u : State) (q : Fin 16), u.events.lawful → (f u q).events.lawful) (h : s.events.lawful) :
    (s.forQueues qs f).events.lawful :=
  qs.foldlRecOn (motive := fun u : State => u.events.lawful) f h fun u hu q _ => hf u q hu

theorem State.pauseOne_lawful (s : State) (q : Fin 16) (h : s.events.lawful) : (s.pauseOne q).events.lawful := by
  unfold State.pauseOne
  split <;> exact h

theorem State.resumeOne_lawful (s : State) (q : Fin 16) (h : s.events.lawful) : (s.resumeOne q).events.lawful := by
  unfold State.resumeOne
  split <;> exact h

theorem State.drainOne_lawful (s : State) (q : Fin 16) (h : s.events.lawful) : (s.drainOne q).events.lawful := by
  unfold State.drainOne
  split
  case isTrue => exact s.drain_lawful q h
  case isFalse => exact h

theorem State.writeRate_lawful (s : State) (i : Fin 64) (r : Rate) (h : s.events.lawful) : (s.writeRate i r).events.lawful := by
  simpa [State.writeRate] using h

theorem State.takeSlot_lawful (s : State) (i : Fin 16) (h : s.events.lawful) : (s.takeSlot i).events.lawful := by
  unfold State.takeSlot
  split
  case isTrue => exact State.search_lawful _ _ h
  case isFalse => exact h

theorem State.writeSlot_lawful (s : State) (i : Fin 16) (e : Source) (h : s.events.lawful) :
    (s.writeSlot i e).events.lawful :=
  State.search_lawful _ _ (by simpa using h)

theorem State.releaseSlot_lawful (s : State) (i : Fin 16) (h : s.events.lawful) : (s.releaseSlot i).events.lawful := by
  unfold State.releaseSlot
  split
  case isTrue => exact State.search_lawful _ _ h
  case isFalse => exact h

theorem State.freeSource_lawful (s : State) (i : Fin 16) (h : s.events.lawful) : (s.freeSource i).events.lawful := by
  unfold State.freeSource
  split
  case isTrue => exact State.search_lawful _ _ h
  case isFalse => exact h

theorem State.rearmPacing_lawful (s : State) (h : s.events.lawful) : s.rearmPacing.events.lawful := by
  unfold State.rearmPacing
  split
  case h_1 =>
    dsimp only
    split
    case isTrue => exact State.queueNotice_lawful _ h
    case isFalse => exact h
  case h_2 => exact h

theorem State.applySettings_lawful (s : State) (c : Settings) (h : s.events.lawful) : (s.applySettings c).events.lawful := by
  unfold State.applySettings
  extract_lets armed added
  have hadded : added.events.lawful := by simpa [added, armed] using h
  exact State.rearmPacing_lawful _ (State.setFlags_lawful _ _ (State.search_lawful _ _ hadded))

/-! ### Every step -/

/-- An event keeps the law when the state that it gives a running part does. -/
theorem State.live_lawful {s t : State} {event : State → State} (hlive : s.live event = .next t) (h : s.events.lawful)
    (hevent : s.events.lawful → (event s).events.lawful) : t.events.lawful := by
  rw [State.live, Host.Outcome.next.injEq] at hlive
  subst hlive
  split
  case isTrue => exact h
  case isFalse => exact hevent h

/-- An event that leaves the event block keeps the law. -/
theorem State.live_lawful_of_events_eq {s t : State} {event : State → State} (hlive : s.live event = .next t)
    (h : s.events.lawful) (hevent : (event s).events = s.events) : t.events.lawful :=
  State.live_lawful hlive h fun h => hevent ▸ h

/-- A command keeps the law when what it carries out does. -/
theorem State.live_command_lawful {s t : State} {code target : Byte} {data : List Byte} {refusal : State → Option Result}
    {size : Nat} {act : State → State × List Byte}
    (hlive : (s.live fun s => s.command code target data (refusal s) size act) = .next t) (h : s.events.lawful)
    (hact : s.events.lawful → (act s).1.events.lawful) : t.events.lawful :=
  State.live_lawful hlive h (s.command_lawful _ _ _ _ _ _ hact)

theorem State.reset_lawful : State.reset.events.lawful := rfl

/-- Every event and every command keeps ATTN following the flags: it leaves the event block, sets flags, or writes flags and enables with ATTN. -/
theorem exec_lawful (c : Instr) (s t : State) (hexec : exec c s = .next t) (h : s.events.lawful) : t.events.lawful := by
  cases c with dsimp only [exec] at hexec
  | powerOnReset =>
    cases hexec
    exact State.reset_lawful
  | resetInputAsserted =>
    cases hexec
    exact State.reset_lawful
  | airClockAdvance => exact State.live_lawful_of_events_eq hexec h rfl
  | northSyncGained => exact State.live_lawful_of_events_eq hexec h s.northGained_events
  | northSyncLost => exact State.live_lawful_of_events_eq hexec h s.northLost_events
  | southSyncGained => exact State.live_lawful_of_events_eq hexec h s.southGained_events
  | southSyncLost => exact State.live_lawful hexec h s.southLost_lawful
  | northLaneHeader header => exact State.live_lawful_of_events_eq hexec h (s.northHeader_events header)
  | dataSlotReserved => exact State.live_lawful_of_events_eq hexec h s.reserveHeld_events
  | dataFrame f => exact State.live_lawful hexec h (s.northFrame_lawful 1 f _ fun u => u.takeData_lawful f)
  | controlFrame f => exact State.live_lawful hexec h (s.northFrame_lawful 2 f _ fun u => u.takeControl_lawful f)
  | rxdataFrame f => exact State.live_lawful hexec h (s.southFrame_lawful 5 f _ fun u => u.takeRxdata_lawful f)
  | energyReport f => exact State.live_lawful hexec h (s.southFrame_lawful 6 f _ fun u => u.takeEnergy_lawful f)
  | txstat f => exact State.live_lawful hexec h (s.southFrame_lawful 7 f _ fun u => u.takeTxStat_lawful f)
  | radioRecord f => exact State.live_lawful hexec h (s.southFrame_lawful 8 f _ fun u => u.takeRadio_lawful f)
  | receivedFrameDiscarded link f => exact State.live_lawful hexec h (s.discardFrame_lawful link f)
  | northOutputChoice ready => exact State.live_lawful_of_events_eq hexec h (s.northChoice_events ready)
  | txdoneFrameSent => exact State.live_lawful_of_events_eq hexec h s.txdoneSent_events
  | rxdataFrameSent => exact State.live_lawful_of_events_eq hexec h s.rxdataSent_events
  | statusFrameSent => exact State.live_lawful hexec h s.statusSent_lawful
  | southOutputStart ready => exact State.live_lawful_of_events_eq hexec h (s.southStart_events ready)
  | txdataFrameSent => exact State.live_lawful_of_events_eq hexec h s.txdataSent_events
  | cancelFrameSent => exact State.live_lawful_of_events_eq hexec h s.cancelSent_events
  | releaseArbiterRun ready => exact State.live_lawful hexec h (s.runArbiter_lawful ready)
  | agingTimerExpiry q => exact State.live_lawful_of_events_eq hexec h (s.agingExpired_events q)
  | windowTimerExpiry => exact State.live_lawful hexec h s.windowExpired_lawful
  | committedUntilExpiry => exact State.live_lawful_of_events_eq hexec h s.committedExpired_events
  | outstandingStaleExpiry id => exact State.live_lawful_of_events_eq hexec h rfl
  | coverageAgingExpiry => exact State.live_lawful hexec h s.coverageExpired_lawful
  | checkTimerExpiry i => exact State.live_lawful hexec h (s.checkExpired_lawful i)
  | ringEndTimerExpiry => exact State.live_lawful hexec h s.ringEndExpired_lawful
  | ringLoadTimerExpiry i => exact State.live_lawful_of_events_eq hexec h (s.ringLoadExpired_events i)
  | pacingTimerExpiry => exact State.live_lawful hexec h s.pacingExpired_lawful
  | responseQueued => exact State.live_lawful hexec h s.queueResponse_lawful
  | openQueue target data =>
    refine State.live_command_lawful hexec h fun h => ?_
    split <;> exact h
  | pauseQueue target data =>
    exact State.live_command_lawful hexec h (s.forQueues_lawful _ _ State.pauseOne_lawful)
  | resumeQueue target data =>
    exact State.live_command_lawful hexec h (s.forQueues_lawful _ _ State.resumeOne_lawful)
  | drainQueue target data =>
    exact State.live_command_lawful hexec h (s.forQueues_lawful _ _ State.drainOne_lawful)
  | clearQueueFlags target data =>
    exact State.live_command_lawful hexec h (s.forQueues_lawful _ _ fun _ _ hu => hu)
  | readQueue target data => exact State.live_command_lawful hexec h fun h => h
  | loadRate target data =>
    refine State.live_command_lawful hexec h fun h => ?_
    split
    case h_1 i r _ _ => exact s.writeRate_lawful i r h
    case h_2 => exact h
  | readRate target data => exact State.live_command_lawful hexec h fun h => h
  | takeSource target data =>
    refine State.live_command_lawful hexec h fun h => ?_
    split
    case h_1 i _ => exact s.takeSlot_lawful i h
    case h_2 => exact h
  | writeSource target data =>
    refine State.live_command_lawful hexec h fun h => ?_
    split
    case h_1 i e _ _ => exact s.writeSlot_lawful i e h
    case h_2 => exact h
  | releaseSource target data =>
    refine State.live_command_lawful hexec h fun h => ?_
    split
    case h_1 i _ => exact s.releaseSlot_lawful i h
    case h_2 => exact h
  | freeSource target data =>
    refine State.live_command_lawful hexec h fun h => ?_
    split
    case h_1 i _ => exact s.freeSource_lawful i h
    case h_2 => exact h
  | readSources target data => exact State.live_command_lawful hexec h fun h => h
  | startRing target data =>
    refine State.live_command_lawful hexec h fun h => ?_
    split
    case h_1 => exact s.handRing_lawful _ h
    case h_2 => exact h
  | stopRing target data =>
    refine State.live_command_lawful hexec h fun h => ?_
    dsimp only
    split
    case isTrue => exact s.handRing_lawful _ h
    case isFalse => exact h
  | loadReservations target data =>
    refine State.live_command_lawful hexec h fun h => ?_
    split <;> exact h
  | readRing target data => exact State.live_command_lawful hexec h fun h => h
  | readSurvey target data => exact State.live_command_lawful hexec h fun h => h
  | clearSurvey target data => exact State.live_command_lawful hexec h fun h => h
  | loadSettings target data =>
    refine State.live_command_lawful hexec h fun h => ?_
    split
    case h_1 c _ => exact s.applySettings_lawful c h
    case h_2 => exact h
  | readSettings target data => exact State.live_command_lawful hexec h fun h => h
  | snapshot target data => exact State.live_command_lawful hexec h fun h => h
  | setEventEnables target data => exact State.live_command_lawful hexec h fun _ => Events.withAttn_lawful _
  | clearEvents target data => exact State.live_command_lawful hexec h fun _ => Events.withAttn_lawful _
  | resetPart target data =>
    refine State.live_command_lawful hexec h fun h => ?_
    split
    case h_1 => simpa using h
    case h_2 => exact h
  | unknownCommand code target data =>
    refine State.live_lawful hexec h fun h => ?_
    split
    case isTrue => exact h
    case isFalse => exact s.command_lawful _ _ _ _ _ _ (fun h => h) h
  | brokenTail bytes => exact State.live_lawful hexec h fun h => by simpa using h

theorem step_lawful (s t : State) (h : s.events.lawful) (hstep : step s = .next t) : t.events.lawful := by
  unfold step at hstep
  split at hstep
  case h_1 =>
    cases hstep
    exact h
  case h_2 c rest _ => exact exec_lawful c { s with pending := rest } t hstep h

/-! ### Where ATTN is deasserted (R154) -/

/-- After a FULL part reset no enable is set, so ATTN is not asserted, whatever flag the search that ends the reset has set. -/
theorem State.partReset_full_attn (s : State) : (s.partReset .full).events.attn = false :=
  Events.attn_of_no_enables _ (s.partReset_lawful .full s.events.afterReset_full_lawful) s.partReset_full_enables

/-- With every flag cleared ATTN is not asserted. -/
theorem State.clearFlags_all_attn (s : State) : (s.clearFlags (BitVec.allOnes 14)).events.attn = false := by
  simp [Events.withAttn, Events.attention]

theorem exec_clearEvents_all (s : State) (l : ControlList) (h : s.executes l { code := 100, target := 255, data := [] }) :
    exec (.clearEvents 255 []) s =
      .next ((s.clearFlags (BitVec.allOnes 14)).answered l { code := 100, target := 255, data := [] } .ok []) :=
  calc exec (.clearEvents 255 []) s
      = s.live fun s => s.command 100 255 [] none 0 fun s => (s.clearFlags (BitVec.allOnes 14), []) := rfl
    _ = .next (s.command 100 255 [] none 0 fun s => (s.clearFlags (BitVec.allOnes 14), [])) :=
        s.live_running _ (s.inReset_of_executes l _ h)
    _ = _ := by rw [s.command_done l _ _ _ 0 _ h (Nat.zero_le _) rfl]

/-- Settles O51: the law holds at power-on and each command keeps it; a FULL part reset leaves no enable set, CLEAR_EVENTS of all no flag. -/
theorem attnFollowsTheFlags : Obligations.AttnFollowsTheFlags := by
  refine ⟨State.reset_lawful, rfl, step_lawful, fun s l hrunning hholding hreset hfree => ?full, fun s l h => ?clear⟩
  case full =>
    obtain ⟨u, hu⟩ := s.queueResponse_full l hholding hreset hfree
    exact ⟨_, s.live_running _ hrunning, hu ▸ u.partReset_full_attn⟩
  case clear => exact ⟨_, exec_clearEvents_all s l h, s.clearFlags_all_attn⟩

end Sys2Proof.Machine

/-! PROOFS. What a step can do: each event as a function of the state, each command as what it checks and carries out, what every event leaves alone,
and the induction over events that every law of the records uses. -/

namespace Sys2Proof.Machine

/-! ### What each event leaves alone -/

@[simp] theorem State.northGained_keeps (s : State) :
    s.northGained.inReset = s.inReset ∧ s.northGained.clock = s.clock ∧ s.northGained.fifo = s.fifo ∧
    s.northGained.south = s.south ∧ s.northGained.store = s.store ∧ s.northGained.queues = s.queues ∧
    s.northGained.pointers = s.pointers ∧ s.northGained.window = s.window ∧ s.northGained.gate = s.gate ∧
    s.northGained.detector = s.detector ∧ s.northGained.sources = s.sources ∧ s.northGained.ring = s.ring ∧
    s.northGained.engine = s.engine ∧ s.northGained.events = s.events ∧ s.northGained.pending = s.pending := by
  and_intros <;> (unfold State.northGained; (repeat' split) <;> simp)

@[simp] theorem State.northLost_keeps (s : State) :
    s.northLost.inReset = s.inReset ∧ s.northLost.clock = s.clock ∧ s.northLost.south = s.south ∧ s.northLost.store = s.store ∧
    s.northLost.queues = s.queues ∧ s.northLost.pointers = s.pointers ∧ s.northLost.window = s.window ∧
    s.northLost.gate = s.gate ∧ s.northLost.detector = s.detector ∧ s.northLost.sources = s.sources ∧
    s.northLost.ring = s.ring ∧ s.northLost.engine = s.engine ∧ s.northLost.events = s.events ∧
    s.northLost.pending = s.pending := by
  and_intros <;> (unfold State.northLost; (repeat' split) <;> simp)

@[simp] theorem State.southGained_keeps (s : State) :
    s.southGained.inReset = s.inReset ∧ s.southGained.north = s.north ∧ s.southGained.fifo = s.fifo ∧
    s.southGained.store = s.store ∧ s.southGained.queues = s.queues ∧ s.southGained.pointers = s.pointers ∧
    s.southGained.window = s.window ∧ s.southGained.gate = s.gate ∧ s.southGained.detector = s.detector ∧
    s.southGained.sources = s.sources ∧ s.southGained.ring = s.ring ∧ s.southGained.engine = s.engine ∧
    s.southGained.events = s.events ∧ s.southGained.pending = s.pending := by
  and_intros <;> (unfold State.southGained; (repeat' split) <;> simp)

@[simp] theorem State.northHeader_keeps (s : State) (h : LaneHeader) :
    (s.northHeader h).inReset = s.inReset ∧ (s.northHeader h).clock = s.clock ∧ (s.northHeader h).south = s.south ∧
    (s.northHeader h).store = s.store ∧ (s.northHeader h).queues = s.queues ∧ (s.northHeader h).pointers = s.pointers ∧
    (s.northHeader h).window = s.window ∧ (s.northHeader h).gate = s.gate ∧ (s.northHeader h).detector = s.detector ∧
    (s.northHeader h).sources = s.sources ∧ (s.northHeader h).ring = s.ring ∧ (s.northHeader h).engine = s.engine ∧
    (s.northHeader h).events = s.events ∧ (s.northHeader h).pending = s.pending := by
  and_intros <;> (unfold State.northHeader; (repeat' split) <;> simp)

@[simp] theorem State.reserveHeld_keeps (s : State) :
    s.reserveHeld.inReset = s.inReset ∧ s.reserveHeld.clock = s.clock ∧ s.reserveHeld.south = s.south ∧
    s.reserveHeld.store = s.store ∧ s.reserveHeld.queues = s.queues ∧ s.reserveHeld.pointers = s.pointers ∧
    s.reserveHeld.window = s.window ∧ s.reserveHeld.gate = s.gate ∧ s.reserveHeld.detector = s.detector ∧
    s.reserveHeld.sources = s.sources ∧ s.reserveHeld.ring = s.ring ∧ s.reserveHeld.engine = s.engine ∧
    s.reserveHeld.events = s.events ∧ s.reserveHeld.pending = s.pending := by
  and_intros <;> (unfold State.reserveHeld; (repeat' split) <;> simp)

@[simp] theorem State.northChoice_keeps (s : State) (ready : Bool) :
    (s.northChoice ready).inReset = s.inReset ∧ (s.northChoice ready).clock = s.clock ∧ (s.northChoice ready).fifo = s.fifo ∧
    (s.northChoice ready).south = s.south ∧ (s.northChoice ready).store = s.store ∧ (s.northChoice ready).queues = s.queues ∧
    (s.northChoice ready).pointers = s.pointers ∧ (s.northChoice ready).window = s.window ∧
    (s.northChoice ready).gate = s.gate ∧ (s.northChoice ready).detector = s.detector ∧
    (s.northChoice ready).sources = s.sources ∧ (s.northChoice ready).ring = s.ring ∧ (s.northChoice ready).engine = s.engine ∧
    (s.northChoice ready).events = s.events ∧ (s.northChoice ready).pending = s.pending := by
  and_intros <;> (unfold State.northChoice; dsimp only; (repeat' split) <;> simp)

@[simp] theorem State.txdoneSent_keeps (s : State) :
    s.txdoneSent.inReset = s.inReset ∧ s.txdoneSent.clock = s.clock ∧ s.txdoneSent.south = s.south ∧
    s.txdoneSent.store = s.store ∧ s.txdoneSent.queues = s.queues ∧ s.txdoneSent.pointers = s.pointers ∧
    s.txdoneSent.window = s.window ∧ s.txdoneSent.gate = s.gate ∧ s.txdoneSent.detector = s.detector ∧
    s.txdoneSent.sources = s.sources ∧ s.txdoneSent.ring = s.ring ∧ s.txdoneSent.engine = s.engine ∧
    s.txdoneSent.events = s.events ∧ s.txdoneSent.pending = s.pending := by
  and_intros <;> (unfold State.txdoneSent; (repeat' split) <;> simp)

@[simp] theorem State.rxdataSent_keeps (s : State) :
    s.rxdataSent.inReset = s.inReset ∧ s.rxdataSent.clock = s.clock ∧ s.rxdataSent.fifo = s.fifo ∧
    s.rxdataSent.south = s.south ∧ s.rxdataSent.store = s.store ∧ s.rxdataSent.queues = s.queues ∧
    s.rxdataSent.pointers = s.pointers ∧ s.rxdataSent.window = s.window ∧ s.rxdataSent.gate = s.gate ∧
    s.rxdataSent.detector = s.detector ∧ s.rxdataSent.sources = s.sources ∧ s.rxdataSent.ring = s.ring ∧
    s.rxdataSent.engine = s.engine ∧ s.rxdataSent.events = s.events ∧ s.rxdataSent.pending = s.pending := by
  and_intros <;> (unfold State.rxdataSent; (repeat' split) <;> simp)

@[simp] theorem State.southStart_keeps (s : State) (ready : Bool) :
    (s.southStart ready).inReset = s.inReset ∧ (s.southStart ready).clock = s.clock ∧ (s.southStart ready).north = s.north ∧
    (s.southStart ready).fifo = s.fifo ∧ (s.southStart ready).store = s.store ∧ (s.southStart ready).queues = s.queues ∧
    (s.southStart ready).pointers = s.pointers ∧ (s.southStart ready).window = s.window ∧ (s.southStart ready).gate = s.gate ∧
    (s.southStart ready).detector = s.detector ∧ (s.southStart ready).sources = s.sources ∧ (s.southStart ready).ring = s.ring ∧
    (s.southStart ready).engine = s.engine ∧ (s.southStart ready).events = s.events ∧
    (s.southStart ready).pending = s.pending := by
  and_intros <;> (unfold State.southStart; dsimp only; (repeat' split) <;> simp)

@[simp] theorem State.txdataSent_keeps (s : State) :
    s.txdataSent.inReset = s.inReset ∧ s.txdataSent.clock = s.clock ∧ s.txdataSent.north = s.north ∧
    s.txdataSent.fifo = s.fifo ∧ s.txdataSent.store = s.store ∧ s.txdataSent.queues = s.queues ∧
    s.txdataSent.pointers = s.pointers ∧ s.txdataSent.window = s.window ∧ s.txdataSent.gate = s.gate ∧
    s.txdataSent.detector = s.detector ∧ s.txdataSent.sources = s.sources ∧ s.txdataSent.ring = s.ring ∧
    s.txdataSent.engine = s.engine ∧ s.txdataSent.events = s.events ∧ s.txdataSent.pending = s.pending := by
  and_intros <;> (unfold State.txdataSent; (repeat' split) <;> simp)

@[simp] theorem State.cancelSent_keeps (s : State) :
    s.cancelSent.inReset = s.inReset ∧ s.cancelSent.clock = s.clock ∧ s.cancelSent.north = s.north ∧
    s.cancelSent.fifo = s.fifo ∧ s.cancelSent.store = s.store ∧ s.cancelSent.queues = s.queues ∧
    s.cancelSent.pointers = s.pointers ∧ s.cancelSent.window = s.window ∧ s.cancelSent.gate = s.gate ∧
    s.cancelSent.detector = s.detector ∧ s.cancelSent.sources = s.sources ∧ s.cancelSent.ring = s.ring ∧
    s.cancelSent.engine = s.engine ∧ s.cancelSent.events = s.events ∧ s.cancelSent.pending = s.pending := by
  and_intros <;> (unfold State.cancelSent; (repeat' split) <;> simp)

@[simp] theorem State.runArbiter_keeps (s : State) (ready : Bool) :
    (s.runArbiter ready).inReset = s.inReset ∧ (s.runArbiter ready).clock = s.clock ∧ (s.runArbiter ready).fifo = s.fifo ∧
    (s.runArbiter ready).store = s.store ∧ (s.runArbiter ready).detector = s.detector ∧
    (s.runArbiter ready).sources = s.sources ∧ (s.runArbiter ready).ring = s.ring ∧ (s.runArbiter ready).engine = s.engine ∧
    (s.runArbiter ready).pending = s.pending := by
  and_intros <;> (unfold State.runArbiter; dsimp only; (repeat' split) <;> simp)

@[simp] theorem State.agingExpired_keeps (s : State) (q : Fin 16) :
    (s.agingExpired q).inReset = s.inReset ∧ (s.agingExpired q).clock = s.clock ∧ (s.agingExpired q).north = s.north ∧
    (s.agingExpired q).fifo = s.fifo ∧ (s.agingExpired q).south = s.south ∧ (s.agingExpired q).store = s.store ∧
    (s.agingExpired q).pointers = s.pointers ∧ (s.agingExpired q).window = s.window ∧ (s.agingExpired q).gate = s.gate ∧
    (s.agingExpired q).detector = s.detector ∧ (s.agingExpired q).sources = s.sources ∧ (s.agingExpired q).ring = s.ring ∧
    (s.agingExpired q).engine = s.engine ∧ (s.agingExpired q).events = s.events ∧ (s.agingExpired q).pending = s.pending := by
  and_intros <;> (unfold State.agingExpired; (repeat' split) <;> simp)

@[simp] theorem State.windowExpired_keeps (s : State) :
    s.windowExpired.inReset = s.inReset ∧ s.windowExpired.clock = s.clock ∧ s.windowExpired.fifo = s.fifo ∧
    s.windowExpired.south = s.south ∧ s.windowExpired.store = s.store ∧ s.windowExpired.pointers = s.pointers ∧
    s.windowExpired.gate = s.gate ∧ s.windowExpired.detector = s.detector ∧ s.windowExpired.sources = s.sources ∧
    s.windowExpired.ring = s.ring ∧ s.windowExpired.engine = s.engine ∧ s.windowExpired.pending = s.pending := by
  and_intros <;> (unfold State.windowExpired; (repeat' split) <;> simp)

@[simp] theorem State.committedExpired_keeps (s : State) :
    s.committedExpired.inReset = s.inReset ∧ s.committedExpired.clock = s.clock ∧ s.committedExpired.north = s.north ∧
    s.committedExpired.fifo = s.fifo ∧ s.committedExpired.south = s.south ∧ s.committedExpired.store = s.store ∧
    s.committedExpired.queues = s.queues ∧ s.committedExpired.pointers = s.pointers ∧ s.committedExpired.window = s.window ∧
    s.committedExpired.detector = s.detector ∧ s.committedExpired.sources = s.sources ∧ s.committedExpired.ring = s.ring ∧
    s.committedExpired.engine = s.engine ∧ s.committedExpired.events = s.events ∧ s.committedExpired.pending = s.pending := by
  and_intros <;> (unfold State.committedExpired; (repeat' split) <;> simp)

@[simp] theorem State.staleExpired_keeps (s : State) (id : BitVec 8) :
    (s.staleExpired id).inReset = s.inReset ∧ (s.staleExpired id).clock = s.clock ∧ (s.staleExpired id).north = s.north ∧
    (s.staleExpired id).fifo = s.fifo ∧ (s.staleExpired id).south = s.south ∧ (s.staleExpired id).store = s.store ∧
    (s.staleExpired id).queues = s.queues ∧ (s.staleExpired id).pointers = s.pointers ∧ (s.staleExpired id).window = s.window ∧
    (s.staleExpired id).detector = s.detector ∧ (s.staleExpired id).sources = s.sources ∧ (s.staleExpired id).ring = s.ring ∧
    (s.staleExpired id).engine = s.engine ∧ (s.staleExpired id).events = s.events ∧
    (s.staleExpired id).pending = s.pending := by
  and_intros <;> (unfold State.staleExpired; (repeat' split) <;> simp)

@[simp] theorem State.coverageExpired_keeps (s : State) :
    s.coverageExpired.inReset = s.inReset ∧ s.coverageExpired.clock = s.clock ∧ s.coverageExpired.fifo = s.fifo ∧
    s.coverageExpired.store = s.store ∧ s.coverageExpired.pointers = s.pointers ∧ s.coverageExpired.ring = s.ring ∧
    s.coverageExpired.engine = s.engine ∧ s.coverageExpired.pending = s.pending := by
  and_intros <;> (unfold State.coverageExpired; (repeat' split) <;> simp)

@[simp] theorem State.checkExpired_keeps (s : State) (i : Fin 16) :
    (s.checkExpired i).inReset = s.inReset ∧ (s.checkExpired i).clock = s.clock ∧ (s.checkExpired i).fifo = s.fifo ∧
    (s.checkExpired i).store = s.store ∧ (s.checkExpired i).pointers = s.pointers ∧ (s.checkExpired i).detector = s.detector ∧
    (s.checkExpired i).ring = s.ring ∧ (s.checkExpired i).engine = s.engine ∧ (s.checkExpired i).pending = s.pending := by
  and_intros <;> (unfold State.checkExpired; (repeat' split) <;> simp)

@[simp] theorem State.ringEndExpired_keeps (s : State) :
    s.ringEndExpired.inReset = s.inReset ∧ s.ringEndExpired.clock = s.clock ∧ s.ringEndExpired.fifo = s.fifo ∧
    s.ringEndExpired.store = s.store ∧ s.ringEndExpired.pointers = s.pointers ∧ s.ringEndExpired.detector = s.detector ∧
    s.ringEndExpired.sources = s.sources ∧ s.ringEndExpired.engine = s.engine ∧ s.ringEndExpired.pending = s.pending := by
  and_intros <;> (unfold State.ringEndExpired; (repeat' split) <;> simp)

@[simp] theorem State.ringLoadExpired_keeps (s : State) (i : Fin 32) :
    (s.ringLoadExpired i).inReset = s.inReset ∧ (s.ringLoadExpired i).clock = s.clock ∧ (s.ringLoadExpired i).north = s.north ∧
    (s.ringLoadExpired i).fifo = s.fifo ∧ (s.ringLoadExpired i).south = s.south ∧ (s.ringLoadExpired i).store = s.store ∧
    (s.ringLoadExpired i).queues = s.queues ∧ (s.ringLoadExpired i).pointers = s.pointers ∧
    (s.ringLoadExpired i).window = s.window ∧ (s.ringLoadExpired i).gate = s.gate ∧
    (s.ringLoadExpired i).detector = s.detector ∧ (s.ringLoadExpired i).sources = s.sources ∧
    (s.ringLoadExpired i).engine = s.engine ∧ (s.ringLoadExpired i).events = s.events ∧
    (s.ringLoadExpired i).pending = s.pending := by
  and_intros <;> (unfold State.ringLoadExpired; (repeat' split) <;> simp)

@[simp] theorem State.pacingExpired_keeps (s : State) :
    s.pacingExpired.inReset = s.inReset ∧ s.pacingExpired.clock = s.clock ∧ s.pacingExpired.fifo = s.fifo ∧
    s.pacingExpired.south = s.south ∧ s.pacingExpired.store = s.store ∧ s.pacingExpired.queues = s.queues ∧
    s.pacingExpired.pointers = s.pointers ∧ s.pacingExpired.window = s.window ∧ s.pacingExpired.gate = s.gate ∧
    s.pacingExpired.detector = s.detector ∧ s.pacingExpired.sources = s.sources ∧ s.pacingExpired.ring = s.ring ∧
    s.pacingExpired.engine = s.engine ∧ s.pacingExpired.pending = s.pending := by
  and_intros <;> (unfold State.pacingExpired; (repeat' split) <;> simp)

@[simp] theorem State.southLost_keeps (s : State) :
    s.southLost.inReset = s.inReset ∧ s.southLost.clock = s.clock ∧ s.southLost.pointers = s.pointers ∧
    s.southLost.ring = s.ring ∧ s.southLost.engine = s.engine ∧ s.southLost.pending = s.pending := by
  and_intros <;> (unfold State.southLost; (repeat' split) <;> simp)

@[simp] theorem State.takeRxdata_keeps (s : State) (f : LinkFrame) :
    (s.takeRxdata f).inReset = s.inReset ∧ (s.takeRxdata f).clock = s.clock ∧ (s.takeRxdata f).fifo = s.fifo ∧
    (s.takeRxdata f).store = s.store ∧ (s.takeRxdata f).pointers = s.pointers ∧ (s.takeRxdata f).detector = s.detector ∧
    (s.takeRxdata f).ring = s.ring ∧ (s.takeRxdata f).engine = s.engine ∧ (s.takeRxdata f).pending = s.pending := by
  and_intros <;> (unfold State.takeRxdata; (repeat' split) <;> simp)

@[simp] theorem State.takeEnergy_keeps (s : State) (f : LinkFrame) :
    (s.takeEnergy f).inReset = s.inReset ∧ (s.takeEnergy f).clock = s.clock ∧ (s.takeEnergy f).fifo = s.fifo ∧
    (s.takeEnergy f).store = s.store ∧ (s.takeEnergy f).pointers = s.pointers ∧ (s.takeEnergy f).ring = s.ring ∧
    (s.takeEnergy f).engine = s.engine ∧ (s.takeEnergy f).pending = s.pending := by
  and_intros <;> (unfold State.takeEnergy; (repeat' split) <;> simp)

@[simp] theorem State.takeTxStat_keeps (s : State) (f : LinkFrame) :
    (s.takeTxStat f).inReset = s.inReset ∧ (s.takeTxStat f).clock = s.clock ∧ (s.takeTxStat f).pointers = s.pointers ∧
    (s.takeTxStat f).window = s.window ∧ (s.takeTxStat f).detector = s.detector ∧ (s.takeTxStat f).sources = s.sources ∧
    (s.takeTxStat f).ring = s.ring ∧ (s.takeTxStat f).engine = s.engine ∧ (s.takeTxStat f).pending = s.pending := by
  and_intros <;> (unfold State.takeTxStat; (repeat' split) <;> simp)

@[simp] theorem State.takeRadio_keeps (s : State) (f : LinkFrame) :
    (s.takeRadio f).inReset = s.inReset ∧ (s.takeRadio f).clock = s.clock ∧ (s.takeRadio f).fifo = s.fifo ∧
    (s.takeRadio f).store = s.store ∧ (s.takeRadio f).pointers = s.pointers ∧ (s.takeRadio f).ring = s.ring ∧
    (s.takeRadio f).engine = s.engine ∧ (s.takeRadio f).pending = s.pending := by
  and_intros <;> (unfold State.takeRadio; (repeat' split) <;> simp)

@[simp] theorem State.partReset_keeps (s : State) (scope : ResetScope) :
    (s.partReset scope).inReset = s.inReset ∧ (s.partReset scope).clock = s.clock ∧
    (s.partReset scope).pending = s.pending := by
  and_intros <;> (unfold State.partReset; (repeat' split) <;> simp [State.resetBlocks])

@[simp] theorem State.queueResponse_keeps (s : State) :
    s.queueResponse.inReset = s.inReset ∧ s.queueResponse.clock = s.clock ∧ s.queueResponse.pending = s.pending := by
  and_intros <;> (unfold State.queueResponse; (repeat' split) <;> simp)

@[simp] theorem State.statusSent_keeps (s : State) :
    s.statusSent.inReset = s.inReset ∧ s.statusSent.clock = s.clock ∧ s.statusSent.pending = s.pending := by
  and_intros <;> (unfold State.statusSent; (repeat' split) <;> simp)


end Sys2Proof.Machine

namespace Sys2Proof.Machine

/-! ### Frames received -/

/-- What holds of every end of a north frame: of an event without effect, of its lane header alone, of its discard, and of its being taken. -/
theorem State.northFrame_induction {P : State → Prop} (s : State) (kind : Byte) (f : LinkFrame) (taken : State → State) (h : P s)
    (hhead : s.north.input = .awaitHeader → P (s.laneHeader f.header))
    (hdiscard : ∀ u reserved doomed, P u → u.north.input = .receiving f.header reserved doomed →
      P (u.discardNorth reserved (!doomed)))
    (htaken : ∀ u reserved, P u → u.north.input = .receiving f.header reserved false → passes .north f = true →
      f.header.kind = kind → P (taken (u.withInput .awaitHeader))) :
    P (s.northFrame kind f taken) := by
  unfold State.northFrame
  split
  case isFalse => exact h
  case isTrue =>
    extract_lets u
    have hu : P u := by
      show P (match s.north.input with | .awaitHeader => s.laneHeader f.header | _ => s)
      cases hi : s.north.input with
      | awaitHeader => exact hhead hi
      | held _ => exact h
      | receiving _ _ _ => exact h
    clear_value u
    cases hi : u.north.input with
    | awaitHeader => exact hu
    | held _ => exact hu
    | receiving header reserved doomed =>
      dsimp only
      split_ifs with heq hdoomed hpasses hkind
      · subst heq hdoomed; exact hdiscard u reserved true hu hi
      · subst heq; exact htaken u reserved hu (by simpa [hdoomed] using hi) hpasses hkind
      · exact h
      · subst heq; rw [Bool.not_eq_true] at hdoomed; subst hdoomed; exact hdiscard u reserved false hu hi
      · exact h

/-- The same of a south frame: without effect, discarded with LINK_ERROR, or taken. -/
theorem State.southFrame_induction {P : State → Prop} (s : State) (kind : Byte) (f : LinkFrame) (taken : State → State) (h : P s)
    (hdiscard : P (s.setFlag .linkError)) (htaken : P (taken s)) : P (s.southFrame kind f taken) := by
  unfold State.southFrame
  split_ifs
  · exact htaken
  · exact h
  · exact hdiscard
  · exact h

/-- What neither the north input's own steps nor the taking of a frame change, no end of a north frame changes. -/
theorem State.northFrame_keeps {α : Type} (s : State) (view : State → α) (kind : Byte) (f : LinkFrame) (taken : State → State)
    (hhead : ∀ u h, view (State.laneHeader u h) = view u)
    (hdiscard : ∀ u reserved failed, view (State.discardNorth u reserved failed) = view u)
    (hinput : ∀ u i, view (State.withInput u i) = view u) (htaken : ∀ u, view u = view s → view (taken u) = view s) :
    view (s.northFrame kind f taken) = view s :=
  s.northFrame_induction (P := fun t => view t = view s) kind f taken rfl (fun _ => hhead s f.header)
    (fun u reserved doomed hu _ => (hdiscard u reserved !doomed).trans hu)
    (fun u _ hu _ _ _ => htaken _ ((hinput u .awaitHeader).trans hu))

theorem State.southFrame_keeps {α : Type} (s : State) (view : State → α) (kind : Byte) (f : LinkFrame) (taken : State → State)
    (hdiscard : view (s.setFlag .linkError) = view s) (htaken : view (taken s) = view s) :
    view (s.southFrame kind f taken) = view s :=
  s.southFrame_induction (P := fun t => view t = view s) kind f taken rfl hdiscard htaken

/-- The end of a DATA frame. -/
def State.dataFrame (s : State) (f : LinkFrame) : State := s.northFrame 1 f fun s => s.takeData f

/-- The end of a CONTROL frame. -/
def State.controlFrame (s : State) (f : LinkFrame) : State := s.northFrame 2 f fun s => s.takeControl f

/-- An RXDATA frame on the south link. -/
def State.rxdataFrame (s : State) (f : LinkFrame) : State := s.southFrame 5 f fun s => s.takeRxdata f

/-- An ENERGY frame on the south link. -/
def State.energyFrame (s : State) (f : LinkFrame) : State := s.southFrame 6 f fun s => s.takeEnergy f

/-- A TXSTAT frame on the south link. -/
def State.txstatFrame (s : State) (f : LinkFrame) : State := s.southFrame 7 f fun s => s.takeTxStat f

/-- A RADIO frame on the south link. -/
def State.radioFrame (s : State) (f : LinkFrame) : State := s.southFrame 8 f fun s => s.takeRadio f

@[simp] theorem State.dataFrame_keeps (s : State) (f : LinkFrame) :
    (s.dataFrame f).inReset = s.inReset ∧ (s.dataFrame f).clock = s.clock ∧ (s.dataFrame f).south = s.south ∧
    (s.dataFrame f).pointers = s.pointers ∧ (s.dataFrame f).window = s.window ∧ (s.dataFrame f).gate = s.gate ∧
    (s.dataFrame f).detector = s.detector ∧ (s.dataFrame f).sources = s.sources ∧ (s.dataFrame f).ring = s.ring ∧
    (s.dataFrame f).engine = s.engine ∧ (s.dataFrame f).pending = s.pending := by
  simpa only [State.dataFrame, Prod.mk.injEq] using s.northFrame_keeps
    (fun t : State => (t.inReset, t.clock, t.south, t.pointers, t.window,
      t.gate, t.detector, t.sources, t.ring, t.engine, t.pending)) _ f _ (by simp) (by simp) (by simp) (fun _ h => by simpa using h)

@[simp] theorem State.controlFrame_keeps (s : State) (f : LinkFrame) :
    (s.controlFrame f).inReset = s.inReset ∧ (s.controlFrame f).clock = s.clock ∧ (s.controlFrame f).south = s.south ∧
    (s.controlFrame f).store = s.store ∧ (s.controlFrame f).queues = s.queues ∧ (s.controlFrame f).pointers = s.pointers ∧
    (s.controlFrame f).window = s.window ∧ (s.controlFrame f).gate = s.gate ∧ (s.controlFrame f).detector = s.detector ∧
    (s.controlFrame f).sources = s.sources ∧ (s.controlFrame f).ring = s.ring ∧ (s.controlFrame f).pending = s.pending := by
  simpa only [State.controlFrame, Prod.mk.injEq] using s.northFrame_keeps
    (fun t : State => (t.inReset, t.clock, t.south, t.store, t.queues, t.pointers, t.window,
      t.gate, t.detector, t.sources, t.ring, t.pending)) _ f _ (by simp) (by simp) (by simp) (fun _ h => by simpa using h)

@[simp] theorem State.rxdataFrame_keeps (s : State) (f : LinkFrame) :
    (s.rxdataFrame f).inReset = s.inReset ∧ (s.rxdataFrame f).clock = s.clock ∧ (s.rxdataFrame f).fifo = s.fifo ∧
    (s.rxdataFrame f).store = s.store ∧ (s.rxdataFrame f).pointers = s.pointers ∧ (s.rxdataFrame f).detector = s.detector ∧
    (s.rxdataFrame f).ring = s.ring ∧ (s.rxdataFrame f).engine = s.engine ∧ (s.rxdataFrame f).pending = s.pending := by
  simpa only [State.rxdataFrame, Prod.mk.injEq] using s.southFrame_keeps
    (fun t : State => (t.inReset, t.clock, t.fifo, t.store, t.pointers, t.detector, t.ring, t.engine, t.pending)) _ f _ (by simp) (by simp)

@[simp] theorem State.energyFrame_keeps (s : State) (f : LinkFrame) :
    (s.energyFrame f).inReset = s.inReset ∧ (s.energyFrame f).clock = s.clock ∧ (s.energyFrame f).fifo = s.fifo ∧
    (s.energyFrame f).store = s.store ∧ (s.energyFrame f).pointers = s.pointers ∧ (s.energyFrame f).ring = s.ring ∧
    (s.energyFrame f).engine = s.engine ∧ (s.energyFrame f).pending = s.pending := by
  simpa only [State.energyFrame, Prod.mk.injEq] using s.southFrame_keeps
    (fun t : State => (t.inReset, t.clock, t.fifo, t.store, t.pointers, t.ring, t.engine, t.pending)) _ f _ (by simp) (by simp)

@[simp] theorem State.txstatFrame_keeps (s : State) (f : LinkFrame) :
    (s.txstatFrame f).inReset = s.inReset ∧ (s.txstatFrame f).clock = s.clock ∧ (s.txstatFrame f).pointers = s.pointers ∧
    (s.txstatFrame f).window = s.window ∧ (s.txstatFrame f).detector = s.detector ∧ (s.txstatFrame f).sources = s.sources ∧
    (s.txstatFrame f).ring = s.ring ∧ (s.txstatFrame f).engine = s.engine ∧ (s.txstatFrame f).pending = s.pending := by
  simpa only [State.txstatFrame, Prod.mk.injEq] using s.southFrame_keeps
    (fun t : State => (t.inReset, t.clock, t.pointers, t.window, t.detector, t.sources, t.ring, t.engine, t.pending)) _ f _ (by simp) (by simp)

@[simp] theorem State.radioFrame_keeps (s : State) (f : LinkFrame) :
    (s.radioFrame f).inReset = s.inReset ∧ (s.radioFrame f).clock = s.clock ∧ (s.radioFrame f).fifo = s.fifo ∧
    (s.radioFrame f).store = s.store ∧ (s.radioFrame f).pointers = s.pointers ∧ (s.radioFrame f).ring = s.ring ∧
    (s.radioFrame f).engine = s.engine ∧ (s.radioFrame f).pending = s.pending := by
  simpa only [State.radioFrame, Prod.mk.injEq] using s.southFrame_keeps
    (fun t : State => (t.inReset, t.clock, t.fifo, t.store, t.pointers, t.ring, t.engine, t.pending)) _ f _ (by simp) (by simp)

@[simp] theorem State.discardFrame_keeps (s : State) (link : Link) (f : LinkFrame) :
    (s.discardFrame link f).inReset = s.inReset ∧ (s.discardFrame link f).clock = s.clock ∧
    (s.discardFrame link f).south = s.south ∧ (s.discardFrame link f).store = s.store ∧
    (s.discardFrame link f).queues = s.queues ∧ (s.discardFrame link f).pointers = s.pointers ∧
    (s.discardFrame link f).window = s.window ∧ (s.discardFrame link f).gate = s.gate ∧
    (s.discardFrame link f).detector = s.detector ∧ (s.discardFrame link f).sources = s.sources ∧
    (s.discardFrame link f).ring = s.ring ∧ (s.discardFrame link f).engine = s.engine ∧
    (s.discardFrame link f).pending = s.pending := by
  cases link with
  | north =>
    simpa only [State.discardFrame, Prod.mk.injEq] using s.northFrame_keeps
      (fun t : State => (t.inReset, t.clock, t.south, t.store, t.queues, t.pointers, t.window,
        t.gate, t.detector, t.sources, t.ring, t.engine, t.pending)) _ f _ (by simp) (by simp) (by simp) (fun _ _ => rfl)
  | south =>
    simpa only [State.discardFrame, Prod.mk.injEq] using s.southFrame_keeps
      (fun t : State => (t.inReset, t.clock, t.south, t.store, t.queues, t.pointers, t.window,
        t.gate, t.detector, t.sources, t.ring, t.engine, t.pending)) _ f _ (by simp) (by simp)

/-! ### Each row as what it does -/

/-- What an event does to a part that takes it; a command of a list is carried out by `actOf`. -/
def eventOf (i : Instr) (s : State) : State :=
  match i with
  | .powerOnReset => s.poweredOn
  | .resetInputAsserted => s.heldInReset
  | .airClockAdvance => s.tick
  | .northSyncGained => s.northGained
  | .northSyncLost => s.northLost
  | .southSyncGained => s.southGained
  | .southSyncLost => s.southLost
  | .northLaneHeader header => s.northHeader header
  | .dataSlotReserved => s.reserveHeld
  | .dataFrame frame => s.dataFrame frame
  | .controlFrame frame => s.controlFrame frame
  | .rxdataFrame frame => s.rxdataFrame frame
  | .energyReport frame => s.energyFrame frame
  | .txstat frame => s.txstatFrame frame
  | .radioRecord frame => s.radioFrame frame
  | .receivedFrameDiscarded link frame => s.discardFrame link frame
  | .northOutputChoice ready => s.northChoice ready
  | .txdoneFrameSent => s.txdoneSent
  | .rxdataFrameSent => s.rxdataSent
  | .statusFrameSent => s.statusSent
  | .southOutputStart ready => s.southStart ready
  | .txdataFrameSent => s.txdataSent
  | .cancelFrameSent => s.cancelSent
  | .releaseArbiterRun ready => s.runArbiter ready
  | .agingTimerExpiry queue => s.agingExpired queue
  | .windowTimerExpiry => s.windowExpired
  | .committedUntilExpiry => s.committedExpired
  | .outstandingStaleExpiry id => s.staleExpired id
  | .coverageAgingExpiry => s.coverageExpired
  | .checkTimerExpiry slot => s.checkExpired slot
  | .ringEndTimerExpiry => s.ringEndExpired
  | .ringLoadTimerExpiry index => s.ringLoadExpired index
  | .pacingTimerExpiry => s.pacingExpired
  | .responseQueued => s.queueResponse
  | .brokenTail bytes => s.reportTail bytes
  | _ => s

/-- The refusal that a command meets in a state, before its read data is measured (R145). -/
def refusalOf (i : Instr) (s : State) : Option Result :=
  match i with
  | .openQueue target data =>
    refuseIf (queueTarget target).isNone (s.targetIn target [.opened, .paused, .draining]) (readQueueConfig data).isNone
  | .pauseQueue target data | .resumeQueue target data => s.queueRefusal target data [.closed, .draining]
  | .drainQueue target data => s.queueRefusal target data [.closed]
  | .clearQueueFlags target data => s.queueRefusal target data []
  | .loadRate target data => refuseIf (rateTarget target).isNone false (readRateImage data).isNone
  | .readRate target data => refuseIf (rateTarget target).isNone false (!data.isEmpty)
  | .readQueue target data | .takeSource target data | .freeSource target data =>
    refuseIf (queueTarget target).isNone false (!data.isEmpty)
  | .writeSource target data =>
    refuseIf (queueTarget target).isNone (slotIs target fun i => (s.slot i).owner == .learn)
      (readSourceImage s.settings s.now data).isNone
  | .releaseSource target data => refuseIf (queueTarget target).isNone (slotIs target s.releaseClashes) (!data.isEmpty)
  | .readSources target data => refuseIf (queueTarget target).isNone false (badSourceRun target data)
  | .startRing target data => refuseIf (ringTarget target).isNone s.ring.running (!data.isEmpty)
  | .loadReservations target data =>
    refuseIf (ringTarget target).isNone (s.loadReachesCurrent target data) (badReservations s.now data)
  | .clearSurvey target data => refuseIf (target != 255 && (surveyIndex target.toNat).isNone) false (!data.isEmpty)
  | .stopRing _ data | .readRing _ data | .readSurvey _ data | .readSettings _ data | .snapshot _ data =>
    refuseIf false false (!data.isEmpty)
  | .loadSettings _ data => refuseIf false false (readSettingsImage data).isNone
  | .setEventEnables _ data => refuseIf false false (readEventBits data).isNone
  | .clearEvents target data => refuseIf (target != 255 && target != 0) false (clearMask target data).isNone
  | .resetPart _ data => refuseIf false false (readScope data).isNone
  | .unknownCommand _ _ _ => some .badOp
  | _ => none

/-- The bytes of read data that a command returns (section 11.5). -/
def sizeOf (i : Instr) : Nat :=
  match i with
  | .readQueue _ _ | .readSettings _ _ => 31
  | .readRate _ _ => 7
  | .takeSource _ _ => 32
  | .readSources _ data => 31 * field data 0 1
  | .readRing _ _ => 262
  | .readSurvey _ _ => 112
  | .snapshot _ _ => 110
  | _ => 0

/-- What a command carries out when it is neither refused nor truncated: the state it leaves, and its read data. -/
def actOf (i : Instr) (s : State) : State × List Byte :=
  match i with
  | .openQueue target data =>
    match queueTarget target, readQueueConfig data with
    | some q, some c => (s.openOne q c, [])
    | _, _ => (s, [])
  | .pauseQueue target _ => (s.forQueues ((queueTargets target).getD []) State.pauseOne, [])
  | .resumeQueue target _ => (s.forQueues ((queueTargets target).getD []) State.resumeOne, [])
  | .drainQueue target _ => (s.forQueues ((queueTargets target).getD []) State.drainOne, [])
  | .clearQueueFlags target _ => (s.forQueues ((queueTargets target).getD []) State.clearQueueFlags, [])
  | .readQueue target _ =>
    (s, match queueTarget target with
      | some q => queueImage (s.queue q)
      | none => [])
  | .loadRate target data =>
    match rateTarget target, readRateImage data with
    | some i, some r => (s.writeRate i r, [])
    | _, _ => (s, [])
  | .readRate target _ =>
    (s, match rateTarget target with
      | some i => rateImage (s.rate i)
      | none => [])
  | .takeSource target _ =>
    match queueTarget target with
    | some i => (s.takeSlot i, toBytes 1 (s.slot i).owner.code ++ sourceImage (s.takeSlot i).settings i ((s.takeSlot i).slot i))
    | none => (s, [])
  | .writeSource target data =>
    match queueTarget target, readSourceImage s.settings s.now data with
    | some i, some e => (s.writeSlot i e, [])
    | _, _ => (s, [])
  | .releaseSource target _ =>
    match queueTarget target with
    | some i => (s.releaseSlot i, [])
    | none => (s, [])
  | .freeSource target _ =>
    match queueTarget target with
    | some i => (s.freeSource i, [])
    | none => (s, [])
  | .readSources target data => (s, s.sourceImages target.toNat (field data 0 1))
  | .startRing target _ =>
    match ringTarget target with
    | some i => (s.handRing (s.ring.start s.now i), [])
    | none => (s, [])
  | .stopRing _ _ => (if s.ring.running then s.handRing (s.ring.stopWith .command) else s, [])
  | .loadReservations target data =>
    match ringTarget target with
    | some i => ({ s with ring := s.ring.writeFrom s.now i (readRingEntries data) }, [])
    | none => (s, [])
  | .readRing _ _ => (s, ringImage s.ring)
  | .readSurvey _ _ => (s, surveyImage s.detector)
  | .clearSurvey target _ => (s.withDetector (s.detector.clearSurvey target), [])
  | .loadSettings _ data =>
    match readSettingsImage data with
    | some c => (s.applySettings c, [])
    | none => (s, [])
  | .readSettings _ _ => (s, settingsImage s.settings)
  | .snapshot _ _ => (s, snapshotImage s)
  | .setEventEnables _ data => (s.writeEnables ((readEventBits data).getD 0), [])
  | .clearEvents target data => (s.clearFlags ((clearMask target data).getD 0), [])
  | .resetPart _ data =>
    match readScope data with
    | some scope => (s.acceptReset scope, [])
    | none => (s, [])
  | _ => (s, [])

/-- A reset from outside, the only rows that a part held in reset takes (R162). -/
def resets : Instr → Bool
  | .powerOnReset | .resetInputAsserted => true
  | _ => false

/-- An UNKNOWN_COMMAND whose code Table 11-10 lists: no command of that row exists. -/
def listedUnknown : Instr → Bool
  | .unknownCommand code _ _ => knownCodes.contains code
  | _ => false

/-- A command as the engine meets it. -/
def commandOf (i : Instr) (c : Command) (s : State) : State :=
  s.command c.code c.target c.data (refusalOf i s) (sizeOf i) (actOf i)

/-- What a row does to a part that takes it: an event, or a command of the list in execution. -/
def effectOf (i : Instr) (s : State) : State :=
  match i.asCommand with
  | none => eventOf i s
  | some c => if listedUnknown i then s else commandOf i c s

/-- The whole instruction set in one equation: no row faults, and a part held in reset takes only the resets. -/
theorem exec_eq (i : Instr) (s : State) : exec i s = .next (if !resets i && s.inReset then s else effectOf i s) := by
  cases i <;> rfl

/-- A row taken by a part that is not held in reset. -/
theorem exec_running (i : Instr) (s : State) (h : s.inReset = false) : exec i s = .next (effectOf i s) := by
  simp [exec_eq, h]

/-- An event, taken by a part that is not held in reset. -/
theorem exec_event (i : Instr) (s : State) (h : s.inReset = false) (hi : i.asCommand = none) :
    exec i s = .next (eventOf i s) := by
  simp [exec_running i s h, effectOf, hi]

/-- A command, met by a part that is not held in reset. -/
theorem exec_command (i : Instr) (s : State) (c : Command) (h : s.inReset = false) (hc : i.asCommand = some c)
    (hl : listedUnknown i = false) : exec i s = .next (commandOf i c s) := by
  simp [exec_running i s h, effectOf, hc, hl]

/-! ### Commands of a list -/

/-- A command in execution that meets a refusal is answered with it and does nothing (R145). -/
theorem exec_refused (i : Instr) (s : State) (l : ControlList) (c : Command) (r : Result) (h : s.executes l c)
    (hc : i.asCommand = some c) (hl : listedUnknown i = false) (hr : refusalOf i s = some r) :
    exec i s = .next (s.answered l c r []) := by
  rw [exec_command i s c (s.inReset_of_executes l c h) hc hl, commandOf, hr, s.command_refused l _ _ _ r _ _ h]

/-- A command in execution that is not refused and whose read data fits is carried out and answered OK (R145, R146). -/
theorem exec_done (i : Instr) (s : State) (l : ControlList) (c : Command) (h : s.executes l c)
    (hc : i.asCommand = some c) (hl : listedUnknown i = false) (hr : refusalOf i s = none) (hroom : sizeOf i ≤ l.room)
    (hbuffer : (actOf i s).1.engine.executing = s.engine.executing) :
    exec i s = .next ((actOf i s).1.answered l c .ok (actOf i s).2) := by
  have ⟨hat, hwhole⟩ := h
  have ⟨hrunning, hexecuting, _⟩ := hat
  rw [exec_command i s c hrunning hc hl, commandOf, hr, s.command_of_atCommand l _ _ _ _ _ _ hat]
  simp [hwhole, Nat.not_lt.2 hroom, (actOf i s).1.reportResult_eq_answered l c .ok (actOf i s).2 (hbuffer.trans hexecuting)]

/-- A command in execution that is not refused and whose read data does not fit is TRUNCATED (R146). -/
theorem exec_truncated (i : Instr) (s : State) (l : ControlList) (c : Command) (h : s.executes l c)
    (hc : i.asCommand = some c) (hl : listedUnknown i = false) (hr : refusalOf i s = none) (hroom : l.room < sizeOf i) :
    exec i s = .next (s.answered l c .truncated []) := by
  have ⟨hat, hwhole⟩ := h
  have ⟨hrunning, _, _⟩ := hat
  rw [exec_command i s c hrunning hc hl, commandOf, hr, s.command_of_atCommand l _ _ _ _ _ _ hat]
  simp [hwhole, hroom]

/-! ### What a command leaves alone -/

/-- What an operation leaves alone on each queue, it leaves alone on each of some. -/
theorem State.forQueues_keeps {α : Type} (s : State) (view : State → α) (qs : List (Fin 16)) (f : State → Fin 16 → State)
    (hf : ∀ u q, view (f u q) = view u) : view (s.forQueues qs f) = view s :=
  qs.foldlRecOn (motive := fun u : State => view u = view s) f rfl fun u hu q _ => (hf u q).trans hu

@[simp] theorem State.openOne_keeps (s : State) (q : Fin 16) (c : QueueConfig) :
    (s.openOne q c).inReset = s.inReset ∧ (s.openOne q c).clock = s.clock ∧ (s.openOne q c).north = s.north ∧
    (s.openOne q c).fifo = s.fifo ∧ (s.openOne q c).south = s.south ∧ (s.openOne q c).store = s.store ∧
    (s.openOne q c).pointers = s.pointers ∧ (s.openOne q c).window = s.window ∧ (s.openOne q c).gate = s.gate ∧
    (s.openOne q c).detector = s.detector ∧ (s.openOne q c).sources = s.sources ∧ (s.openOne q c).ring = s.ring ∧
    (s.openOne q c).engine = s.engine ∧ (s.openOne q c).events = s.events ∧ (s.openOne q c).pending = s.pending := by
  and_intros <;> simp [State.openOne]

@[simp] theorem State.pauseOne_keeps (s : State) (q : Fin 16) :
    (s.pauseOne q).inReset = s.inReset ∧ (s.pauseOne q).clock = s.clock ∧ (s.pauseOne q).north = s.north ∧
    (s.pauseOne q).fifo = s.fifo ∧ (s.pauseOne q).south = s.south ∧ (s.pauseOne q).store = s.store ∧
    (s.pauseOne q).pointers = s.pointers ∧ (s.pauseOne q).window = s.window ∧ (s.pauseOne q).gate = s.gate ∧
    (s.pauseOne q).detector = s.detector ∧ (s.pauseOne q).sources = s.sources ∧ (s.pauseOne q).ring = s.ring ∧
    (s.pauseOne q).engine = s.engine ∧ (s.pauseOne q).events = s.events ∧ (s.pauseOne q).pending = s.pending := by
  and_intros <;> (unfold State.pauseOne; (repeat' split) <;> simp)

@[simp] theorem State.resumeOne_keeps (s : State) (q : Fin 16) :
    (s.resumeOne q).inReset = s.inReset ∧ (s.resumeOne q).clock = s.clock ∧ (s.resumeOne q).north = s.north ∧
    (s.resumeOne q).fifo = s.fifo ∧ (s.resumeOne q).south = s.south ∧ (s.resumeOne q).store = s.store ∧
    (s.resumeOne q).pointers = s.pointers ∧ (s.resumeOne q).window = s.window ∧ (s.resumeOne q).gate = s.gate ∧
    (s.resumeOne q).detector = s.detector ∧ (s.resumeOne q).sources = s.sources ∧ (s.resumeOne q).ring = s.ring ∧
    (s.resumeOne q).engine = s.engine ∧ (s.resumeOne q).events = s.events ∧ (s.resumeOne q).pending = s.pending := by
  and_intros <;> (unfold State.resumeOne; (repeat' split) <;> simp)

@[simp] theorem State.clearQueueFlags_keeps (s : State) (q : Fin 16) :
    (s.clearQueueFlags q).inReset = s.inReset ∧ (s.clearQueueFlags q).clock = s.clock ∧ (s.clearQueueFlags q).north = s.north ∧
    (s.clearQueueFlags q).fifo = s.fifo ∧ (s.clearQueueFlags q).south = s.south ∧ (s.clearQueueFlags q).store = s.store ∧
    (s.clearQueueFlags q).pointers = s.pointers ∧ (s.clearQueueFlags q).window = s.window ∧
    (s.clearQueueFlags q).gate = s.gate ∧ (s.clearQueueFlags q).detector = s.detector ∧
    (s.clearQueueFlags q).sources = s.sources ∧ (s.clearQueueFlags q).ring = s.ring ∧ (s.clearQueueFlags q).engine = s.engine ∧
    (s.clearQueueFlags q).events = s.events ∧ (s.clearQueueFlags q).pending = s.pending := by
  and_intros <;> simp [State.clearQueueFlags]

@[simp] theorem State.drainOne_keeps (s : State) (q : Fin 16) :
    (s.drainOne q).inReset = s.inReset ∧ (s.drainOne q).clock = s.clock ∧ (s.drainOne q).south = s.south ∧
    (s.drainOne q).pointers = s.pointers ∧ (s.drainOne q).window = s.window ∧ (s.drainOne q).gate = s.gate ∧
    (s.drainOne q).detector = s.detector ∧ (s.drainOne q).sources = s.sources ∧ (s.drainOne q).ring = s.ring ∧
    (s.drainOne q).engine = s.engine ∧ (s.drainOne q).pending = s.pending := by
  and_intros <;> (unfold State.drainOne; (repeat' split) <;> simp)

@[simp] theorem State.writeRate_keeps (s : State) (i : Fin 64) (r : Rate) :
    (s.writeRate i r).inReset = s.inReset ∧ (s.writeRate i r).clock = s.clock ∧ (s.writeRate i r).north = s.north ∧
    (s.writeRate i r).fifo = s.fifo ∧ (s.writeRate i r).south = s.south ∧ (s.writeRate i r).store = s.store ∧
    (s.writeRate i r).pointers = s.pointers ∧ (s.writeRate i r).window = s.window ∧ (s.writeRate i r).detector = s.detector ∧
    (s.writeRate i r).sources = s.sources ∧ (s.writeRate i r).ring = s.ring ∧ (s.writeRate i r).engine = s.engine ∧
    (s.writeRate i r).events = s.events ∧ (s.writeRate i r).pending = s.pending := by
  and_intros <;> simp [State.writeRate]

@[simp] theorem State.takeSlot_keeps (s : State) (i : Fin 16) :
    (s.takeSlot i).inReset = s.inReset ∧ (s.takeSlot i).clock = s.clock ∧ (s.takeSlot i).fifo = s.fifo ∧
    (s.takeSlot i).south = s.south ∧ (s.takeSlot i).store = s.store ∧ (s.takeSlot i).pointers = s.pointers ∧
    (s.takeSlot i).gate = s.gate ∧ (s.takeSlot i).detector = s.detector ∧ (s.takeSlot i).ring = s.ring ∧
    (s.takeSlot i).engine = s.engine ∧ (s.takeSlot i).pending = s.pending := by
  and_intros <;> (unfold State.takeSlot; (repeat' split) <;> simp)

@[simp] theorem State.releaseSlot_keeps (s : State) (i : Fin 16) :
    (s.releaseSlot i).inReset = s.inReset ∧ (s.releaseSlot i).clock = s.clock ∧ (s.releaseSlot i).fifo = s.fifo ∧
    (s.releaseSlot i).south = s.south ∧ (s.releaseSlot i).store = s.store ∧ (s.releaseSlot i).pointers = s.pointers ∧
    (s.releaseSlot i).gate = s.gate ∧ (s.releaseSlot i).detector = s.detector ∧ (s.releaseSlot i).ring = s.ring ∧
    (s.releaseSlot i).engine = s.engine ∧ (s.releaseSlot i).pending = s.pending := by
  and_intros <;> (unfold State.releaseSlot; (repeat' split) <;> simp)

@[simp] theorem State.freeSource_keeps (s : State) (i : Fin 16) :
    (s.freeSource i).inReset = s.inReset ∧ (s.freeSource i).clock = s.clock ∧ (s.freeSource i).fifo = s.fifo ∧
    (s.freeSource i).south = s.south ∧ (s.freeSource i).store = s.store ∧ (s.freeSource i).pointers = s.pointers ∧
    (s.freeSource i).gate = s.gate ∧ (s.freeSource i).detector = s.detector ∧ (s.freeSource i).ring = s.ring ∧
    (s.freeSource i).engine = s.engine ∧ (s.freeSource i).pending = s.pending := by
  and_intros <;> (unfold State.freeSource; (repeat' split) <;> simp)

@[simp] theorem State.writeSlot_keeps (s : State) (i : Fin 16) (e : Source) :
    (s.writeSlot i e).inReset = s.inReset ∧ (s.writeSlot i e).clock = s.clock ∧ (s.writeSlot i e).fifo = s.fifo ∧
    (s.writeSlot i e).store = s.store ∧ (s.writeSlot i e).pointers = s.pointers ∧ (s.writeSlot i e).detector = s.detector ∧
    (s.writeSlot i e).ring = s.ring ∧ (s.writeSlot i e).engine = s.engine ∧ (s.writeSlot i e).pending = s.pending := by
  and_intros <;> simp [State.writeSlot]

@[simp] theorem State.applySettings_keeps (s : State) (c : Settings) :
    (s.applySettings c).inReset = s.inReset ∧ (s.applySettings c).clock = s.clock ∧ (s.applySettings c).fifo = s.fifo ∧
    (s.applySettings c).store = s.store ∧ (s.applySettings c).pointers = s.pointers ∧
    (s.applySettings c).detector = s.detector ∧ (s.applySettings c).ring = s.ring ∧
    (s.applySettings c).pending = s.pending := by
  and_intros <;> simp [State.applySettings]

/-! ### Induction over the rows -/

/-- A report changes nothing but the executing buffer. -/
theorem State.reportResult_eq (s : State) (c : Command) (r : Result) (data : List Byte) :
    ∃ x, s.reportResult c r data = s.withExecuting x := by
  unfold State.reportResult
  split
  · exact ⟨_, rfl⟩
  · exact ⟨s.engine.executing, rfl⟩

theorem State.reportTail_eq (s : State) (bytes : List Byte) : ∃ x, s.reportTail bytes = s.withExecuting x := by
  unfold State.reportTail
  split
  · split
    · exact ⟨_, rfl⟩
    · exact ⟨s.engine.executing, rfl⟩
  · exact ⟨s.engine.executing, rfl⟩

/-- What a command can do: nothing, a report alone, or what it carries out and a report. -/
theorem State.command_cases (s : State) (code target : Byte) (data : List Byte) (refusal : Option Result) (size : Nat)
    (act : State → State × List Byte) :
    s.command code target data refusal size act = s ∨ (∃ x, s.command code target data refusal size act = s.withExecuting x) ∨
      refusal = none ∧ ∃ x, s.command code target data refusal size act = (act s).1.withExecuting x := by
  unfold State.command
  split
  case h_1 => exact .inl rfl
  case h_2 =>
    split
    case isFalse => exact .inl rfl
    case isTrue =>
      split
      case isTrue => exact .inr (.inl (s.reportResult_eq _ _ _))
      case isFalse =>
        cases refusal with
        | some r => exact .inr (.inl (s.reportResult_eq _ r _))
        | none =>
          dsimp only
          split
          · exact .inr (.inl (s.reportResult_eq _ _ _))
          · exact .inr (.inr ⟨rfl, (act s).1.reportResult_eq _ _ _⟩)

/-- What is blind to the executing buffer, and kept by every event and by every command that is carried out, is kept by every row. -/
theorem effectOf_invariant {P : State → Prop} (hreport : ∀ s x, P s → P (s.withExecuting x)) (i : Instr) (s : State)
    (hevent : P s → P (eventOf i s)) (hact : refusalOf i s = none → P s → P (actOf i s).1) (h : P s) :
    P (effectOf i s) := by
  unfold effectOf
  split
  case h_1 => exact hevent h
  case h_2 c _ =>
    split
    · exact h
    · unfold commandOf
      rcases s.command_cases c.code c.target c.data (refusalOf i s) (sizeOf i) (actOf i) with heq | ⟨x, heq⟩ | ⟨href, x, heq⟩
      · rw [heq]; exact h
      · rw [heq]; exact hreport _ x h
      · rw [heq]; exact hreport _ x (hact href h)

/-- The induction over the rows, for a step from any queue of waiting commands. -/
theorem step_invariant {P : State → Prop} (hpending : ∀ s p, P s → P { s with pending := p })
    (hreport : ∀ s x, P s → P (s.withExecuting x)) (hevent : ∀ i s, P s → P (eventOf i s))
    (hact : ∀ i s, refusalOf i s = none → P s → P (actOf i s).1) (s t : State) (hstep : step s = .next t) (h : P s) : P t := by
  unfold step at hstep
  split at hstep
  case h_1 =>
    cases hstep
    exact h
  case h_2 c rest _ =>
    rw [exec_eq, Host.Outcome.next.injEq] at hstep
    subst hstep
    have hs := hpending s rest h
    split_ifs
    · exact hs
    · exact effectOf_invariant hreport c _ (hevent c _) (hact c _) hs

end Sys2Proof.Machine

/-! PROOFS. The block as a whole: steps, resets, the air clock (R1, R2, R162); and the survey's law (R111). -/

namespace Sys2Proof.Machine

/-! ### Steps and resets -/

/-- Settles O1: the step function's two cases. -/
theorem stepRunsTheFrontCommand : Obligations.StepRunsTheFrontCommand := by
  refine ⟨fun c rest s h => ?front, fun c s => rfl, fun s h => ?idle⟩
  case front => simp only [step, h]
  case idle => simp only [step, h]

/-- What is kept by every event and by every command carried out is kept by every row; the report is blind to the view. -/
theorem effectOf_keeps {α : Type} (view : State → α) (hreport : ∀ s x, view (State.withExecuting s x) = view s) (i : Instr) (s : State)
    (hevent : view (eventOf i s) = view s) (hact : view (actOf i s).1 = view s) : view (effectOf i s) = view s :=
  effectOf_invariant (P := fun t => view t = view s) (fun u x hu => (hreport u x).trans hu) i s (fun _ => hevent) (fun _ _ => hact) rfl

@[simp] theorem actOf_keeps (i : Instr) (s : State) :
    (actOf i s).1.inReset = s.inReset ∧ (actOf i s).1.clock = s.clock ∧ (actOf i s).1.pointers = s.pointers ∧
    (actOf i s).1.pending = s.pending := by
  have hqueues (qs : List (Fin 16)) (f : State → Fin 16 → State)
      (hf : ∀ u q, (f u q).inReset = u.inReset ∧ (f u q).clock = u.clock ∧ (f u q).pointers = u.pointers ∧ (f u q).pending = u.pending) :=
    s.forQueues_keeps (fun t => (t.inReset, t.clock, t.pointers, t.pending)) qs f (by simpa using hf)
  simp only [Prod.mk.injEq] at hqueues
  cases i with
  | pauseQueue target _ => exact hqueues _ _ (by simp)
  | resumeQueue target _ => exact hqueues _ _ (by simp)
  | drainQueue target _ => exact hqueues _ _ (by simp)
  | clearQueueFlags target _ => exact hqueues _ _ (by simp)
  | _ => (simp only [actOf]; repeat' split) <;> simp

theorem effectOf_pending (i : Instr) (s : State) : (effectOf i s).pending = s.pending :=
  effectOf_keeps State.pending (fun _ _ => rfl) i s
    (by
      cases i with
      | powerOnReset => rfl
      | resetInputAsserted => rfl
      | airClockAdvance => rfl
      | _ => simp [eventOf])
    (by simp)

/-- Settles O2: one equation gives each row's next state, and none touches the queue of waiting commands. -/
theorem everyCommandTakesANextState : Obligations.EveryCommandTakesANextState := by
  intro c s
  refine ⟨_, exec_eq c s, ?_⟩
  split
  · rfl
  · exact effectOf_pending c s

/-- Settles O3: the power-on values block by block, and a part held in reset. -/
theorem powerOnAndResetInput : Obligations.PowerOnAndResetInput := by
  refine ⟨fun s => ⟨s.poweredOn, rfl, ?values⟩, fun s => rfl, fun c s h hpower hreset => ?held⟩
  case values =>
    refine ⟨rfl, rfl, rfl, rfl, rfl, rfl, rfl, ?_, ?_, rfl, ?_, rfl, rfl, rfl, rfl, rfl, rfl, ?_, ?_, rfl, ?_, rfl, rfl, rfl, rfl, rfl,
      rfl, rfl, rfl⟩
    all_goals
      intro k
      simp [State.poweredOn, State.reset, State.queue, State.rate, State.slot, Ring.entry, Queue.powerOn, Gate.powerOn,
        Detector.powerOn, Sources.powerOn, Slot.powerOn, Ring.powerOn, RingEntry.powerOn]
  case held =>
    have hc : resets c = false := by
      cases c with
      | powerOnReset => exact absurd rfl hpower
      | resetInputAsserted => exact absurd rfl hreset
      | _ => rfl
    simp [exec_eq, hc, h]

/-! ### The air clock -/

/-- No row moves the clock but its tick, the resets, and the full count published at a gain of south synchronisation (R1, R2). -/
theorem effectOf_clock (i : Instr) (s : State) (htick : i ≠ .airClockAdvance) (hpower : i ≠ .powerOnReset)
    (hreset : i ≠ .resetInputAsserted) (hgain : i ≠ .southSyncGained) : (effectOf i s).clock = s.clock :=
  effectOf_keeps State.clock (fun _ _ => rfl) i s
    (by
      cases i with
      | powerOnReset => exact absurd rfl hpower
      | resetInputAsserted => exact absurd rfl hreset
      | airClockAdvance => exact absurd rfl htick
      | southSyncGained => exact absurd rfl hgain
      | _ => simp [eventOf])
    (by simp)

/-- A gain of south synchronisation touches the full count alone. -/
theorem State.southGained_clock (s : State) :
    s.southGained.clock.now = s.clock.now ∧ s.southGained.clock.marking = s.clock.marking := by
  unfold State.southGained
  split
  · exact ⟨rfl, rfl⟩
  · exact ⟨rfl, rfl⟩

/-- Settles O4: the tick spelled out, and every other row leaves the clock to itself. -/
theorem onlyItsTickMovesTheAirClock : Obligations.OnlyItsTickMovesTheAirClock := by
  refine ⟨fun s h => s.live_running _ h, fun c s t hexec htick hpower hreset => ?_⟩
  rw [exec_eq, Host.Outcome.next.injEq] at hexec
  subst hexec
  split
  case isTrue => exact ⟨rfl, rfl, fun _ => rfl⟩
  case isFalse =>
    by_cases hgain : c = .southSyncGained
    case pos =>
      subst hgain
      exact ⟨s.southGained_clock.1, s.southGained_clock.2, fun h => absurd rfl h⟩
    case neg =>
      rw [effectOf_clock c s htick hpower hreset hgain]
      exact ⟨rfl, rfl, fun _ => rfl⟩

/-! ### The survey's law (R111) -/

/-- A survey entry's counts in order and in range. -/
def SurveyEntry.lawful (x : SurveyEntry) : Prop := x.busy ≤ x.listen ∧ x.listen ≤ 4294967295

/-- A sample keeps an entry's counts in order and in range. -/
theorem SurveyEntry.add_lawful (x : SurveyEntry) (interval : Nat) (busy : Bool) (h : x.lawful) : (x.add interval busy).lawful := by
  obtain ⟨hle, hmax⟩ := h
  cases busy <;> simp [SurveyEntry.lawful, SurveyEntry.add, saturate_eq_min, Config.surveyMax] <;> omega

/-- The law speaks of the survey alone. -/
theorem Detector.lawful_of_survey_eq {d d' : Detector} (h : d.lawful) (heq : d'.survey = d.survey) : d'.lawful := by
  unfold Detector.lawful
  rw [heq]
  exact h

/-- One entry replaced by a lawful one. -/
theorem Detector.lawful_set {d d' : Detector} (h : d.lawful) (i : Fin 14) (x : SurveyEntry) (hx : x.lawful)
    (heq : d'.survey = d.survey.set i x) : d'.lawful := by
  intro j
  rw [heq]
  by_cases hij : i = j
  case pos => subst hij; simpa [SurveyEntry.lawful] using hx
  case neg => simpa [Vector.getElem_set, Fin.val_ne_of_ne hij] using h j

theorem Detector.powerOn_lawful : Detector.powerOn.lawful := by
  intro i
  simp [Detector.powerOn]

theorem Detector.surveyReport_lawful (d : Detector) (onLevel : Int) (r : EnergyReport) (h : d.lawful) :
    (d.surveyReport onLevel r).lawful := by
  unfold Detector.surveyReport
  split
  case h_1 i _ =>
    have hsum : (r.samples.foldl (fun x level => x.add r.interval (decide (onLevel ≤ level))) d.survey[i]).lawful :=
      r.samples.foldlRecOn (motive := SurveyEntry.lawful) _ (h i) fun x hx level _ => x.add_lawful _ _ hx
    exact Detector.lawful_set h i _ hsum rfl
  case h_2 => exact h

theorem Detector.clearSurvey_lawful (d : Detector) (target : Byte) (h : d.lawful) : (d.clearSurvey target).lawful := by
  unfold Detector.clearSurvey
  (repeat' split)
  · exact Detector.powerOn_lawful
  · exact Detector.lawful_set h _ _ ⟨Nat.le_refl 0, Nat.zero_le _⟩ rfl
  · exact h

theorem Detector.afterReset_lawful (d : Detector) (scope : ResetScope) (h : d.lawful) : (d.afterReset scope).lawful := by
  cases scope with
  | full => exact Detector.powerOn_lawful
  | traffic => exact h

theorem State.detectionReport_lawfulSurvey (s : State) (n : Nat) (r : EnergyReport) (h : s.detector.lawful) :
    (s.detectionReport n r).detector.lawful := by
  unfold State.detectionReport
  extract_lets oldEnd t₁ t₂ t₃ t₄
  have hsurvey : t₃.state.detector.survey = s.detector.survey := by
    simp only [t₃, t₂, t₁, Track.samples_survey, Track.modDetector_detector, Detector.withSpans_survey]
    split <;> simp [Track.begin]
  have hcounted : t₄.state.detector.lawful :=
    Detector.surveyReport_lawful _ _ r (Detector.lawful_of_survey_eq h hsurvey)
  exact Detector.lawful_of_survey_eq hcounted (by simp)

theorem State.energyReport_lawfulSurvey (s : State) (r : EnergyReport) (h : s.detector.lawful) :
    (s.energyReport r).detector.lawful := by
  unfold State.energyReport
  (repeat' split)
  · exact s.detectionReport_lawfulSurvey _ r h
  · exact s.detector.surveyReport_lawful _ r h
  · exact s.detector.surveyReport_lawful _ r h

/-- A radio change empties the coverage list and closes the burst; the survey stands (R113). -/
@[simp] theorem Track.radioChange_survey (t : Track) (old : Radio) :
    (t.radioChange old).state.detector.survey = t.state.detector.survey := by
  unfold Track.radioChange
  split <;> simp

@[simp] theorem State.changeRadio_survey (s : State) (radio : Radio) (last : Option Nat) (opened : Bool) :
    (s.changeRadio radio last opened).detector.survey = s.detector.survey := by
  simp [State.changeRadio, Track.begin]

@[simp] theorem State.applyRadio_survey (s : State) (r : RadioRecord) : (s.applyRadio r).detector.survey = s.detector.survey := by
  unfold State.applyRadio
  (repeat' split) <;> simp

@[simp] theorem State.southLost_survey (s : State) : s.southLost.detector.survey = s.detector.survey := by
  unfold State.southLost
  split
  case isTrue =>
    dsimp only
    split <;> simp
  case isFalse => rfl

@[simp] theorem State.coverageExpired_survey (s : State) : s.coverageExpired.detector.survey = s.detector.survey := by
  unfold State.coverageExpired
  split <;> simp [State.ageCoverage, Track.begin]

theorem State.partReset_detector (s : State) (scope : ResetScope) :
    (s.partReset scope).detector = s.detector.afterReset scope := by
  unfold State.partReset
  (repeat' split) <;> simp [State.resetBlocks, Track.begin]

/-! ### Where a part reset executes -/

/-- What the queueing of a response keeps: it moves STATUS frames, moves the executing and the waiting buffer, and may execute a part reset. -/
theorem State.queueResponse_induction {P : State → Prop} (s : State) (h : P s)
    (hnorth : ∀ u status, P u → P (u.withNorth { u.north with status := status }))
    (hengine : ∀ u x w, P u → P (u.withEngine { u.engine with executing := x, waiting := w }))
    (hreset : ∀ u scope, P u → P (u.partReset scope)) : P s.queueResponse := by
  unfold State.queueResponse
  split
  case h_1 l _ =>
    split
    case isTrue => exact h
    case isFalse =>
      extract_lets n s₁ s₂
      have h₂ : P s₂ := hengine s₁ .empty s₁.engine.waiting (hnorth s _ h)
      split
      · exact hreset s₂ _ h₂
      · split
        · exact hengine s₂ _ none h₂
        · exact h₂
  case h_2 => exact h

/-- What the end of a STATUS frame keeps. -/
theorem State.statusSent_induction {P : State → Prop} (s : State) (h : P s) (hsent : P (s.withNorth s.north.sent))
    (hresponse : P (s.withNorth s.north.sent) → P (s.withNorth s.north.sent).queueResponse)
    (hnotice : P (s.withNorth s.north.sent) → P (s.withNorth s.north.sent).queueNotice) : P s.statusSent := by
  unfold State.statusSent
  split
  · exact hresponse hsent
  · exact hnotice hsent
  · exact hsent
  · exact h

theorem State.queueResponse_lawfulSurvey (s : State) (h : s.detector.lawful) : s.queueResponse.detector.lawful :=
  s.queueResponse_induction (P := fun u => u.detector.lawful) h (fun _ _ hu => hu) (fun _ _ _ hu => hu) fun u scope hu => by
    rw [u.partReset_detector]
    exact u.detector.afterReset_lawful scope hu

theorem eventOf_lawfulSurvey (i : Instr) (s : State) (h : s.detector.lawful) : (eventOf i s).detector.lawful := by
  have hkept {t : State} (ht : t.detector.survey = s.detector.survey) : t.detector.lawful := Detector.lawful_of_survey_eq h ht
  cases i with
  | powerOnReset => exact Detector.powerOn_lawful
  | resetInputAsserted => exact Detector.powerOn_lawful
  | energyReport f =>
    refine s.southFrame_induction (P := fun u => u.detector.lawful) 6 f _ h (hkept (by simp)) ?_
    unfold State.takeEnergy
    split
    · exact s.energyReport_lawfulSurvey _ h
    · exact hkept (by simp)
  | radioRecord f =>
    refine hkept (s.southFrame_keeps (fun u => u.detector.survey) 8 f _ (by simp) ?_)
    unfold State.takeRadio
    split <;> simp
  | responseQueued => exact s.queueResponse_lawfulSurvey h
  | statusFrameSent =>
    exact s.statusSent_induction (P := fun u => u.detector.lawful) h h (fun hu => State.queueResponse_lawfulSurvey _ hu)
      fun hu => Detector.lawful_of_survey_eq hu (by simp)
  | airClockAdvance => exact h
  | _ => exact hkept (by simp [eventOf])

theorem actOf_lawfulSurvey (i : Instr) (s : State) (h : s.detector.lawful) : (actOf i s).1.detector.lawful := by
  have hkept {t : State} (ht : t.detector.survey = s.detector.survey) : t.detector.lawful := Detector.lawful_of_survey_eq h ht
  have hqueues (qs : List (Fin 16)) (f : State → Fin 16 → State) (hf : ∀ u q, (f u q).detector.survey = u.detector.survey) :
      (s.forQueues qs f).detector.lawful := hkept (s.forQueues_keeps (fun u => u.detector.survey) qs f hf)
  cases i with
  | pauseQueue target _ => exact hqueues _ _ (by simp)
  | resumeQueue target _ => exact hqueues _ _ (by simp)
  | drainQueue target _ => exact hqueues _ _ (by simp)
  | clearQueueFlags target _ => exact hqueues _ _ (by simp)
  | clearSurvey target _ => exact s.detector.clearSurvey_lawful target h
  | _ => (simp only [actOf]; repeat' split) <;> exact hkept (by simp)

/-- Settles O56: samples, the clearing of the survey and resets keep each entry's counts in order; nothing else touches the survey. -/
theorem busyCountNeverPassesListenCount : Obligations.BusyCountNeverPassesListenCount := fun s t h hstep =>
  step_invariant (P := fun u => u.detector.lawful) (fun _ _ hu => hu) (fun _ _ hu => hu) eventOf_lawfulSurvey
    (fun i u _ hu => actOf_lawfulSurvey i u hu) s t hstep h

end Sys2Proof.Machine

/-! PROOFS. The reservation ring (chapter 9): the walk, the writing of entries, and the law of a RUNNING ring (R136 to R142). -/

namespace Sys2Proof.Machine

/-! ### The targets of ring commands -/

theorem ringTarget_eq_some_iff (target : Byte) (i : Fin 32) : ringTarget target = some i ↔ target.toNat = i.val := by
  unfold ringTarget
  split_ifs
  · simp [Fin.ext_iff]
  · simp only [false_iff]
    omega

theorem ringTarget_eq_none_iff (target : Byte) : ringTarget target = none ↔ 32 ≤ target.toNat := by
  unfold ringTarget
  split_ifs <;> simp <;> omega

/-! ### Entries written one after another (R139) -/

/-- The places of a run of writes: the first index itself, and the rest counted from the next index. -/
theorem Fin.val_sub_of_ne (i j : Fin 32) (h : j ≠ i) : (j - i).val = (j - (i + 1)).val + 1 := by
  have h' : j.val ≠ i.val := fun e => h (Fin.ext e)
  simp only [Fin.sub_def, Fin.val_add, Fin.val_one]
  omega

theorem Fin.val_sub_succ_self (i : Fin 32) : (i - (i + 1)).val = 31 := by
  simp only [Fin.sub_def, Fin.val_add, Fin.val_one]
  omega

/-- At most 32 entries written from an index, each at its own place; nothing else of the ring changes. -/
theorem Ring.writeFrom_eq (now : Instant) (r : Ring) (i : Fin 32) (es : List RingEntry) (h : es.length ≤ 32) :
    r.writeFrom now i es =
      { r with
        entries := Vector.ofFn fun j : Fin 32 => if h : (j - i).val < es.length then es[(j - i).val].loaded now else r.entry j } := by
  induction es generalizing r i with
  | nil =>
    have hsame : (Vector.ofFn fun j : Fin 32 => r.entry j) = r.entries := by
      ext j hj
      simp [Ring.entry]
    simp [Ring.writeFrom, hsame]
  | cons e rest ih =>
    have hshort : rest.length < 32 := by simpa using h
    rw [Ring.writeFrom, ih _ _ (Nat.le_of_lt hshort)]
    refine congrArg (fun f => ({ r with entries := Vector.ofFn f } : Ring)) (funext fun j => ?_)
    by_cases hj : j = i
    case pos =>
      subst hj
      have hlast : ¬ (j - (j + 1)).val < rest.length := by rw [Fin.val_sub_succ_self]; omega
      simp only [hlast, dite_false, Ring.entry_setEntry_self]
      simp
    case neg =>
      have hplace := Fin.val_sub_of_ne i j hj
      simp only [hplace, List.length_cons, Nat.add_lt_add_iff_right, List.getElem_cons_succ,
        Ring.entry_setEntry_other r i j _ (Ne.symm hj)]

/-- A write that does not reach an index leaves its entry. -/
theorem Ring.writeFrom_entry_other (now : Instant) (r : Ring) (i j : Fin 32) (es : List RingEntry) (h : es.length ≤ 32)
    (hreach : reachesIndex i es.length j = false) : (r.writeFrom now i es).entry j = r.entry j := by
  have hj : ¬ (j - i).val < es.length := by simpa [reachesIndex] using hreach
  rw [r.writeFrom_eq now i es h]
  simp [Ring.entry, hj]

theorem readRingEntries_length (data : List Byte) : (readRingEntries data).length = data.length / 8 := by
  simp [readRingEntries]

/-! ### The walk (R141) -/

@[simp] theorem Ring.stopWith_entry (r : Ring) (reason : StopReason) (i : Fin 32) : (r.stopWith reason).entry i = r.entry i := rfl
@[simp] theorem Ring.consume_running (r : Ring) : r.consume.running = r.running := rfl

/-- The walk's law once it has ended or armed its timer (R136). -/
theorem Ring.stopWith_lawful (r : Ring) (reason : StopReason) : (r.stopWith reason).lawful :=
  ⟨fun h => absurd h Bool.false_ne_true, fun _ => rfl⟩

section
variable (now : Instant) (n : Nat) (r : Ring)

/-- An invalid entry stops the walk (R141 step 3). -/
theorem Ring.settle_invalid (h : (r.entry r.current).valid = false) : Ring.settle now (n + 1) r = r.stopWith .invalid := by
  simp [Ring.settle, h]

/-- A late or stale entry is consumed, and the walk ends after a last one (R141 steps 1 and 4). -/
theorem Ring.settle_passed_last (hvalid : (r.entry r.current).valid = true) (hpassed : (r.entry r.current).passed now = true)
    (hlast : (r.entry r.current).last = true) : Ring.settle now (n + 1) r = r.consume.stopWith .last := by
  simp [Ring.settle, hvalid, hpassed, hlast]

/-- It goes on from the next index after any other. -/
theorem Ring.settle_passed_on (hvalid : (r.entry r.current).valid = true) (hpassed : (r.entry r.current).passed now = true)
    (hlast : (r.entry r.current).last = false) :
    Ring.settle now (n + 1) r = Ring.settle now n { r.consume with current := r.nextIndex } := by
  simp [Ring.settle, hvalid, hpassed, hlast]

/-- An entry that is still to come arms the end timer (R141 step 5). -/
theorem Ring.settle_waits (hvalid : (r.entry r.current).valid = true) (hpassed : (r.entry r.current).passed now = false) :
    Ring.settle now (n + 1) r = { r with endTimer := some (r.entry r.current).stop } := by
  simp [Ring.settle, hvalid, hpassed]

end

/-- The walk either stops or leaves a valid current entry whose end the timer waits for. -/
theorem Ring.settle_lawful (now : Instant) (n : Nat) (r : Ring) (h : r.running = true) : (Ring.settle now n r).lawful := by
  induction n generalizing r with
  | zero => exact r.stopWith_lawful _
  | succ n ih =>
    cases hvalid : (r.entry r.current).valid with
    | false => exact r.settle_invalid now n hvalid ▸ r.stopWith_lawful _
    | true =>
      cases hpassed : (r.entry r.current).passed now with
      | false =>
        rw [r.settle_waits now n hvalid hpassed]
        exact ⟨fun _ => ⟨hvalid, rfl⟩, fun hstopped => absurd (h.symm.trans hstopped) (by decide)⟩
      | true =>
        cases hlast : (r.entry r.current).last with
        | false => exact r.settle_passed_on now n hvalid hpassed hlast ▸ ih _ h
        | true => exact r.settle_passed_last now n hvalid hpassed hlast ▸ r.consume.stopWith_lawful _

theorem Ring.advance_lawful (now : Instant) (r : Ring) (h : r.running = true) : (r.advance now).lawful := by
  unfold Ring.advance
  split
  · exact r.consume.stopWith_lawful _
  · exact Ring.settle_lawful now 32 _ h

theorem Ring.start_lawful (now : Instant) (i : Fin 32) (r : Ring) : (r.start now i).lawful := Ring.settle_lawful now 33 _ rfl

/-- The stale mark and the load timer of an entry do not enter the law. -/
theorem Ring.setEntry_lawful (r : Ring) (i : Fin 32) (e : RingEntry) (h : r.lawful) (hvalid : e.valid = (r.entry i).valid)
    (hstop : e.stop = (r.entry i).stop) : (r.setEntry i e).lawful := by
  refine ⟨fun hrun => ?_, h.2⟩
  obtain ⟨hv, ht⟩ := h.1 hrun
  by_cases hi : i = r.current
  case pos =>
    subst hi
    exact ⟨by simpa [hvalid] using hv, by simpa [hstop] using ht⟩
  case neg => simpa [Ring.entry_setEntry_other r i r.current e hi] using And.intro hv ht

/-- Entries written away from a RUNNING ring's current index keep the law. -/
theorem Ring.writeFrom_lawful (now : Instant) (r : Ring) (i : Fin 32) (es : List RingEntry) (hshort : es.length ≤ 32) (h : r.lawful)
    (hreach : r.running = true → reachesIndex i es.length r.current = false) : (r.writeFrom now i es).lawful := by
  have hkept : (r.writeFrom now i es).running = r.running ∧ (r.writeFrom now i es).current = r.current ∧
      (r.writeFrom now i es).endTimer = r.endTimer := by
    rw [r.writeFrom_eq now i es hshort]
    exact ⟨rfl, rfl, rfl⟩
  obtain ⟨hrunning, hcurrent, htimer⟩ := hkept
  refine ⟨fun hrun => ?_, fun hidle => ?_⟩
  · rw [hrunning] at hrun
    rw [hcurrent, htimer, r.writeFrom_entry_other now i r.current es hshort (hreach hrun)]
    exact h.1 hrun
  · rw [htimer]
    exact h.2 (hrunning ▸ hidle)

/-! ### How many consumptions an event can make -/

/-- The indexes of the valid entries. -/
def Ring.validSet (r : Ring) : Finset (Fin 32) := Finset.univ.filter fun i => (r.entry i).valid = true

/-- A consumption takes the current index from the valid ones. -/
theorem Ring.consume_validSet (r : Ring) : r.consume.validSet = r.validSet.erase r.current := by
  ext i
  by_cases hi : r.current = i
  case pos =>
    subst hi
    have hentry : (r.consume.entry r.current).valid = false := congrArg RingEntry.valid (r.entry_setEntry_self _ _)
    simp [Ring.validSet, hentry]
  case neg =>
    have hentry : (r.consume.entry i).valid = (r.entry i).valid := congrArg RingEntry.valid (r.entry_setEntry_other _ i _ hi)
    simp [Ring.validSet, hentry, Ne.symm hi]

/-- The consumption of a valid entry leaves one valid entry fewer. -/
theorem Ring.consume_validSet_lt (r : Ring) (h : (r.entry r.current).valid = true) :
    r.consume.validSet.card < r.validSet.card := by
  rw [r.consume_validSet]
  exact Finset.card_erase_lt_of_mem (by simpa [Ring.validSet] using h)

/-- A bound above the valid entries' number is as good as the next: each consumption clears a valid flag. -/
theorem Ring.settle_succ (now : Instant) (n : Nat) (r : Ring) (h : r.validSet.card < n) :
    Ring.settle now (n + 1) r = Ring.settle now n r := by
  induction n generalizing r with
  | zero => exact absurd h (Nat.not_lt_zero _)
  | succ n ih =>
    cases hvalid : (r.entry r.current).valid with
    | false => rw [r.settle_invalid now _ hvalid, r.settle_invalid now _ hvalid]
    | true =>
      cases hpassed : (r.entry r.current).passed now with
      | false => rw [r.settle_waits now _ hvalid hpassed, r.settle_waits now _ hvalid hpassed]
      | true =>
        cases hlast : (r.entry r.current).last with
        | true => rw [r.settle_passed_last now _ hvalid hpassed hlast, r.settle_passed_last now _ hvalid hpassed hlast]
        | false =>
          rw [r.settle_passed_on now _ hvalid hpassed hlast, r.settle_passed_on now _ hvalid hpassed hlast]
          exact ih _ (Nat.lt_of_succ_lt_succ (Nat.lt_of_le_of_lt (Nat.succ_le_of_lt (r.consume_validSet_lt hvalid)) h))

/-- After one consumption at most 31 entries are valid. -/
theorem Ring.consume_validSet_card (r : Ring) : r.consume.validSet.card ≤ 31 := by
  have hlt : (r.validSet.erase r.current).card < (Finset.univ : Finset (Fin 32)).card :=
    Finset.card_lt_card (Finset.ssubset_univ_iff.2 fun h => absurd (h ▸ Finset.mem_univ r.current) (Finset.notMem_erase _ _))
  rw [r.consume_validSet]
  exact Nat.le_of_lt_succ (by simpa using hlt)

/-- Any two bounds above the valid entries' number agree. -/
theorem Ring.settle_add (now : Instant) (n k : Nat) (r : Ring) (h : r.validSet.card < n) :
    Ring.settle now (n + k) r = Ring.settle now n r := by
  induction k with
  | zero => rfl
  | succ k ih => rw [← Nat.add_assoc, Ring.settle_succ now (n + k) r (Nat.lt_of_lt_of_le h (Nat.le_add_right n k)), ih]

/-- A late or stale entry that the walk meets is passed as if its own end had been reached (R141 step 4), whichever bound above the
valid entries' number is left. -/
theorem Ring.settle_of_passed (now : Instant) (n : Nat) (r : Ring) (hvalid : (r.entry r.current).valid = true)
    (hpassed : (r.entry r.current).passed now = true) (hn : r.validSet.card ≤ n) (hlarge : n ≤ 32) :
    Ring.settle now (n + 1) r = r.advance now := by
  unfold Ring.advance
  cases hlast : (r.entry r.current).last with
  | true => exact r.settle_passed_last now n hvalid hpassed hlast
  | false =>
    obtain ⟨k, hk⟩ := Nat.exists_eq_add_of_le hlarge
    rw [r.settle_passed_on now n hvalid hpassed hlast, if_neg Bool.false_ne_true, hk]
    exact (Ring.settle_add now n k { r.consume with current := r.nextIndex }
      (Nat.lt_of_lt_of_le (r.consume_validSet_lt hvalid) hn)).symm

/-! ### The ring's part of each event -/

theorem State.partReset_ring (s : State) (scope : ResetScope) : (s.partReset scope).ring = s.ring.afterReset scope := by
  unfold State.partReset
  (repeat' split) <;> simp [State.resetBlocks, Track.begin]

theorem Ring.afterReset_lawful (r : Ring) (scope : ResetScope) : (r.afterReset scope).lawful := by
  cases scope with
  | full => exact ⟨fun h => absurd h Bool.false_ne_true, fun _ => rfl⟩
  | traffic => exact r.stopWith_lawful _

@[simp] theorem State.handRing_ring (s : State) (r : Ring) : (s.handRing r).ring = r := by
  unfold State.handRing
  dsimp only
  split <;> simp

theorem State.queueResponse_lawfulRing (s : State) (h : s.ring.lawful) : s.queueResponse.ring.lawful :=
  s.queueResponse_induction (P := fun u => u.ring.lawful) h (fun _ _ hu => hu) (fun _ _ _ hu => hu) fun u scope _ => by
    rw [u.partReset_ring]
    exact u.ring.afterReset_lawful scope

theorem eventOf_lawfulRing (i : Instr) (s : State) (h : s.ring.lawful) : (eventOf i s).ring.lawful := by
  have hkept {t : State} (ht : t.ring = s.ring) : t.ring.lawful := ht ▸ h
  cases i with
  | powerOnReset => exact Ring.powerOn.afterReset_lawful .full
  | resetInputAsserted => exact Ring.powerOn.afterReset_lawful .full
  | airClockAdvance => exact h
  | ringEndTimerExpiry =>
    dsimp only [eventOf]
    unfold State.ringEndExpired
    split
    case isTrue hreached =>
      rw [s.handRing_ring]
      exact s.ring.advance_lawful _ (Bool.and_eq_true _ _ ▸ hreached).1
    case isFalse => exact h
  | ringLoadTimerExpiry j =>
    dsimp only [eventOf]
    unfold State.ringLoadExpired
    split
    · exact s.ring.setEntry_lawful j _ h rfl rfl
    · exact h
  | responseQueued => exact s.queueResponse_lawfulRing h
  | statusFrameSent =>
    exact s.statusSent_induction (P := fun u => u.ring.lawful) h h (fun hu => State.queueResponse_lawfulRing _ hu)
      fun hu => by simpa using hu
  | _ => exact hkept (by simp [eventOf])

/-- An accepted LOAD_RESERVATIONS does not reach a RUNNING ring's current entry (R139). -/
theorem State.loadReservations_lawfulRing (s : State) (target : Byte) (data : List Byte) (i : Fin 32)
    (hi : ringTarget target = some i) (haccepted : refusalOf (.loadReservations target data) s = none) (h : s.ring.lawful) :
    (s.ring.writeFrom s.now i (readRingEntries data)).lawful := by
  simp only [refusalOf, refuseIf, hi] at haccepted
  split_ifs at haccepted with htarget hbusy hbad
  simp only [State.loadReachesCurrent, hi, Bool.and_eq_true, not_and, Bool.not_eq_true] at hbusy
  have hshort : data.length ≤ 256 := by
    simp only [badReservations, Bool.or_eq_true, decide_eq_true_eq, not_or] at hbad
    omega
  refine s.ring.writeFrom_lawful s.now i _ (by rw [readRingEntries_length]; omega) h fun hrun => ?_
  rw [readRingEntries_length]
  exact hbusy hrun

theorem actOf_lawfulRing (i : Instr) (s : State) (haccepted : refusalOf i s = none) (h : s.ring.lawful) :
    (actOf i s).1.ring.lawful := by
  have hkept {t : State} (ht : t.ring = s.ring) : t.ring.lawful := ht ▸ h
  have hqueues (qs : List (Fin 16)) (f : State → Fin 16 → State) (hf : ∀ u q, (f u q).ring = u.ring) :
      (s.forQueues qs f).ring.lawful := hkept (s.forQueues_keeps State.ring qs f hf)
  cases i with
  | pauseQueue target _ => exact hqueues _ _ (by simp)
  | resumeQueue target _ => exact hqueues _ _ (by simp)
  | drainQueue target _ => exact hqueues _ _ (by simp)
  | clearQueueFlags target _ => exact hqueues _ _ (by simp)
  | startRing target _ =>
    simp only [actOf]
    split
    · rw [State.handRing_ring]
      exact s.ring.start_lawful _ _
    · exact h
  | stopRing target _ =>
    simp only [actOf]
    split
    · rw [State.handRing_ring]
      exact s.ring.stopWith_lawful _
    · exact h
  | loadReservations target data =>
    simp only [actOf]
    split
    case h_1 i hi => exact s.loadReservations_lawfulRing target data i hi haccepted h
    case h_2 => exact h
  | _ => (simp only [actOf]; repeat' split) <;> exact hkept (by simp)

/-- Settles O55: the walk ends idle or at a valid entry with its timer armed, and no command writes the current entry of a RUNNING ring. -/
theorem runningRingHasAValidEntry : Obligations.RunningRingHasAValidEntry := fun s t h hstep =>
  step_invariant (P := fun u => u.ring.lawful) (fun _ _ hu => hu) (fun _ _ hu => hu) eventOf_lawfulRing actOf_lawfulRing s t hstep h

/-! ### The walk as an event (R141, R142) -/

/-- The end of the current reservation, once its instant is reached. -/
theorem exec_ringEnd (s : State) (a : Instant) (hrunning : s.inReset = false) (hring : s.ring.running = true)
    (htimer : s.ring.endTimer = some a) (hreached : atOrBefore a s.clock.now = true) :
    exec .ringEndTimerExpiry s = .next (s.handRing (s.ring.advance s.now)) := by
  rw [exec_event _ s hrunning rfl]
  simp [eventOf, State.ringEndExpired, hring, htimer, reached, hreached]

/-- A walk that stops sets RING_STOPPED (R142). -/
theorem State.handRing_stopped (s : State) (r : Ring) (h : r.running = false) : (s.handRing r).flag .ringStopped = true := by
  simp [State.handRing, h]

/-- The walk of an entry that is not the last, from the entry at the next index on. -/
theorem Ring.advance_not_last (now : Instant) (r : Ring) (h : (r.entry r.current).last = false) :
    r.advance now = Ring.settle now 32 { r.consume with current := r.nextIndex } := by
  simp [Ring.advance, h]

/-- Settles O38: the walk's steps, an entry passed on the way being the same walk from that entry on. -/
theorem ringWalkConsumesAndAdvances : Obligations.RingWalkConsumesAndAdvances := by
  intro s a hrunning hring htimer hreached e consumed j
  have hnext (hlast : e.last = false) : s.ring.advance s.now = Ring.settle s.now 32 { consumed with current := j } :=
    s.ring.advance_not_last s.now hlast
  refine ⟨_, exec_ringEnd s a hrunning hring htimer hreached, fun hlast => ?last, fun hlast hinvalid => ?invalid,
    fun hlast hvalid hfresh hahead => ?waits, fun hlast hvalid hpassed => ?passed, ?handed⟩
  case last =>
    have hadvance : s.ring.advance s.now = s.ring.consume.stopWith .last := if_pos hlast
    exact ⟨(s.handRing_ring _).trans hadvance, s.handRing_stopped _ (hadvance ▸ rfl)⟩
  case invalid =>
    have hadvance := (hnext hlast).trans (Ring.settle_invalid s.now 31 { consumed with current := j } hinvalid)
    exact ⟨(s.handRing_ring _).trans hadvance, s.handRing_stopped _ (hadvance ▸ rfl)⟩
  case waits =>
    have hstill : (consumed.entry j).passed s.now = false := by simp [RingEntry.passed, hfresh, hahead]
    exact (s.handRing_ring _).trans ((hnext hlast).trans (Ring.settle_waits s.now 31 { consumed with current := j } hvalid hstill))
  case passed =>
    have hpast : (consumed.entry j).passed s.now = true := by simpa [RingEntry.passed] using hpassed
    exact (s.handRing_ring _).trans ((hnext hlast).trans
      (Ring.settle_of_passed s.now 31 { consumed with current := j } hvalid hpast s.ring.consume_validSet_card (by decide)))
  case handed =>
    rw [s.handRing_ring]
    rfl

/-! ### The ring commands (R137 to R139) -/

section
variable (s : State) (l : ControlList) (i : Fin 32) (target : Byte) (data : List Byte)

/-- START_RING of an index while the ring is IDLE. -/
theorem exec_startRing_idle (h : s.executes l { code := 64, target, data := [] }) (hi : target.toNat = i.val)
    (hidle : s.ring.running = false) :
    exec (.startRing target []) s =
      .next ((s.handRing (s.ring.start s.now i)).answered l { code := 64, target, data := [] } .ok []) := by
  have htarget := (ringTarget_eq_some_iff target i).2 hi
  have hact : actOf (.startRing target []) s = (s.handRing (s.ring.start s.now i), []) := by simp [actOf, htarget]
  rw [exec_done _ s l _ h rfl rfl (by simp [refusalOf, refuseIf, htarget, hidle]) (Nat.zero_le _) (by simp [hact]), hact]

/-- START_RING while the ring runs is BUSY. -/
theorem exec_startRing_busy (h : s.executes l { code := 64, target, data := [] }) (hi : target.toNat = i.val)
    (hring : s.ring.running = true) :
    exec (.startRing target []) s = .next (s.answered l { code := 64, target, data := [] } .busy []) :=
  exec_refused _ s l _ .busy h rfl rfl (by simp [refusalOf, refuseIf, (ringTarget_eq_some_iff target i).2 hi, hring])

/-- STOP_RING stops a RUNNING ring. -/
theorem exec_stopRing_running (h : s.executes l { code := 65, target, data := [] }) (hring : s.ring.running = true) :
    exec (.stopRing target []) s =
      .next ((s.handRing (s.ring.stopWith .command)).answered l { code := 65, target, data := [] } .ok []) := by
  have hact : actOf (.stopRing target []) s = (s.handRing (s.ring.stopWith .command), []) := by simp [actOf, hring]
  rw [exec_done _ s l _ h rfl rfl (by simp [refusalOf, refuseIf]) (Nat.zero_le _) (by simp [hact]), hact]

theorem exec_stopRing_idle (h : s.executes l { code := 65, target, data := [] }) (hidle : s.ring.running = false) :
    exec (.stopRing target []) s = .next (s.answered l { code := 65, target, data := [] } .ok []) := by
  have hact : actOf (.stopRing target []) s = (s, []) := by simp [actOf, hidle]
  rw [exec_done _ s l _ h rfl rfl (by simp [refusalOf, refuseIf]) (Nat.zero_le _) (by simp [hact]), hact]

/-- What a LOAD_RESERVATIONS meets at an index of the ring. -/
theorem refusalOf_loadReservations (hi : target.toNat = i.val) :
    refusalOf (.loadReservations target data) s =
      if s.ring.running = true ∧ (s.ring.current - i).val < data.length / 8 then some .busy
      else if badReservations s.now data then some .badValue else none := by
  simp [refusalOf, refuseIf, State.loadReachesCurrent, (ringTarget_eq_some_iff target i).2 hi, reachesIndex]

/-- An entry of a list out of its range. -/
theorem badReservations_of_entry (now : Instant) (k : Nat) (hk : k < data.length / 8)
    (hbad : ringEntryAccepted now (readRingEntry ((data.drop (8 * k)).take 8)) = false) : badReservations now data = true := by
  have hall : (readRingEntries data).all (ringEntryAccepted now) = false := by
    rw [List.all_eq_false]
    exact ⟨_, List.mem_map.2 ⟨k, by simpa using hk, rfl⟩, by simp [hbad]⟩
  simp [badReservations, hall]

/-- A list of whole entries within their ranges. -/
theorem badReservations_eq_false (now : Instant) (n : Nat) (hlen : data.length = 8 * n) (hmin : 1 ≤ n) (hmax : n ≤ 32)
    (hgood : ∀ k, k < n → ringEntryAccepted now (readRingEntry ((data.drop (8 * k)).take 8)) = true) :
    badReservations now data = false := by
  have hall : (readRingEntries data).all (ringEntryAccepted now) = true := by
    simp only [readRingEntries, List.all_map, List.all_eq_true, List.mem_range'_1, Function.comp]
    exact fun k hk => hgood k (by omega)
  have hlength : ¬ (data.length = 0 ∨ data.length % 8 ≠ 0 ∨ 256 < data.length) := by omega
  simp only [badReservations, hall, decide_eq_false hlength]
  rfl

/-- What an accepted LOAD_RESERVATIONS writes. -/
theorem Ring.writeFrom_readRingEntries (now : Instant) (n : Nat) (r : Ring) (hlen : data.length = 8 * n) (hmax : n ≤ 32) :
    r.writeFrom now i (readRingEntries data) =
      { r with
        entries := Vector.ofFn fun j : Fin 32 =>
          if (j - i).val < n then
            let e := readRingEntry ((data.drop (8 * (j - i).val)).take 8)
            { e with loadTimer := if e.valid then some (plus now 1073741824) else none, stale := false }
          else r.entry j } := by
  have hcount : (readRingEntries data).length = n := by rw [readRingEntries_length]; omega
  rw [r.writeFrom_eq now i _ (by omega)]
  refine congrArg (fun f => ({ r with entries := Vector.ofFn f } : Ring)) (funext fun j => ?_)
  by_cases hj : (j - i).val < n
  case pos =>
    rw [dif_pos (by omega), if_pos hj]
    simp [readRingEntries, RingEntry.loaded, Config.staleAge]
  case neg => rw [dif_neg (by omega), if_neg hj]

end

/-- Settles O39: each command's refusals in their order, and what each writes. -/
theorem ringCommandsStartStopAndLoad : Obligations.RingCommandsStartStopAndLoad := by
  refine ⟨fun s l target data hbad => ⟨fun h => ?startTarget, fun h => ?loadTarget⟩,
    fun s l target h => ⟨exec_stopRing_running s l target h, exec_stopRing_idle s l target h⟩,
    fun s l i target data hi => ⟨fun h => ⟨exec_startRing_busy s l i target h hi, fun hidle hinvalid => ?invalid,
      fun hidle hvalid hfresh hahead => ?waits, fun hidle hvalid hpassed => ?passed⟩,
      fun h => ⟨fun hring hreach => ?busy, fun hreach hlen => ?length, fun hreach hentry => ?range, fun n hlen hmin hmax hgood hreach => ?load⟩⟩⟩
  case startTarget =>
    exact exec_refused _ s l _ .badTarget h rfl rfl (by simp [refusalOf, refuseIf, (ringTarget_eq_none_iff target).2 hbad])
  case loadTarget =>
    exact exec_refused _ s l _ .badTarget h rfl rfl (by simp [refusalOf, refuseIf, (ringTarget_eq_none_iff target).2 hbad])
  case invalid =>
    have hstart := Ring.settle_invalid s.now 32 { s.ring with startIndex := i, current := i, running := true } hinvalid
    rw [exec_startRing_idle s l i target h hi hidle, Ring.start, hstart]
    simp [State.handRing, Ring.stopWith, State.setFlagIf, hidle]
  case waits =>
    have hstill : (s.ring.entry i).passed s.now = false := by simp [RingEntry.passed, hfresh, hahead]
    have hstart := Ring.settle_waits s.now 32 { s.ring with startIndex := i, current := i, running := true } hvalid hstill
    rw [exec_startRing_idle s l i target h hi hidle, Ring.start, hstart]
    rfl
  case passed =>
    intro ring u
    have hpast : (s.ring.entry i).passed s.now = true := by simpa [RingEntry.passed] using hpassed
    have hstart := Ring.settle_of_passed s.now 32 { s.ring with startIndex := i, current := i, running := true } hvalid hpast
      (Finset.card_le_univ _) (by decide)
    rw [exec_startRing_idle s l i target h hi hidle, Ring.start, hstart]
    rfl
  case busy =>
    exact exec_refused _ s l _ .busy h rfl rfl (by simp [refusalOf_loadReservations s i target data hi, hring, hreach])
  case length =>
    have hbad : badReservations s.now data = true := by simp only [badReservations, decide_eq_true hlen, Bool.true_or]
    exact exec_refused _ s l _ .badValue h rfl rfl (by rw [refusalOf_loadReservations s i target data hi, if_neg hreach, if_pos hbad])
  case range =>
    obtain ⟨k, hk, hout⟩ := hentry
    have hbad : badReservations s.now data = true := by
      refine badReservations_of_entry data s.now k hk (Bool.eq_false_iff.2 fun hgood => ?_)
      simp only [ringEntryAccepted, Bool.and_eq_true, Bool.or_eq_true, decide_eq_true_eq, Config.staleAge] at hgood
      obtain ⟨⟨hmin, hmax⟩, hstart⟩ := hgood
      rcases hout with hzero | hlong | ⟨hvalid, hfar⟩
      · omega
      · omega
      · rcases hstart with hinvalid | hnear
        · simp [hvalid] at hinvalid
        · exact absurd hfar (Nat.not_le.2 hnear)
    exact exec_refused _ s l _ .badValue h rfl rfl (by rw [refusalOf_loadReservations s i target data hi, if_neg hreach, if_pos hbad])
  case load =>
    have htarget := (ringTarget_eq_some_iff target i).2 hi
    have hact : actOf (.loadReservations target data) s = ({ s with ring := s.ring.writeFrom s.now i (readRingEntries data) }, []) := by
      simp [actOf, htarget]
    have hwhole : data.length / 8 = n := by omega
    have haccepted : refusalOf (.loadReservations target data) s = none := by
      rw [refusalOf_loadReservations s i target data hi, if_neg (hwhole ▸ hreach),
        badReservations_eq_false data s.now n hlen hmin hmax hgood, if_neg Bool.false_ne_true]
    rw [exec_done _ s l _ h rfl rfl haccepted (Nat.zero_le _) (by rw [hact]), hact,
      Ring.writeFrom_readRingEntries i data s.now n s.ring hlen hmax]

end Sys2Proof.Machine

/-! PROOFS. The queues under the events that only judge their heads: what a search, an addition and a re-evaluation leave of queues and table,
and the radio's law (R14 to R16, R49, R56). -/

namespace Sys2Proof.Machine

/-! ### An operation on each of some queues -/

theorem mem_allQueues (q : Fin 16) : q ∈ allQueues := by
  revert q
  decide

theorem allQueues_nodup : allQueues.Nodup := by decide

section
variable (f : State → Fin 16 → State) (hother : ∀ u q p, q ≠ p → (f u q).queue p = u.queue p)
include hother

/-- A queue that is not among those operated on stands. -/
theorem State.queue_forQueues_of_notMem (s : State) (qs : List (Fin 16)) (q : Fin 16) (h : q ∉ qs) :
    (s.forQueues qs f).queue q = s.queue q := by
  induction qs generalizing s with
  | nil => rfl
  | cons p rest ih =>
    obtain ⟨hp, hrest⟩ := List.ne_and_not_mem_of_not_mem_cons h
    exact (ih (f s p) hrest).trans (hother s p q (Ne.symm hp))

/-- A queue among those operated on, each once, is as the operation leaves it in some state that the operations before it have reached. -/
theorem State.queue_forQueues_of_mem {I : State → Prop} (hkeeps : ∀ u p, I u → I (f u p)) (s : State) (hs : I s) (qs : List (Fin 16))
    (hnodup : qs.Nodup) (q : Fin 16) (h : q ∈ qs) :
    ∃ u, I u ∧ u.queue q = s.queue q ∧ (s.forQueues qs f).queue q = (f u q).queue q := by
  induction qs generalizing s with
  | nil => exact absurd h List.not_mem_nil
  | cons p rest ih =>
    obtain ⟨hp, hrest⟩ := List.nodup_cons.1 hnodup
    rcases List.mem_cons.1 h with rfl | hmem
    · exact ⟨s, hs, rfl, State.queue_forQueues_of_notMem f hother (f s q) rest q hp⟩
    · have hne : p ≠ q := fun e => hp (e ▸ hmem)
      obtain ⟨u, hu, hsame, hresult⟩ := ih (f s p) (hkeeps s p hs) hrest hmem
      exact ⟨u, hu, hsame.trans (hother s p q hne), hresult⟩

end

/-! ### Requests (R49) -/

/-- What a head is judged by: its queue's state, configuration and head, and the window, the gate, the radio, the clock and the ring. -/
theorem State.offer_congr {s t : State} (q : Fin 16) (hhead : (t.queue q).head = (s.queue q).head)
    (hstate : (t.queue q).state = (s.queue q).state) (hconfig : (t.queue q).config = (s.queue q).config)
    (hgate : t.gate = s.gate) (hradio : t.south.radio = s.south.radio) (hwindow : t.window = s.window) (hclock : t.clock = s.clock)
    (hring : t.ring = s.ring) : t.offer q = s.offer q := by
  have hreserved (u : Instant) : t.reserved u = s.reserved u := by simp [State.reserved, hring]
  have hstart : t.releaseStart = s.releaseStart := by simp only [State.releaseStart, State.now, hgate, hclock]
  have hungated (d : Descriptor) : t.judgeUngated d = s.judgeUngated d := by simp [State.judgeUngated, hreserved, hstart]
  have hlength : t.windowLength = s.windowLength := by simp [State.windowLength, hwindow, hstart]
  have hjudge (d : Descriptor) (r : Rate) : t.judge (t.queue q) d r = s.judge (s.queue q) d r := by
    simp only [State.judge, judgeGated, hwindow, hungated, hconfig, hlength]
  simp only [State.offer, State.rate, hhead, hstate, hgate, hradio, hjudge]

/-- Only on a channel is a head offered. -/
theorem State.isOn_of_offer (s : State) (q : Fin 16) (h : (s.offer q).isSome = true) : s.south.radio.isOn = true := by
  unfold State.offer at h
  dsimp only at h
  split at h
  · simp at h
  · split at h
    · simp at h
    · split at h
      case isTrue hall => simp_all
      case isFalse => simp at h

/-- Each queue's request is its own head's judgement, whatever the order of the re-evaluations (R60). -/
theorem State.queue_reevaluateAll (s : State) (q : Fin 16) :
    s.reevaluateAll.queue q = { s.queue q with request := (s.offer q).isSome } := by
  obtain ⟨u, ⟨hgate, hsouth, hwindow, hclock, hring⟩, hqueue, hresult⟩ :=
    State.queue_forQueues_of_mem State.reevaluate (fun u q p => u.queue_reevaluate_other q p)
      (I := fun u => u.gate = s.gate ∧ u.south = s.south ∧ u.window = s.window ∧ u.clock = s.clock ∧ u.ring = s.ring)
      (fun u p h => by simpa using h) s ⟨rfl, rfl, rfl, rfl, rfl⟩ allQueues allQueues_nodup q (mem_allQueues q)
  have hoffer : u.offer q = s.offer q :=
    State.offer_congr q (by rw [hqueue]) (by rw [hqueue]) (by rw [hqueue]) hgate (by rw [hsouth]) hwindow hclock hring
  unfold State.reevaluateAll
  rw [hresult, State.queue_reevaluate_self, hqueue, hoffer]

/-- A window-opened event marks each OPEN queue's head (R48). -/
theorem State.queue_windowOpened (s : State) (q : Fin 16) : s.windowOpened.queue q = (s.queue q).markWaited := by
  obtain ⟨u, -, hqueue, hresult⟩ :=
    State.queue_forQueues_of_mem (fun s q => s.modQueue q Queue.markWaited) (fun u q p => u.queue_modQueue_other q p _) (I := fun _ => True)
      (fun _ _ _ => trivial) s trivial allQueues allQueues_nodup q (mem_allQueues q)
  unfold State.windowOpened
  rw [hresult, State.queue_modQueue_self, hqueue]

/-! ### What judging leaves alone: queues but for requests and waited marks, releases but for their cancellation and staleness -/

/-- A descriptor without its waited mark. -/
def Descriptor.bare (d : Descriptor) : Descriptor := { d with waited := false }

/-- A queue without its request, its error flags and its descriptors' waited marks. -/
def Queue.bare (x : Queue) : Queue :=
  { x with
    request := false, refusedFlag := false, forcedFlag := false, droppedFlag := false
    descriptors := x.descriptors.map Descriptor.bare }

/-- An outstanding release without its cancelled-sent flag and its stale mark. -/
def Outstanding.bare (e : Outstanding) : Outstanding := { e with cancelledSent := false, stale := false }

/-- What the queues and the outstanding table hold, apart from the marks that judging sets, and the stage of the north input. -/
def State.held (s : State) : Vector Queue 16 × List Outstanding × NorthInput :=
  (s.queues.map Queue.bare, s.gate.table.map Outstanding.bare, s.north.input)

theorem State.held_eq {s t : State} (hqueues : ∀ q, (t.queue q).bare = (s.queue q).bare)
    (htable : t.gate.table.map Outstanding.bare = s.gate.table.map Outstanding.bare) (hinput : t.north.input = s.north.input) :
    t.held = s.held := by
  refine Prod.ext (Vector.ext fun i hi => ?_) (Prod.ext htable hinput)
  simpa [State.held, State.queue] using hqueues ⟨i, hi⟩

theorem State.bare_queue_of_held {s t : State} (h : t.held = s.held) (q : Fin 16) : (t.queue q).bare = (s.queue q).bare := by
  have hqueues : t.queues.map Queue.bare = s.queues.map Queue.bare := congrArg Prod.fst h
  simpa [State.queue] using congrArg (fun v => v[q]) hqueues

theorem State.table_of_held {s t : State} (h : t.held = s.held) :
    t.gate.table.map Outstanding.bare = s.gate.table.map Outstanding.bare := congrArg (fun p => p.2.1) h

theorem State.input_of_held {s t : State} (h : t.held = s.held) : t.north.input = s.north.input := congrArg (fun p => p.2.2) h

/-- An operation that leaves queues, gate and north input leaves what they hold. -/
theorem State.held_of_eq {s t : State} (hqueues : t.queues = s.queues) (hgate : t.gate = s.gate)
    (hinput : t.north.input = s.north.input) : t.held = s.held := by
  simp [State.held, hqueues, hgate, hinput]

@[simp] theorem State.queueNotice_input (s : State) : s.queueNotice.north.input = s.north.input := by
  unfold State.queueNotice
  split <;> rfl

@[simp] theorem State.setFlag_input (s : State) (f : EventFlag) : (s.setFlag f).north.input = s.north.input := by
  unfold State.setFlag
  (repeat' split) <;> simp

@[simp] theorem State.setFlagIf_input (s : State) (c : Bool) (f : EventFlag) : (s.setFlagIf c f).north.input = s.north.input := by
  unfold State.setFlagIf
  split <;> simp

@[simp] theorem State.setFlags_input (s : State) (fs : List EventFlag) : (s.setFlags fs).north.input = s.north.input :=
  fs.foldlRecOn (motive := fun u : State => u.north.input = s.north.input) _ rfl fun u hu f _ => (u.setFlag_input f).trans hu

@[simp] theorem Queue.bare_withRequest (x : Queue) (b : Bool) : ({ x with request := b } : Queue).bare = x.bare := rfl

@[simp] theorem Queue.bare_markWaited (x : Queue) : x.markWaited.bare = x.bare := by
  unfold Queue.markWaited Queue.modHead
  (repeat' split)
  · rfl
  · rename_i d rest h
    simp [Queue.bare, Descriptor.bare, h]
  · rfl

@[simp] theorem State.setFlag_held (s : State) (f : EventFlag) : (s.setFlag f).held = s.held := State.held_of_eq (by simp) (by simp) (by simp)

@[simp] theorem State.setFlagIf_held (s : State) (c : Bool) (f : EventFlag) : (s.setFlagIf c f).held = s.held :=
  State.held_of_eq (by simp) (by simp) (by simp)

@[simp] theorem State.setFlags_held (s : State) (fs : List EventFlag) : (s.setFlags fs).held = s.held :=
  State.held_of_eq (by simp) (by simp) (by simp)

@[simp] theorem State.reevaluate_held (s : State) (q : Fin 16) : (s.reevaluate q).held = s.held := by
  refine State.held_eq (fun p => ?_) (by simp) (by simp)
  by_cases hp : q = p
  case pos => subst hp; simp
  case neg => rw [s.queue_reevaluate_other q p hp]

@[simp] theorem State.reevaluateAll_held (s : State) : s.reevaluateAll.held = s.held :=
  State.held_eq (fun q => by simp [s.queue_reevaluateAll q]) (by simp) (by simp)

@[simp] theorem State.windowOpened_held (s : State) : s.windowOpened.held = s.held :=
  State.held_eq (fun q => by simp [s.queue_windowOpened q]) (by simp) (by simp)

@[simp] theorem State.held_withWindow (s : State) (w : Window) : ({ s with window := w } : State).held = s.held := rfl

@[simp] theorem State.search_held (s : State) (opened : Bool) : (s.search opened).held = s.held := by
  unfold State.search
  split
  case isTrue =>
    dsimp only
    split <;> simp
  case isFalse => simp

@[simp] theorem State.addBusy_held (s : State) (x : Addition) : (s.addBusy x).held = s.held := by
  refine State.held_eq (fun q => by simp [State.queue]) ?_ (by simp)
  unfold State.addBusy
  split
  · simp [Function.comp_def, Outstanding.bare]
  · rfl

@[simp] theorem State.addBusyAll_held (s : State) (xs : List Addition) : (s.addBusyAll xs).held = s.held :=
  xs.foldlRecOn (motive := fun u : State => u.held = s.held) _ rfl fun u hu x _ => (u.addBusy_held x).trans hu

@[simp] theorem Track.handOn_held (t : Track) : t.handOn.held = t.state.held := by
  unfold Track.handOn
  dsimp only
  split <;> simp

section
variable (s : State)

@[simp] theorem State.readBeacon_held (p : List Byte) : (s.readBeacon p).held = s.held := by
  unfold State.readBeacon
  split
  · split
    · rw [Track.handOn_held]; exact State.held_of_eq (by simp) (by simp) (by simp)
    · rfl
  · rfl

@[simp] theorem State.detectionReport_held (n : Nat) (r : EnergyReport) : (s.detectionReport n r).held = s.held := by
  unfold State.detectionReport
  dsimp only
  rw [Track.handOn_held]
  split <;> exact State.held_of_eq (by simp) (by simp) (by simp)

@[simp] theorem State.energyReport_held (r : EnergyReport) : (s.energyReport r).held = s.held := by
  unfold State.energyReport
  (repeat' split)
  · exact s.detectionReport_held _ r
  · rfl
  · rfl

@[simp] theorem State.ageCoverage_held : s.ageCoverage.held = s.held := by
  unfold State.ageCoverage
  rw [Track.handOn_held]
  exact State.held_of_eq (by simp) (by simp) (by simp)

@[simp] theorem State.handRing_held (r : Ring) : (s.handRing r).held = s.held := by
  unfold State.handRing
  dsimp only
  split
  · rw [State.setFlagIf_held, State.search_held, State.addBusy_held]; rfl
  · rw [State.setFlagIf_held, State.search_held]; rfl

@[simp] theorem State.changeRadio_held (r : Radio) (l : Option Nat) (o : Bool) : (s.changeRadio r l o).held = s.held := by
  unfold State.changeRadio
  dsimp only
  rw [State.setFlags_held, State.search_held, State.addBusyAll_held]
  exact State.held_of_eq (by simp) (by simp) (by simp)

@[simp] theorem State.applyRadio_held (r : RadioRecord) : (s.applyRadio r).held = s.held := by
  unfold State.applyRadio
  (repeat' split) <;> simp

@[simp] theorem State.refuse_held (h : LaneHeader) (r : DoneResult) (n : Nat) : (s.refuse h r n).held = s.held := by
  unfold State.refuse
  dsimp only
  split
  case h_1 q _ =>
    rw [State.setFlag_held]
    refine State.held_eq (fun p => ?_) (by simp) (by simp)
    by_cases hp : q = p
    case pos => subst hp; rw [State.queue_modQueue_self]; rfl
    case neg => rw [State.queue_modQueue_other _ q p _ hp]; rfl
  case h_2 => rw [State.setFlag_held]; rfl

@[simp] theorem State.clearQueueFlags_held (q : Fin 16) : (s.clearQueueFlags q).held = s.held := by
  refine State.held_eq (fun p => ?_) (by simp) (by simp)
  unfold State.clearQueueFlags
  by_cases hp : q = p
  case pos => subst hp; rw [State.queue_modQueue_self]; rfl
  case neg => rw [State.queue_modQueue_other _ q p _ hp]

@[simp] theorem State.writeRate_held (i : Fin 64) (r : Rate) : (s.writeRate i r).held = s.held := by
  unfold State.writeRate
  rw [State.reevaluateAll_held]
  rfl

@[simp] theorem State.takeSlot_held (i : Fin 16) : (s.takeSlot i).held = s.held := by
  unfold State.takeSlot
  split
  · rw [State.search_held]; rfl
  · rfl

@[simp] theorem State.releaseSlot_held (i : Fin 16) : (s.releaseSlot i).held = s.held := by
  unfold State.releaseSlot
  split
  · rw [State.search_held]; rfl
  · rfl

@[simp] theorem State.freeSource_held (i : Fin 16) : (s.freeSource i).held = s.held := by
  unfold State.freeSource
  split
  · rw [State.search_held]; exact State.held_of_eq (by simp) (by simp) (by simp)
  · rfl

@[simp] theorem State.writeSlot_held (i : Fin 16) (e : Source) : (s.writeSlot i e).held = s.held := by
  unfold State.writeSlot
  dsimp only
  rw [State.search_held, State.addBusy_held]
  rfl

@[simp] theorem State.passRxdata_input (f : LinkFrame) : (s.passRxdata f).north.input = s.north.input := by
  unfold State.passRxdata
  split <;> simp

@[simp] theorem State.rearmPacing_input : s.rearmPacing.north.input = s.north.input := by
  unfold State.rearmPacing
  split
  · dsimp only
    split <;> simp
  · rfl

@[simp] theorem State.pacingExpired_input : s.pacingExpired.north.input = s.north.input := by
  unfold State.pacingExpired
  split <;> simp

@[simp] theorem State.northGained_input : s.northGained.north.input = s.north.input := by
  unfold State.northGained
  (repeat' split) <;> rfl

@[simp] theorem State.beginNorth_input (item : NorthItem) : (s.beginNorth item).north.input = s.north.input := by
  unfold State.beginNorth
  split <;> rfl

@[simp] theorem State.chooseNorth_input : s.chooseNorth.north.input = s.north.input := by
  unfold State.chooseNorth
  (repeat' split) <;> simp

@[simp] theorem State.northChoice_input (ready : Bool) : (s.northChoice ready).north.input = s.north.input := by
  unfold State.northChoice
  dsimp only
  (repeat' split) <;> simp

@[simp] theorem State.txdoneSent_input : s.txdoneSent.north.input = s.north.input := by
  unfold State.txdoneSent
  split <;> rfl

@[simp] theorem State.rxdataSent_input : s.rxdataSent.north.input = s.north.input := by
  unfold State.rxdataSent
  split <;> rfl

@[simp] theorem State.rearmPacing_held : s.rearmPacing.held = s.held := State.held_of_eq (by simp) (by simp) (by simp)

@[simp] theorem State.applySettings_held (c : Settings) : (s.applySettings c).held = s.held := by
  unfold State.applySettings
  dsimp only
  rw [State.rearmPacing_held, State.setFlags_held, State.search_held, State.addBusy_held, State.addBusyAll_held]
  exact State.held_of_eq (by simp) (by simp) (by simp)

@[simp] theorem State.staleExpired_held (id : BitVec 8) : (s.staleExpired id).held = s.held := by
  refine State.held_eq (fun _ => rfl) ?_ rfl
  simp only [State.staleExpired, List.map_map]
  refine List.map_congr_left fun e _ => ?_
  simp only [Function.comp]
  split <;> rfl

@[simp] theorem State.committedExpired_held : s.committedExpired.held = s.held := by
  unfold State.committedExpired
  split <;> rfl

@[simp] theorem State.windowExpired_held : s.windowExpired.held = s.held := by
  unfold State.windowExpired
  split <;> simp

@[simp] theorem State.coverageExpired_held : s.coverageExpired.held = s.held := by
  unfold State.coverageExpired
  split <;> simp

@[simp] theorem State.checkExpired_held (i : Fin 16) : (s.checkExpired i).held = s.held := by
  unfold State.checkExpired
  split
  · rw [Track.handOn_held]; exact State.held_of_eq (by simp) (by simp) (by simp)
  · rfl

@[simp] theorem State.ringEndExpired_held : s.ringEndExpired.held = s.held := by
  unfold State.ringEndExpired
  split <;> simp

@[simp] theorem State.rxdataFrame_held (f : LinkFrame) : (s.rxdataFrame f).held = s.held := by
  refine s.southFrame_keeps State.held 5 f _ (by simp) ?_
  unfold State.takeRxdata
  rw [State.readBeacon_held]
  exact State.held_of_eq (by simp) (by simp) (by simp)

@[simp] theorem State.energyFrame_held (f : LinkFrame) : (s.energyFrame f).held = s.held := by
  refine s.southFrame_keeps State.held 6 f _ (by simp) ?_
  unfold State.takeEnergy
  split <;> simp

@[simp] theorem State.radioFrame_held (f : LinkFrame) : (s.radioFrame f).held = s.held := by
  refine s.southFrame_keeps State.held 8 f _ (by simp) ?_
  unfold State.takeRadio
  split <;> simp

end

/-- An event that takes in, releases, resolves, completes or ages descriptors. -/
def movesQueues : Instr → Bool
  | .powerOnReset | .resetInputAsserted | .dataFrame _ | .txstat _ | .releaseArbiterRun _ | .agingTimerExpiry _ | .southSyncLost
  | .responseQueued | .statusFrameSent => true
  | _ => false

/-- A command that moves a queue's state. -/
def commandsQueues : Instr → Bool
  | .openQueue _ _ | .pauseQueue _ _ | .resumeQueue _ _ | .drainQueue _ _ => true
  | _ => false

/-- An event that moves the north input without taking a DATA frame in. -/
def movesInput : Instr → Bool
  | .northSyncLost | .northLaneHeader _ | .dataSlotReserved | .controlFrame _ | .receivedFrameDiscarded _ _ => true
  | _ => false

/-- Every other event leaves what queues and outstanding table hold. -/
theorem eventOf_held (i : Instr) (s : State) (h : movesQueues i = false) (hinput : movesInput i = false) :
    (eventOf i s).held = s.held := by
  cases i with
  | powerOnReset => exact absurd h (by decide)
  | resetInputAsserted => exact absurd h (by decide)
  | dataFrame _ => exact Bool.noConfusion h
  | txstat _ => exact Bool.noConfusion h
  | releaseArbiterRun _ => exact Bool.noConfusion h
  | agingTimerExpiry _ => exact Bool.noConfusion h
  | southSyncLost => exact Bool.noConfusion h
  | responseQueued => exact Bool.noConfusion h
  | statusFrameSent => exact Bool.noConfusion h
  | northSyncLost => exact Bool.noConfusion hinput
  | northLaneHeader _ => exact Bool.noConfusion hinput
  | dataSlotReserved => exact Bool.noConfusion hinput
  | controlFrame _ => exact Bool.noConfusion hinput
  | receivedFrameDiscarded _ _ => exact Bool.noConfusion hinput
  | northSyncGained => exact State.held_of_eq (by simp [eventOf]) (by simp [eventOf]) s.northGained_input
  | northOutputChoice ready => exact State.held_of_eq (by simp [eventOf]) (by simp [eventOf]) (s.northChoice_input ready)
  | txdoneFrameSent => exact State.held_of_eq (by simp [eventOf]) (by simp [eventOf]) s.txdoneSent_input
  | rxdataFrameSent => exact State.held_of_eq (by simp [eventOf]) (by simp [eventOf]) s.rxdataSent_input
  | pacingTimerExpiry => exact State.held_of_eq (by simp [eventOf]) (by simp [eventOf]) s.pacingExpired_input
  | rxdataFrame f => exact s.rxdataFrame_held f
  | energyReport f => exact s.energyFrame_held f
  | radioRecord f => exact s.radioFrame_held f
  | windowTimerExpiry => exact s.windowExpired_held
  | committedUntilExpiry => exact s.committedExpired_held
  | outstandingStaleExpiry id => exact s.staleExpired_held id
  | coverageAgingExpiry => exact s.coverageExpired_held
  | checkTimerExpiry j => exact s.checkExpired_held j
  | ringEndTimerExpiry => exact s.ringEndExpired_held
  | airClockAdvance => rfl
  | _ => exact State.held_of_eq (by simp [eventOf]) (by simp [eventOf]) (by simp [eventOf])

theorem actOf_held (i : Instr) (s : State) (h : commandsQueues i = false) : (actOf i s).1.held = s.held := by
  cases i with
  | openQueue _ _ => exact Bool.noConfusion h
  | pauseQueue _ _ => exact Bool.noConfusion h
  | resumeQueue _ _ => exact Bool.noConfusion h
  | drainQueue _ _ => exact Bool.noConfusion h
  | clearQueueFlags target _ => exact s.forQueues_keeps State.held _ _ fun u q => u.clearQueueFlags_held q
  | loadReservations target data =>
    simp only [actOf]
    split
    · rfl
    · rfl
  | clearSurvey target _ => rfl
  | setEventEnables _ _ => rfl
  | clearEvents _ _ => rfl
  | resetPart _ _ =>
    simp only [actOf]
    split
    · exact State.held_of_eq (by simp) (by simp) (by simp)
    · rfl
  | _ => (simp only [actOf]; repeat' split) <;> simp

end Sys2Proof.Machine

namespace Sys2Proof.Machine

/-! ### The radio's law: its three parts -/

theorem Radio.isOn_iff (r : Radio) : r.isOn = true ↔ ∃ n, r = .onChannel n := by
  cases r <;> simp [Radio.isOn]

/-- DOWN and an empty south output while the link is UNSYNCED (R14 to R16). -/
def SouthLink.downWhenUnsynced (l : SouthLink) : Prop :=
  l.synced = false → l.radio = .down ∧ l.txdata = [] ∧ l.cancels = [] ∧ l.sending = none

theorem SouthLink.synced_of_isOn (l : SouthLink) (h : l.downWhenUnsynced) (hon : l.radio.isOn = true) : l.synced = true := by
  cases hs : l.synced with
  | true => rfl
  | false =>
    rw [(h hs).1] at hon
    exact absurd hon (by decide)

theorem SouthLink.downWhenUnsynced_of_synced (l : SouthLink) (h : l.synced = true) : l.downWhenUnsynced :=
  fun hs => absurd (h.symm.trans hs) (by decide)

/-- The law reads the south link, the window's status and the requests. -/
theorem State.radioLawful_iff (s : State) :
    s.radioLawful ↔ s.south.downWhenUnsynced ∧ (s.south.radio.isOn = true ↔ s.window.status ≠ .closedRadio) ∧
      ∀ q, (s.queue q).request = true → s.south.radio.isOn = true := by
  unfold State.radioLawful
  rw [Radio.isOn_iff]
  refine and_congr_right fun _ => and_congr_right fun _ => ⟨fun h q hq => ?_, fun h hoff q => ?_⟩
  · by_contra hoff
    exact absurd hq (by simp [h (fun n hn => hoff ⟨n, hn⟩) q])
  · by_contra hq
    obtain ⟨n, hn⟩ := h q (by simpa using hq)
    exact hoff n hn

/-- It is kept by what leaves south link and window and adds no request. -/
theorem State.radioLawful_of_eq {s t : State} (h : s.radioLawful) (hsouth : t.south = s.south) (hwindow : t.window = s.window)
    (hqueues : ∀ q, (t.queue q).request = true → (s.queue q).request = true) : t.radioLawful := by
  obtain ⟨hdown, hstatus, hrequests⟩ := (s.radioLawful_iff).1 h
  refine (t.radioLawful_iff).2 ⟨hsouth ▸ hdown, by rw [hsouth, hwindow]; exact hstatus, fun q hq => ?_⟩
  rw [hsouth]
  exact hrequests q (hqueues q hq)

theorem State.radioLawful_of_same {s t : State} (h : s.radioLawful) (hsouth : t.south = s.south) (hwindow : t.window = s.window)
    (hqueues : t.queues = s.queues) : t.radioLawful :=
  State.radioLawful_of_eq h hsouth hwindow fun q hq => by simpa [State.queue, hqueues] using hq

/-! ### Searches and additions -/

theorem State.searchResult_status (s : State) : s.searchResult.status ≠ .closedRadio := by
  unfold State.searchResult
  dsimp only
  (repeat' split) <;> simp

/-- A search gives a result on a channel and CLOSED_RADIO elsewhere (R56, R57). -/
theorem State.search_window (s : State) (opened : Bool) :
    (s.search opened).window = if s.south.radio.isOn then s.searchResult else Window.powerOn := by
  unfold State.search
  split
  case isTrue =>
    dsimp only
    split <;> simp
  case isFalse => simp

/-- After a search a queue requests only with a head that is offered (R60). -/
theorem State.isOn_of_request_search (s : State) (opened : Bool) (q : Fin 16) (h : ((s.search opened).queue q).request = true) :
    s.south.radio.isOn = true := by
  unfold State.search at h
  split at h
  case isTrue hon => exact hon
  case isFalse =>
    rw [State.queue_reevaluateAll] at h
    exact State.isOn_of_offer { s with window := Window.powerOn } q h

/-- A search sets up the law from the south link alone. -/
theorem State.search_radioLawful (s : State) (opened : Bool) (h : s.south.downWhenUnsynced) : (s.search opened).radioLawful := by
  refine (State.radioLawful_iff _).2 ⟨by simpa using h, ?_, fun q hq => ?_⟩
  · have hsouth : (s.search opened).south = s.south := by simp
    rw [s.search_window opened, hsouth]
    cases hon : s.south.radio.isOn with
    | true => simp [s.searchResult_status]
    | false => simp [Window.powerOn]
  · have hsouth : (s.search opened).south = s.south := by simp
    rw [hsouth]
    exact s.isOn_of_request_search opened q hq

theorem State.reevaluate_radioLawful (s : State) (q : Fin 16) (h : s.radioLawful) : (s.reevaluate q).radioLawful := by
  obtain ⟨hdown, hstatus, hrequests⟩ := (s.radioLawful_iff).1 h
  refine (State.radioLawful_iff _).2 ⟨by simpa using hdown, by simpa using hstatus, fun p hp => ?_⟩
  have hsouth : (s.reevaluate q).south = s.south := by simp
  rw [hsouth]
  by_cases hq : q = p
  case pos =>
    subst hq
    rw [State.queue_reevaluate_self] at hp
    exact s.isOn_of_offer q hp
  case neg => exact hrequests p (by simpa [s.queue_reevaluate_other q p hq] using hp)

/-- An addition, tested on a channel only, leaves the south link's state and adds CANCEL frames while it is SYNCED (R65, R95). -/
theorem State.addBusy_radioLawful (s : State) (x : Addition) (h : s.radioLawful) : (s.addBusy x).radioLawful := by
  unfold State.addBusy
  split
  case isTrue hon =>
    obtain ⟨hdown, hstatus, hrequests⟩ := (s.radioLawful_iff).1 h
    exact (State.radioLawful_iff _).2
      ⟨SouthLink.downWhenUnsynced_of_synced _ (s.south.synced_of_isOn hdown hon), hstatus, hrequests⟩
  case isFalse => exact h

theorem State.addBusy_downWhenUnsynced (s : State) (x : Addition) (h : s.south.downWhenUnsynced) :
    (s.addBusy x).south.downWhenUnsynced := by
  unfold State.addBusy
  split
  case isTrue hon => exact SouthLink.downWhenUnsynced_of_synced _ (s.south.synced_of_isOn h hon)
  case isFalse => exact h

theorem State.addBusyAll_radioLawful (s : State) (xs : List Addition) (h : s.radioLawful) : (s.addBusyAll xs).radioLawful :=
  xs.foldlRecOn (motive := fun u : State => u.radioLawful) _ h fun u hu x _ => u.addBusy_radioLawful x hu

theorem State.addBusyAll_downWhenUnsynced (s : State) (xs : List Addition) (h : s.south.downWhenUnsynced) :
    (s.addBusyAll xs).south.downWhenUnsynced :=
  xs.foldlRecOn (motive := fun u : State => u.south.downWhenUnsynced) _ h fun u hu x _ => u.addBusy_downWhenUnsynced x hu

section
variable (s : State) (h : s.radioLawful)
include h

theorem State.downWhenUnsynced_of_radioLawful : s.south.downWhenUnsynced := ((s.radioLawful_iff).1 h).1

theorem State.setFlag_radioLawful (f : EventFlag) : (s.setFlag f).radioLawful :=
  State.radioLawful_of_same h (by simp) (by simp) (by simp)

theorem State.setFlagIf_radioLawful (c : Bool) (f : EventFlag) : (s.setFlagIf c f).radioLawful :=
  State.radioLawful_of_same h (by simp) (by simp) (by simp)

theorem State.setFlags_radioLawful (fs : List EventFlag) : (s.setFlags fs).radioLawful :=
  State.radioLawful_of_same h (by simp) (by simp) (by simp)

theorem State.modQueue_radioLawful (q : Fin 16) (f : Queue → Queue) (hf : ∀ x : Queue, (f x).request = true → x.request = true) :
    (s.modQueue q f).radioLawful := by
  refine State.radioLawful_of_eq h (by simp) (by simp) fun p hp => ?_
  by_cases hq : q = p
  case pos => subst hq; exact hf _ (by simpa using hp)
  case neg => simpa [s.queue_modQueue_other q p f hq] using hp

end

theorem Track.handOn_radioLawful (t : Track) (h : t.state.radioLawful) : t.handOn.radioLawful := by
  unfold Track.handOn
  dsimp only
  have hadded := t.state.addBusyAll_radioLawful t.additions h
  refine State.setFlags_radioLawful _ ?_ _
  split
  · exact State.search_radioLawful _ _ (State.downWhenUnsynced_of_radioLawful _ hadded)
  · exact hadded

/-- What the tracker hands on after work of its own, which touches neither link nor window nor queues. -/
theorem Track.handOn_radioLawful_of_same (s : State) (t : Track) (h : s.radioLawful) (hsouth : t.state.south = s.south)
    (hwindow : t.state.window = s.window) (hqueues : t.state.queues = s.queues) : t.handOn.radioLawful :=
  t.handOn_radioLawful (State.radioLawful_of_same h hsouth hwindow hqueues)

/-! ### Completion and results -/

@[simp] theorem Queue.modHead_request (x : Queue) (f : Descriptor → Descriptor) : (x.modHead f).request = x.request := by
  unfold Queue.modHead
  split <;> rfl

section
variable (s : State) (h : s.radioLawful)
include h

theorem State.finish_radioLawful (q : Fin 16) (d : Descriptor) : (s.finish q d).radioLawful :=
  State.radioLawful_of_same h rfl rfl rfl

theorem State.finishHead_radioLawful (q : Fin 16) : (s.finishHead q).radioLawful := by
  unfold State.finishHead
  split
  · exact h
  · exact State.modQueue_radioLawful _ (s.finish_radioLawful h q _) q _ fun _ hx => hx

theorem State.closeDrained_radioLawful (q : Fin 16) : (s.closeDrained q).radioLawful :=
  State.setFlag_radioLawful _
    (s.modQueue_radioLawful h q (fun x => { x with state := .closed, aging := none }) fun _ hx => hx) _

theorem State.unlist_radioLawful (e : Outstanding) : (s.unlist e).radioLawful := by
  obtain ⟨hdown, hstatus, hrequests⟩ := (s.radioLawful_iff).1 h
  refine (State.radioLawful_iff _).2 ⟨fun hs => ?_, hstatus, hrequests⟩
  obtain ⟨hradio, htxdata, hcancels, hsending⟩ := hdown hs
  exact ⟨hradio, htxdata, by simp [State.unlist, hcancels], hsending⟩

theorem State.settle_radioLawful (e : Outstanding) : (s.settle e).radioLawful := by
  have hlist := s.unlist_radioLawful h e
  have hfinish := State.finishHead_radioLawful _ hlist e.queue
  rcases s.settle_cases e with ⟨-, heq⟩ | ⟨_, -, -, -, heq⟩ | ⟨-, heq⟩
  · exact heq ▸ State.reevaluate_radioLawful _ _ hlist
  · exact heq ▸ State.reevaluate_radioLawful _ _ hfinish
  · exact heq ▸ State.reevaluate_radioLawful _ _ (State.closeDrained_radioLawful _ hfinish _)

theorem State.resolveSent_radioLawful (acks : List Bool) (e : Outstanding) : (s.resolveSent acks e).radioLawful := by
  have hmarked (b : Bool) := s.modQueue_radioLawful h e.queue
    (fun x => { (x.modHead (Descriptor.applySent x.config.retry e acks)) with droppedFlag := x.droppedFlag || b }) (by simp)
  exact State.settle_radioLawful _ (State.setFlagIf_radioLawful _ (hmarked _) _ _) e

theorem State.resolveUnsent_radioLawful (e : Outstanding) : (s.resolveUnsent e).radioLawful :=
  State.settle_radioLawful _ (s.modQueue_radioLawful h e.queue _ (by simp)) e

theorem State.resolveAll_radioLawful : s.resolveAll.radioLawful :=
  s.gate.table.foldlRecOn (motive := fun u : State => u.radioLawful) _ h fun u hu e _ => u.resolveSent_radioLawful hu [] e

theorem State.applyTxStat_radioLawful (x : TxStat) : (s.applyTxStat x).radioLawful := by
  unfold State.applyTxStat
  split
  · exact s.setFlag_radioLawful h _
  · split
    · exact State.resolveSent_radioLawful _ (s.setFlagIf_radioLawful h _ _) _ _
    · exact s.resolveUnsent_radioLawful h _
    · exact s.resolveUnsent_radioLawful h _

theorem State.drain_radioLawful (q : Fin 16) : (s.drain q).radioLawful := by
  unfold State.drain
  extract_lets s₁ s₂ s₃ s₄
  have h₂ : s₂.radioLawful :=
    List.foldlRecOn (motive := fun u : State => u.radioLawful) _ _ (s.modQueue_radioLawful h q _ fun _ hx => hx)
      fun u hu d _ => u.finish_radioLawful hu q d
  have h₃ : s₃.radioLawful := s₂.modQueue_radioLawful h₂ q _ fun _ hx => hx
  refine State.reevaluate_radioLawful _ q ?_
  simp only [s₄]
  split
  · exact s₃.closeDrained_radioLawful h₃ q
  · exact h₃

/-! ### Releases and admission -/

/-- A release is decided on a channel only, where the link is SYNCED. -/
theorem State.releaseHead_radioLawful (q : Fin 16) (d : Descriptor) (r : Rate) (v : Verdict) (hon : s.south.radio.isOn = true) :
    (s.releaseHead q d r v).radioLawful := by
  have hsynced := s.south.synced_of_isOn (s.downWhenUnsynced_of_radioLawful h) hon
  exact State.search_radioLawful _ _ (SouthLink.downWhenUnsynced_of_synced _ (by simpa using hsynced))

omit h in
theorem State.arbitrate_radioLawful (n : Nat) (s : State) (h : s.radioLawful) : (State.arbitrate n s).radioLawful := by
  induction n generalizing s with
  | zero => exact h
  | succ n ih =>
    unfold State.arbitrate
    split
    · exact h
    · split
      case h_1 level q _ _ d r v hoffer =>
        have hon : s.south.radio.isOn = true := s.isOn_of_offer q (by simp [hoffer])
        exact State.releaseHead_radioLawful { s with pointers := s.pointers.set level q } (State.radioLawful_of_same h rfl rfl rfl)
          q d r v hon
      · exact ih _ (s.modQueue_radioLawful h _ _ fun _ hx => absurd hx Bool.false_ne_true)

theorem State.withSouth_radioLawful (l : SouthLink) (hradio : l.radio = s.south.radio) (hdown : l.downWhenUnsynced) :
    (s.withSouth l).radioLawful := by
  obtain ⟨-, hstatus, hrequests⟩ := (s.radioLawful_iff).1 h
  refine (State.radioLawful_iff _).2 ⟨hdown, ?_, fun q hq => ?_⟩
  · rw [State.withSouth_south, hradio]; exact hstatus
  · rw [State.withSouth_south, hradio]; exact hrequests q hq

theorem State.runArbiter_radioLawful (ready : Bool) : (s.runArbiter ready).radioLawful := by
  have hready : (s.withSouth { s.south with partnerReady := ready }).radioLawful :=
    s.withSouth_radioLawful h _ rfl (s.downWhenUnsynced_of_radioLawful h)
  unfold State.runArbiter
  dsimp only
  (repeat' split)
  · exact State.arbitrate_radioLawful 17 _ hready
  · exact hready
  · exact hready

theorem State.refuse_radioLawful (header : LaneHeader) (result : DoneResult) (count : Nat) : (s.refuse header result count).radioLawful := by
  unfold State.refuse
  refine State.setFlag_radioLawful _ ?_ _
  split
  · exact State.modQueue_radioLawful { s with fifo := s.fifo.fill (refusalRecord header result count s.now) }
      (State.radioLawful_of_same h rfl rfl rfl) _ _ fun _ hx => hx
  · exact State.radioLawful_of_same h rfl rfl rfl

theorem State.takeIn_radioLawful (header : LaneHeader) (q : Fin 16) (b : Bundle) : (s.takeIn header q b).radioLawful := by
  unfold State.takeIn
  extract_lets chain d s₁ s₂
  have h₂ : s₂.radioLawful :=
    s₁.modQueue_radioLawful (State.radioLawful_of_same h rfl rfl rfl) q _ fun x hx => by
      dsimp only at hx
      split at hx <;> exact hx
  split
  · exact s₂.reevaluate_radioLawful q h₂
  · exact h₂

theorem State.takeData_radioLawful (f : LinkFrame) : (s.takeData f).radioLawful := by
  unfold State.takeData
  (repeat' split)
  · exact s.refuse_radioLawful h _ _ _
  · exact s.refuse_radioLawful h _ _ _
  · exact s.takeIn_radioLawful h _ _ _
  · exact s.refuse_radioLawful h _ _ _

/-! ### Radio changes and resets -/

omit h in
/-- A change of the radio state ends in a search (R15). -/
theorem State.changeRadio_radioLawful (radio : Radio) (last : Option Nat) (opened : Bool)
    (hdown : SouthLink.downWhenUnsynced { s.south with radio, lastChannel := last }) : (s.changeRadio radio last opened).radioLawful := by
  unfold State.changeRadio
  refine State.setFlags_radioLawful _ (State.search_radioLawful _ _ (State.addBusyAll_downWhenUnsynced _ _ ?_)) _
  simpa using hdown

theorem State.applyRadio_radioLawful (r : RadioRecord) (hsynced : s.south.synced = true) : (s.applyRadio r).radioLawful := by
  have hchange (radio : Radio) (last : Option Nat) (opened : Bool) : (s.changeRadio radio last opened).radioLawful :=
    s.changeRadio_radioLawful radio last opened (SouthLink.downWhenUnsynced_of_synced _ hsynced)
  unfold State.applyRadio
  (repeat' split)
  · exact hchange _ _ _
  · exact hchange _ _ _
  · exact h
  · exact hchange _ _ _
  · exact h
  · exact h

omit h in
@[simp] theorem State.resolveSent_south (acks : List Bool) (e : Outstanding) : (s.resolveSent acks e).south = (s.unlist e).south := by
  simp [State.resolveSent, State.unlist]

omit h in
/-- With no CANCEL waiting, resolving every release leaves the south link (R97). -/
theorem State.resolveAll_south (hcancels : s.south.cancels = []) : s.resolveAll.south = s.south :=
  s.gate.table.foldlRecOn (motive := fun u : State => u.south = s.south) _ rfl fun u hu e _ => by
    rw [State.resolveSent_south, State.unlist, hu, hcancels]
    exact congrArg (fun cs => ({ s.south with cancels := cs } : SouthLink)) hcancels.symm

/-- At the loss of synchronisation everything that the law asks of an UNSYNCED link is done (R14 to R16). -/
theorem State.southLost_radioLawful : s.southLost.radioLawful := by
  unfold State.southLost
  split
  case isFalse => exact h
  case isTrue =>
    extract_lets l s₁ s₂ s₃
    refine State.setFlag_radioLawful _ ?_ _
    have hsouth : s₂.south = s₁.south := s₁.resolveAll_south rfl
    simp only [s₃]
    split
    case isTrue hradio =>
      exact s₁.resolveAll_radioLawful (s.withSouth_radioLawful h _ rfl fun _ => ⟨hradio, rfl, rfl, rfl⟩)
    case isFalse => exact s₂.changeRadio_radioLawful _ _ _ fun _ =>
      ⟨rfl, congrArg SouthLink.txdata hsouth, congrArg SouthLink.cancels hsouth, congrArg SouthLink.sending hsouth⟩

/-- A part reset ends in a search (R52). -/
theorem State.partReset_radioLawful (scope : ResetScope) : (s.partReset scope).radioLawful := by
  unfold State.partReset
  refine State.search_radioLawful _ _ ?_
  have hblocks : (s.resetBlocks scope).south.downWhenUnsynced := fun hs => by
    obtain ⟨hradio, -, -, hsending⟩ := s.downWhenUnsynced_of_radioLawful h hs
    exact ⟨hradio, rfl, rfl, hsending⟩
  split <;> simpa using hblocks

theorem State.queueResponse_radioLawful : s.queueResponse.radioLawful :=
  s.queueResponse_induction h (fun _ _ hu => State.radioLawful_of_same hu rfl rfl rfl)
    (fun _ _ _ hu => State.radioLawful_of_same hu rfl rfl rfl) fun u scope hu => u.partReset_radioLawful hu scope

theorem State.handRing_radioLawful (r : Ring) : (s.handRing r).radioLawful := by
  unfold State.handRing
  dsimp only
  have hring : ({ s with ring := r } : State).radioLawful := State.radioLawful_of_same h rfl rfl rfl
  refine State.setFlagIf_radioLawful _ (State.search_radioLawful _ _ ?_) _ _
  split
  · exact State.addBusy_downWhenUnsynced _ _ (State.downWhenUnsynced_of_radioLawful _ hring)
  · exact State.downWhenUnsynced_of_radioLawful _ hring

/-! ### Every row -/

theorem State.southGained_radioLawful : s.southGained.radioLawful := by
  unfold State.southGained
  split
  · exact h
  · exact State.radioLawful_of_same (s.withSouth_radioLawful h { s.south with synced := true } rfl
      (SouthLink.downWhenUnsynced_of_synced _ rfl)) rfl rfl rfl

theorem State.southStart_radioLawful (ready : Bool) : (s.southStart ready).radioLawful := by
  unfold State.southStart
  split
  case isFalse => exact h
  case isTrue hfree =>
    have hsynced : s.south.synced = true := (Bool.and_eq_true _ _ ▸ hfree).1
    have hlink (l : SouthLink) (hl : l.synced = s.south.synced) : l.downWhenUnsynced :=
      l.downWhenUnsynced_of_synced (hl.trans hsynced)
    have hready : (s.withSouth { s.south with partnerReady := ready }).radioLawful := s.withSouth_radioLawful h _ rfl (hlink _ rfl)
    dsimp only
    split
    · unfold State.startSouth
      split
      · exact State.withSouth_radioLawful _ hready _ rfl (hlink _ rfl)
      · exact State.withSouth_radioLawful _ hready _ rfl (hlink _ rfl)
      · exact hready
    · exact hready

theorem State.southSent_radioLawful : (s.withSouth { s.south with sending := none }).radioLawful :=
  s.withSouth_radioLawful h _ rfl fun hs => by
    obtain ⟨hradio, htxdata, hcancels, -⟩ := s.downWhenUnsynced_of_radioLawful h hs
    exact ⟨hradio, htxdata, hcancels, rfl⟩

theorem State.agingExpired_radioLawful (q : Fin 16) : (s.agingExpired q).radioLawful := by
  unfold State.agingExpired
  split
  · exact State.reevaluate_radioLawful _ q (s.modQueue_radioLawful h q _ (by simp))
  · exact h

theorem State.energyReport_radioLawful (r : EnergyReport) : (s.energyReport r).radioLawful := by
  unfold State.energyReport
  (repeat' split)
  · unfold State.detectionReport
    refine Track.handOn_radioLawful_of_same s _ h ?_ ?_ ?_ <;> (split <;> simp)
  · exact State.radioLawful_of_same h rfl rfl rfl
  · exact State.radioLawful_of_same h rfl rfl rfl

theorem State.takeRxdata_radioLawful (f : LinkFrame) : (s.takeRxdata f).radioLawful := by
  have hpassed : (s.passRxdata f).radioLawful := State.radioLawful_of_same h (by simp) (by simp) (by simp)
  unfold State.takeRxdata State.readBeacon
  (repeat' split)
  · exact Track.handOn_radioLawful_of_same _ _ hpassed (by simp) (by simp) (by simp)
  · exact hpassed
  · exact hpassed

end

theorem State.radioFrame_radioLawful (s : State) (f : LinkFrame) (h : s.radioLawful) : (s.radioFrame f).radioLawful := by
  unfold State.radioFrame State.southFrame
  split
  case isFalse => exact h
  case isTrue hsynced =>
    (repeat' split)
    · unfold State.takeRadio
      split
      · exact s.applyRadio_radioLawful h _ hsynced
      · exact s.setFlag_radioLawful h _
    · exact h
    · exact s.setFlag_radioLawful h _

theorem State.dataFrame_radioLawful (s : State) (f : LinkFrame) (h : s.radioLawful) : (s.dataFrame f).radioLawful :=
  s.northFrame_induction 1 f _ h (fun _ => State.radioLawful_of_same h (by simp) (by simp) (by simp))
    (fun u _ _ hu _ => State.radioLawful_of_same hu (by simp) (by simp) (by simp))
    fun u _ hu _ _ _ => State.takeData_radioLawful (u.withInput .awaitHeader) (State.radioLawful_of_same hu rfl rfl rfl) f

theorem State.reset_radioLawful : State.reset.radioLawful := by
  refine (State.radioLawful_iff _).2 ⟨fun _ => ⟨rfl, rfl, rfl, rfl⟩, by decide, fun q hq => ?_⟩
  simp [State.reset, State.queue, Queue.powerOn] at hq

theorem eventOf_radioLawful (i : Instr) (s : State) (h : s.radioLawful) : (eventOf i s).radioLawful := by
  have hdiscarded := s.setFlag_radioLawful h .linkError
  cases i with
  | powerOnReset => exact State.radioLawful_of_same State.reset_radioLawful rfl rfl rfl
  | resetInputAsserted => exact State.radioLawful_of_same State.reset_radioLawful rfl rfl rfl
  | southSyncGained => exact s.southGained_radioLawful h
  | southSyncLost => exact s.southLost_radioLawful h
  | dataFrame f => exact s.dataFrame_radioLawful f h
  | rxdataFrame f => exact s.southFrame_induction 5 f _ h hdiscarded (s.takeRxdata_radioLawful h f)
  | energyReport f =>
    refine s.southFrame_induction 6 f _ h hdiscarded ?_
    unfold State.takeEnergy
    split
    · exact s.energyReport_radioLawful h _
    · exact hdiscarded
  | txstat f =>
    refine s.southFrame_induction 7 f _ h hdiscarded ?_
    unfold State.takeTxStat
    split
    · exact s.applyTxStat_radioLawful h _
    · exact hdiscarded
  | radioRecord f => exact s.radioFrame_radioLawful f h
  | southOutputStart ready => exact s.southStart_radioLawful h ready
  | txdataFrameSent =>
    dsimp only [eventOf]
    unfold State.txdataSent
    split
    · exact s.southSent_radioLawful h
    · exact h
  | cancelFrameSent =>
    dsimp only [eventOf]
    unfold State.cancelSent
    split
    · exact s.southSent_radioLawful h
    · exact h
  | releaseArbiterRun ready => exact s.runArbiter_radioLawful h ready
  | agingTimerExpiry q => exact s.agingExpired_radioLawful h q
  | windowTimerExpiry =>
    dsimp only [eventOf]
    unfold State.windowExpired
    split
    · exact s.search_radioLawful _ (s.downWhenUnsynced_of_radioLawful h)
    · exact h
  | coverageAgingExpiry =>
    dsimp only [eventOf]
    unfold State.coverageExpired State.ageCoverage
    split
    · exact Track.handOn_radioLawful_of_same s _ h (by simp) (by simp) (by simp)
    · exact h
  | checkTimerExpiry j =>
    dsimp only [eventOf]
    unfold State.checkExpired
    split
    · exact Track.handOn_radioLawful_of_same s _ h (by simp) (by simp) (by simp)
    · exact h
  | ringEndTimerExpiry =>
    dsimp only [eventOf]
    unfold State.ringEndExpired
    split
    · exact s.handRing_radioLawful h _
    · exact h
  | responseQueued => exact s.queueResponse_radioLawful h
  | statusFrameSent =>
    have hsent : (s.withNorth s.north.sent).radioLawful := State.radioLawful_of_same h rfl rfl rfl
    exact s.statusSent_induction h hsent (State.queueResponse_radioLawful _)
      fun hu => State.radioLawful_of_same hu (by simp) (by simp) (by simp)
  | airClockAdvance => exact State.radioLawful_of_same h rfl rfl rfl
  | committedUntilExpiry => exact State.radioLawful_of_same h (by simp [eventOf]) (by simp [eventOf]) (by simp [eventOf])
  | _ => exact State.radioLawful_of_same h (by simp [eventOf]) (by simp [eventOf]) (by simp [eventOf])

theorem State.forQueues_radioLawful (s : State) (qs : List (Fin 16)) (f : State → Fin 16 → State)
    (hf : ∀ (u : State) (q : Fin 16), u.radioLawful → (f u q).radioLawful) (h : s.radioLawful) : (s.forQueues qs f).radioLawful :=
  qs.foldlRecOn (motive := fun u : State => u.radioLawful) f h fun u hu q _ => hf u q hu

section
variable (s : State) (h : s.radioLawful)
include h

theorem State.openOne_radioLawful (q : Fin 16) (c : QueueConfig) : (s.openOne q c).radioLawful :=
  State.reevaluate_radioLawful _ q (s.modQueue_radioLawful h q _ fun _ hx => hx)

theorem State.pauseOne_radioLawful (q : Fin 16) : (s.pauseOne q).radioLawful := by
  unfold State.pauseOne
  split
  · exact State.reevaluate_radioLawful _ q (s.modQueue_radioLawful h q _ fun _ hx => hx)
  · exact h

theorem State.resumeOne_radioLawful (q : Fin 16) : (s.resumeOne q).radioLawful := by
  unfold State.resumeOne
  split
  · exact State.reevaluate_radioLawful _ q (s.modQueue_radioLawful h q _ (by simp [Queue.startAging]))
  · exact h

theorem State.drainOne_radioLawful (q : Fin 16) : (s.drainOne q).radioLawful := by
  unfold State.drainOne
  split
  · exact s.drain_radioLawful h q
  · exact h

theorem State.writeRate_radioLawful (i : Fin 64) (r : Rate) : (s.writeRate i r).radioLawful := by
  obtain ⟨hdown, hstatus, -⟩ := (s.radioLawful_iff).1 h
  unfold State.writeRate
  refine (State.radioLawful_iff _).2 ⟨by simpa using hdown, by simpa using hstatus, fun q hq => ?_⟩
  rw [State.queue_reevaluateAll] at hq
  simpa using State.isOn_of_offer { s with gate := { s.gate with rates := s.gate.rates.set i (some r) } } q hq

theorem State.applySettings_radioLawful (c : Settings) : (s.applySettings c).radioLawful := by
  unfold State.applySettings
  extract_lets t s₁
  have h₁ : s₁.radioLawful :=
    State.addBusy_radioLawful _ _ (State.addBusyAll_radioLawful _ _ (State.radioLawful_of_same h (by simp [t]) (by simp [t]) (by simp [t])))
  exact State.radioLawful_of_same
    (State.setFlags_radioLawful _ (s₁.search_radioLawful false (s₁.downWhenUnsynced_of_radioLawful h₁)) t.raised)
    (by simp) (by simp) (by simp)

theorem actOf_radioLawful (i : Instr) : (actOf i s).1.radioLawful := by
  have hdown := s.downWhenUnsynced_of_radioLawful h
  cases i with
  | openQueue target data =>
    simp only [actOf]
    split
    · exact s.openOne_radioLawful h _ _
    · exact h
  | pauseQueue target _ => exact s.forQueues_radioLawful _ _ (fun u q hu => u.pauseOne_radioLawful hu q) h
  | resumeQueue target _ => exact s.forQueues_radioLawful _ _ (fun u q hu => u.resumeOne_radioLawful hu q) h
  | drainQueue target _ => exact s.forQueues_radioLawful _ _ (fun u q hu => u.drainOne_radioLawful hu q) h
  | clearQueueFlags target _ => exact s.forQueues_radioLawful _ _ (fun u q hu => u.modQueue_radioLawful hu q _ fun _ hx => hx) h
  | loadRate target data =>
    simp only [actOf]
    split
    · exact s.writeRate_radioLawful h _ _
    · exact h
  | takeSource target _ =>
    simp only [actOf]
    split
    · unfold State.takeSlot
      split
      · exact State.search_radioLawful _ _ hdown
      · exact h
    · exact h
  | writeSource target data =>
    simp only [actOf]
    split
    · exact State.search_radioLawful _ _ (State.addBusy_downWhenUnsynced _ _ hdown)
    · exact h
  | releaseSource target _ =>
    simp only [actOf]
    split
    · unfold State.releaseSlot
      split
      · exact State.search_radioLawful _ _ hdown
      · exact h
    · exact h
  | freeSource target _ =>
    simp only [actOf]
    split
    · unfold State.freeSource
      split
      · exact State.search_radioLawful _ _ (by simpa using hdown)
      · exact h
    · exact h
  | startRing target _ =>
    simp only [actOf]
    split
    · exact s.handRing_radioLawful h _
    · exact h
  | stopRing target _ =>
    simp only [actOf]
    split
    · exact s.handRing_radioLawful h _
    · exact h
  | loadSettings _ data =>
    cases hread : readSettingsImage data with
    | some c => simpa [actOf, hread] using s.applySettings_radioLawful h c
    | none => simpa [actOf, hread] using h
  | _ => (simp only [actOf]; repeat' split) <;> exact State.radioLawful_of_same h (by simp) (by simp) (by simp)

end

/-- Settles O58: each search sets the window and the requests by the radio state, and only a SYNCED link is given anything to send. -/
theorem radioStateGovernsTheWindow : Obligations.RadioStateGovernsTheWindow := fun s t h hstep =>
  step_invariant (P := State.radioLawful) (fun _ _ hu => hu) (fun _ _ hu => hu) eventOf_radioLawful
    (fun i u _ hu => actOf_radioLawful u hu i) s t hstep h

end Sys2Proof.Machine

/-! PROOFS. Completion, admission and what they conserve: the storage law (R18 to R20, R31, R34) and the slot law (R8, R11). -/

namespace Sys2Proof.Machine

/-! ### Where the descriptors stand in the store -/

/-- A descriptor's number and cells: what the store's law reads of it. -/
structure Place where
  number : BitVec 10
  firstCell : BitVec 12
  cellCount : Nat

def Descriptor.place (d : Descriptor) : Place := { number := d.number, firstCell := d.firstCell, cellCount := d.cellCount }

/-- The places of all descriptors, queue by queue. -/
def State.places (s : State) : List Place := s.allDescriptors.map Descriptor.place

theorem State.places_eq {s t : State}
    (h : ∀ q, (t.queue q).descriptors.map Descriptor.place = (s.queue q).descriptors.map Descriptor.place) : t.places = s.places := by
  simp only [State.places, State.allDescriptors, List.map_flatMap]
  exact congrArg (fun f => allQueues.flatMap f) (funext h)

theorem State.places_of_queues {s t : State} (h : t.queues = s.queues) : t.places = s.places :=
  State.places_eq fun q => by simp [State.queue, h]

theorem Queue.places_of_bare {x y : Queue} (h : x.bare = y.bare) :
    x.descriptors.map Descriptor.place = y.descriptors.map Descriptor.place := by
  have hbare : x.descriptors.map Descriptor.bare = y.descriptors.map Descriptor.bare := congrArg Queue.descriptors h
  have hplace : Descriptor.place ∘ Descriptor.bare = Descriptor.place := rfl
  simpa [hplace] using congrArg (List.map Descriptor.place) hbare

theorem State.places_of_held {s t : State} (h : t.held = s.held) : t.places = s.places :=
  State.places_eq fun q => Queue.places_of_bare (State.bare_queue_of_held h q)

/-- One queue's part of the places, and the others' part. -/
theorem State.places_perm {s t : State} (q : Fin 16) (h : ∀ p, q ≠ p → t.queue p = s.queue p) :
    ∃ rest, s.places.Perm ((s.queue q).descriptors.map Descriptor.place ++ rest) ∧
      t.places.Perm ((t.queue q).descriptors.map Descriptor.place ++ rest) := by
  have hsplit (u : State) : u.places.Perm ((u.queue q).descriptors.map Descriptor.place ++
      (allQueues.erase q).flatMap fun p => (u.queue p).descriptors.map Descriptor.place) := by
    simp only [State.places, State.allDescriptors, List.map_flatMap]
    exact ((List.perm_cons_erase (mem_allQueues q)).flatMap_right _).trans (List.Perm.refl _)
  have hrest : ((allQueues.erase q).flatMap fun p => (t.queue p).descriptors.map Descriptor.place) =
      (allQueues.erase q).flatMap fun p => (s.queue p).descriptors.map Descriptor.place := by
    refine List.flatMap_congr fun p hp => ?_
    rw [h p (allQueues_nodup.mem_erase_iff.1 hp).1.symm]
  exact ⟨_, hsplit s, hrest ▸ hsplit t⟩

/-- A queue changed without a descriptor gained, lost or moved in the store. -/
theorem State.places_modQueue (s : State) (q : Fin 16) (f : Queue → Queue)
    (hf : ∀ x : Queue, (f x).descriptors.map Descriptor.place = x.descriptors.map Descriptor.place) :
    (s.modQueue q f).places = s.places := by
  refine State.places_eq fun p => ?_
  by_cases hp : q = p
  case pos => subst hp; rw [State.queue_modQueue_self, hf]
  case neg => rw [State.queue_modQueue_other _ q p f hp]

theorem Queue.modHead_places (x : Queue) (f : Descriptor → Descriptor) (hf : ∀ d, (f d).place = d.place) :
    (x.modHead f).descriptors.map Descriptor.place = x.descriptors.map Descriptor.place := by
  unfold Queue.modHead
  split
  · rfl
  · rename_i d rest h
    simp [h, hf]

/-! ### What completions conserve -/

/-- A law of places, store and TXDONE FIFO that reads no order and that the completion of a descriptor keeps (R31). -/
structure Conserved (L : List Place → FrameStore → DoneFifo → Prop) : Prop where
  perm : ∀ {l l' : List Place} {f : FrameStore} {x : DoneFifo}, l.Perm l' → L l f x → L l' f x
  complete : ∀ (d : Descriptor) (l : List Place) (f : FrameStore) (x : DoneFifo) (r : TxDone),
    L (d.place :: l) f x → L l (f.free d) (x.fill r)

/-- The law holds of a state. -/
def State.satisfies (s : State) (L : List Place → FrameStore → DoneFifo → Prop) : Prop := L s.places s.store s.fifo

theorem State.satisfies_of_eq {s t : State} {L : List Place → FrameStore → DoneFifo → Prop} (h : s.satisfies L)
    (hplaces : t.places = s.places) (hstore : t.store = s.store) (hfifo : t.fifo = s.fifo) : t.satisfies L := by
  unfold State.satisfies
  rw [hplaces, hstore, hfifo]
  exact h

section
variable {L : List Place → FrameStore → DoneFifo → Prop} (hL : Conserved L)

theorem State.satisfies_reevaluate (s : State) (q : Fin 16) (h : s.satisfies L) : (s.reevaluate q).satisfies L :=
  State.satisfies_of_eq h (State.places_of_held (by simp)) (by simp) (by simp)

theorem State.satisfies_closeDrained (s : State) (q : Fin 16) (h : s.satisfies L) : (s.closeDrained q).satisfies L := by
  refine State.satisfies_of_eq h ?_ (by simp) (by simp)
  unfold State.closeDrained
  rw [State.places_of_queues (State.setFlag_keeps _ _).2.2.2.2.2.1]
  exact s.places_modQueue q _ fun _ => rfl

include hL

theorem State.satisfies_finishHead (s : State) (q : Fin 16) (h : s.satisfies L) : (s.finishHead q).satisfies L := by
  cases hlist : (s.queue q).descriptors with
  | nil =>
    have hnone : (s.queue q).head = none := by simp [Queue.head, hlist]
    simpa [State.finishHead, hnone] using h
  | cons d rest =>
    obtain ⟨others, hs, ht⟩ := State.places_perm (t := s.finishHead q) q (s.queue_finishHead_other q)
    rw [hlist] at hs
    rw [s.queue_finishHead_self q d rest hlist] at ht
    unfold State.satisfies
    rw [s.finishHead_store q d rest hlist, s.finishHead_fifo q d rest hlist]
    exact hL.perm ht.symm (hL.complete d _ _ _ _ (hL.perm hs h))

theorem State.satisfies_settle (s : State) (e : Outstanding) (h : s.satisfies L) : (s.settle e).satisfies L := by
  have hlist : (s.unlist e).satisfies L := h
  have hfinish := State.satisfies_finishHead hL _ e.queue hlist
  rcases s.settle_cases e with ⟨-, heq⟩ | ⟨_, -, -, -, heq⟩ | ⟨-, heq⟩
  · exact heq ▸ State.satisfies_reevaluate _ _ hlist
  · exact heq ▸ State.satisfies_reevaluate _ _ hfinish
  · exact heq ▸ State.satisfies_reevaluate _ _ (State.satisfies_closeDrained _ _ hfinish)

theorem State.satisfies_resolveSent (s : State) (acks : List Bool) (e : Outstanding) (h : s.satisfies L) :
    (s.resolveSent acks e).satisfies L := by
  unfold State.resolveSent
  extract_lets x drops s₁
  have hplaces : s₁.places = s.places :=
    s.places_modQueue e.queue _ fun x => x.modHead_places (Descriptor.applySent x.config.retry e acks) fun _ => rfl
  exact State.satisfies_settle hL _ e
    (State.satisfies_of_eq h ((State.places_of_queues (by simp)).trans hplaces) (by simp [s₁]) (by simp [s₁]))

theorem State.satisfies_resolveUnsent (s : State) (e : Outstanding) (h : s.satisfies L) : (s.resolveUnsent e).satisfies L :=
  State.satisfies_settle hL _ e
    (State.satisfies_of_eq h (s.places_modQueue e.queue _ fun x => x.modHead_places _ fun _ => rfl) rfl rfl)

theorem State.satisfies_resolveAll (s : State) (h : s.satisfies L) : s.resolveAll.satisfies L :=
  s.gate.table.foldlRecOn (motive := fun u : State => u.satisfies L) _ h fun u hu e _ => State.satisfies_resolveSent hL u [] e hu

theorem State.satisfies_applyTxStat (s : State) (x : TxStat) (h : s.satisfies L) : (s.applyTxStat x).satisfies L := by
  have hflag (c : Bool) (f : EventFlag) : (s.setFlagIf c f).satisfies L :=
    State.satisfies_of_eq h (State.places_of_held (by simp)) (by simp) (by simp)
  unfold State.applyTxStat
  split
  · exact State.satisfies_of_eq h (State.places_of_held (by simp)) (by simp) (by simp)
  · split
    · exact State.satisfies_resolveSent hL _ _ _ (hflag _ _)
    · exact State.satisfies_resolveUnsent hL s _ h
    · exact State.satisfies_resolveUnsent hL s _ h

/-- Descriptors completed one after another, before the caller takes them off their queue. -/
theorem Conserved.finishAll (q : Fin 16) (ds : List Descriptor) (l : List Place) (u : State)
    (h : L (ds.map Descriptor.place ++ l) u.store u.fifo) :
    L l (ds.foldl (fun s d => s.finish q d) u).store (ds.foldl (fun s d => s.finish q d) u).fifo := by
  induction ds generalizing u with
  | nil => exact h
  | cons d rest ih => exact ih (u.finish q d) (hL.complete d _ _ _ _ h)

theorem State.satisfies_drain (s : State) (q : Fin 16) (h : s.satisfies L) : (s.drain q).satisfies L := by
  unfold State.drain
  extract_lets s₁ s₂ s₃ s₄
  have hqueues : s₂.queues = s₁.queues :=
    List.foldlRecOn (motive := fun u : State => u.queues = s₁.queues) _ _ rfl fun u hu d _ => hu
  have hself : (s₂.queue q).descriptors = (s.queue q).descriptors := by simp [State.queue, hqueues, s₁, State.modQueue, State.setQueue]
  obtain ⟨others, hs, ht⟩ := State.places_perm (s := s) (t := s₃) q fun p hp => by
    rw [s₂.queue_modQueue_other q p _ hp, State.queue, hqueues, ← State.queue, s.queue_modQueue_other q p _ hp]
  have h₃ : s₃.satisfies L := by
    have hsplit : s.places.Perm (((s.queue q).descriptors.filter fun d => d.outstanding.isNone).map Descriptor.place ++
        (((s.queue q).descriptors.filter fun d => d.outstanding.isSome).map Descriptor.place ++ others)) := by
      have hfilter := (List.filter_append_perm (fun d : Descriptor => d.outstanding.isNone) (s.queue q).descriptors).symm
      have hnot : (fun d : Descriptor => !d.outstanding.isNone) = fun d => d.outstanding.isSome := by
        funext d
        cases d.outstanding <;> rfl
      rw [hnot] at hfilter
      refine hs.trans ?_
      rw [← List.append_assoc, ← List.map_append]
      exact (hfilter.map _).append_right _
    have hqueue : (s₃.queue q).descriptors = (s.queue q).descriptors.filter fun d => d.outstanding.isSome := by
      rw [s₂.queue_modQueue_self q, hself]
    rw [hqueue] at ht
    exact hL.perm ht.symm (hL.finishAll q _ _ s₁ (hL.perm hsplit h))
  refine State.satisfies_reevaluate _ q ?_
  simp only [s₄]
  split
  · exact s₃.satisfies_closeDrained q h₃
  · exact h₃

end

/-! ### What else leaves the places -/

theorem State.satisfies_of_held {s t : State} {L : List Place → FrameStore → DoneFifo → Prop} (h : s.satisfies L)
    (hheld : t.held = s.held) (hstore : t.store = s.store) (hfifo : t.fifo = s.fifo) : t.satisfies L :=
  State.satisfies_of_eq h (State.places_of_held hheld) hstore hfifo

@[simp] theorem State.agingExpired_places (s : State) (q : Fin 16) : (s.agingExpired q).places = s.places := by
  unfold State.agingExpired
  split
  · rw [State.places_of_held (State.reevaluate_held _ q)]
    exact s.places_modQueue q _ fun x => x.modHead_places _ fun _ => rfl
  · rfl

@[simp] theorem State.releaseHead_places (s : State) (q : Fin 16) (d : Descriptor) (r : Rate) (v : Verdict) :
    (s.releaseHead q d r v).places = s.places := by
  unfold State.releaseHead
  dsimp only
  rw [State.places_of_held (State.search_held _ _)]
  exact (State.places_of_queues (State.setFlagIf_keeps _ _ _).2.2.2.2.2.1).trans
    (s.places_modQueue q _ fun x => x.modHead_places _ fun _ => rfl)

@[simp] theorem State.arbitrate_places (n : Nat) (s : State) : (State.arbitrate n s).places = s.places := by
  induction n generalizing s with
  | zero => rfl
  | succ n ih =>
    unfold State.arbitrate
    split
    · rfl
    · split
      · rw [State.releaseHead_places]; rfl
      · rw [ih]; exact s.places_modQueue _ _ fun _ => rfl

@[simp] theorem State.runArbiter_places (s : State) (ready : Bool) : (s.runArbiter ready).places = s.places := by
  unfold State.runArbiter
  dsimp only
  (repeat' split)
  · rw [State.arbitrate_places]; rfl
  · rfl
  · rfl

@[simp] theorem State.openOne_places (s : State) (q : Fin 16) (c : QueueConfig) : (s.openOne q c).places = s.places := by
  unfold State.openOne
  rw [State.places_of_held (State.reevaluate_held _ q)]
  exact s.places_modQueue q _ fun _ => rfl

@[simp] theorem State.pauseOne_places (s : State) (q : Fin 16) : (s.pauseOne q).places = s.places := by
  unfold State.pauseOne
  split
  · rw [State.places_of_held (State.reevaluate_held _ q)]
    exact s.places_modQueue q _ fun _ => rfl
  · rfl

@[simp] theorem State.resumeOne_places (s : State) (q : Fin 16) : (s.resumeOne q).places = s.places := by
  unfold State.resumeOne
  split
  · rw [State.places_of_held (State.reevaluate_held _ q)]
    exact s.places_modQueue q _ fun x => x.modHead_places _ fun _ => rfl
  · rfl

/-- A refusal fills the reserved slot and takes nothing into the store (R27). -/
@[simp] theorem State.refuse_fifo (s : State) (header : LaneHeader) (result : DoneResult) (count : Nat) :
    (s.refuse header result count).fifo = s.fifo.fill (refusalRecord header result count s.now) := by
  unfold State.refuse
  dsimp only
  split <;> simp

/-- An admitted bundle's descriptor is one place more. -/
theorem State.takeIn_places (s : State) (header : LaneHeader) (q : Fin 16) (b : Bundle) :
    (s.takeIn header q b).places.Perm
      ((newDescriptor (s.store.freeDescriptors.headD 0) header.sequence q b (s.store.freeCells.take (cellsNeeded b.lengths)) s.now).place
        :: s.places) := by
  unfold State.takeIn
  extract_lets chain d s₁ s₂
  obtain ⟨others, hs, ht⟩ := State.places_perm (s := s₁) (t := s₂) q fun p hp => s₁.queue_modQueue_other q p _ hp
  have hqueue : (s₂.queue q).descriptors = (s.queue q).descriptors ++ [d] := by
    rw [s₁.queue_modQueue_self]
    dsimp only
    split <;> rfl
  have hresult : s₂.places.Perm (d.place :: s.places) := by
    rw [hqueue, List.map_append] at ht
    refine ht.trans ?_
    rw [List.append_assoc]
    exact List.perm_middle.trans (hs.symm.cons _)
  split
  · rw [State.places_of_held (s₂.reevaluate_held q)]
    exact hresult
  · exact hresult

theorem State.places_of_empty (s : State) (h : ∀ q, (s.queue q).descriptors = []) : s.places = [] := by
  simp [State.places, State.allDescriptors, h]

/-! ### A part reset, block by block -/

@[simp] theorem State.queueStartedFull_held (s : State) : s.queueStartedFull.held = s.held := rfl

/-- The deferred checks, RING_STOPPED, STARTED and the search touch nothing that the queues hold. -/
theorem State.partReset_held (s : State) (scope : ResetScope) : (s.partReset scope).held = (s.resetBlocks scope).held := by
  unfold State.partReset
  rw [State.search_held]
  split
  · rw [State.queueStartedFull_held, State.setFlagIf_held]
    exact State.held_of_eq (by simp) (by simp) (by simp)
  · rw [State.setFlagIf_held]
    exact State.held_of_eq (by simp) (by simp) (by simp)

@[simp] theorem State.partReset_store (s : State) (scope : ResetScope) : (s.partReset scope).store = s.store.afterReset := by
  unfold State.partReset
  (repeat' split) <;> simp [State.resetBlocks]

@[simp] theorem State.partReset_fifo (s : State) (scope : ResetScope) : (s.partReset scope).fifo = DoneFifo.powerOn := by
  unfold State.partReset
  (repeat' split) <;> simp [State.resetBlocks]

theorem State.queue_resetBlocks (s : State) (scope : ResetScope) (q : Fin 16) : (s.resetBlocks scope).queue q = Queue.powerOn := by
  simp [State.resetBlocks, State.queue]

@[simp] theorem State.partReset_places (s : State) (scope : ResetScope) : (s.partReset scope).places = [] := by
  rw [State.places_of_held (s.partReset_held scope)]
  exact State.places_of_empty _ fun q => by rw [s.queue_resetBlocks scope q]; rfl

@[simp] theorem State.partReset_input (s : State) (scope : ResetScope) : (s.partReset scope).north.input = s.north.input.afterReset :=
  State.input_of_held (s.partReset_held scope)

theorem State.queue_reset (q : Fin 16) : State.reset.queue q = Queue.powerOn := by
  simp [State.reset, State.queue]

theorem State.reset_places : State.reset.places = [] := State.places_of_empty _ fun q => by rw [State.queue_reset]; rfl

/-! ### The north input under completions -/

section
variable (s : State)

@[simp] theorem State.search_input (o : Bool) : (s.search o).north.input = s.north.input := State.input_of_held (by simp)

@[simp] theorem State.closeDrained_input (q : Fin 16) : (s.closeDrained q).north.input = s.north.input := by
  simp [State.closeDrained]

@[simp] theorem State.settle_input (e : Outstanding) : (s.settle e).north.input = s.north.input := by
  rcases s.settle_cases e with ⟨-, h⟩ | ⟨_, -, -, -, h⟩ | ⟨-, h⟩ <;> simp [h, State.unlist]

@[simp] theorem State.resolveSent_input (acks : List Bool) (e : Outstanding) : (s.resolveSent acks e).north.input = s.north.input := by
  simp [State.resolveSent]

@[simp] theorem State.resolveUnsent_input (e : Outstanding) : (s.resolveUnsent e).north.input = s.north.input := by
  simp [State.resolveUnsent]

@[simp] theorem State.resolveAll_input : s.resolveAll.north.input = s.north.input :=
  s.gate.table.foldlRecOn (motive := fun u : State => u.north.input = s.north.input) _ rfl fun u hu e _ =>
    (u.resolveSent_input [] e).trans hu

@[simp] theorem State.applyTxStat_input (x : TxStat) : (s.applyTxStat x).north.input = s.north.input := by
  unfold State.applyTxStat
  (repeat' split) <;> simp

@[simp] theorem State.drain_input (q : Fin 16) : (s.drain q).north.input = s.north.input := by
  have hfinished (ds : List Descriptor) (u : State) : (ds.foldl (fun s d => s.finish q d) u).north = u.north :=
    ds.foldlRecOn (motive := fun t : State => t.north = u.north) _ rfl fun t ht _ _ => ht
  unfold State.drain
  dsimp only
  split <;> simp [hfinished]

@[simp] theorem State.releaseHead_input (q : Fin 16) (d : Descriptor) (r : Rate) (v : Verdict) :
    (s.releaseHead q d r v).north.input = s.north.input := by
  simp [State.releaseHead]

@[simp] theorem State.arbitrate_input (n : Nat) (s : State) : (State.arbitrate n s).north.input = s.north.input := by
  induction n generalizing s with
  | zero => rfl
  | succ n ih =>
    unfold State.arbitrate
    split
    · rfl
    · split <;> simp [ih]

@[simp] theorem State.runArbiter_input (ready : Bool) : (s.runArbiter ready).north.input = s.north.input := by
  unfold State.runArbiter
  dsimp only
  (repeat' split) <;> simp

@[simp] theorem State.changeRadio_input (r : Radio) (l : Option Nat) (o : Bool) : (s.changeRadio r l o).north.input = s.north.input :=
  State.input_of_held (by simp)

@[simp] theorem State.southLost_input : s.southLost.north.input = s.north.input := by
  unfold State.southLost
  split
  · dsimp only
    split <;> simp
  · rfl

@[simp] theorem State.takeData_input (f : LinkFrame) : (s.takeData f).north.input = s.north.input := by
  unfold State.takeData
  (repeat' split) <;> simp [State.input_of_held (State.refuse_held _ _ _ _)]

end

/-- The loss of south synchronisation resolves every release and hands the radio's change on; completions are all it does to the store. -/
theorem State.satisfies_southLost {L : List Place → FrameStore → DoneFifo → Prop} (hL : Conserved L) (s : State) (h : s.satisfies L) :
    s.southLost.satisfies L := by
  unfold State.southLost
  split
  case isFalse => exact h
  case isTrue =>
    extract_lets l s₁ s₂ s₃
    have h₂ : s₂.satisfies L := State.satisfies_resolveAll hL s₁ h
    have h₃ : s₃.satisfies L := by
      simp only [s₃]
      split
      · exact h₂
      · exact State.satisfies_of_held h₂ (by simp) (by simp) (by simp)
    exact State.satisfies_of_held h₃ (by simp) (by simp) (by simp)

theorem State.satisfies_txstatFrame {L : List Place → FrameStore → DoneFifo → Prop} (hL : Conserved L) (s : State) (f : LinkFrame)
    (h : s.satisfies L) : (s.txstatFrame f).satisfies L := by
  have hflag : (s.setFlag .linkError).satisfies L := State.satisfies_of_held h (by simp) (by simp) (by simp)
  refine s.southFrame_induction (P := fun u => u.satisfies L) 7 f _ h hflag ?_
  unfold State.takeTxStat
  split
  · exact State.satisfies_applyTxStat hL s _ h
  · exact hflag

/-! ### The slot law (R8, R11) -/

/-- Reserved slots are the descriptors' and `n` more, and no more than 1280 slots are in use. -/
def slotLaw (n : Nat) (l : List Place) (_ : FrameStore) (x : DoneFifo) : Prop :=
  x.reserved = l.length + n ∧ x.reserved + x.filled.length ≤ 1280

/-- A completion turns a reserved slot into a filled one. -/
theorem slotLaw_conserved (n : Nat) : Conserved (slotLaw n) where
  perm hperm h := ⟨hperm.length_eq ▸ h.1, h.2⟩
  complete d l f x r h := by
    obtain ⟨hreserved, huse⟩ := h
    simp only [slotLaw, DoneFifo.fill, List.length_append, List.length_cons, List.length_nil] at hreserved huse ⊢
    omega

/-- What the law says of the stage of the north input. -/
def NorthInput.slotsLawful (i : NorthInput) : Prop :=
  (∀ h reserved doomed, i = .receiving h reserved doomed → reserved = (needsSlot h && !doomed)) ∧ ∀ h, i = .held h → needsSlot h = true

/-- The slots that the frame being received holds. -/
def NorthInput.slots (i : NorthInput) : Nat := if i.holdsSlot then 1 else 0

theorem State.slotsLawful_iff (s : State) : s.slotsLawful ↔ s.satisfies (slotLaw s.north.input.slots) ∧ s.north.input.slotsLawful := by
  unfold State.slotsLawful State.satisfies slotLaw NorthInput.slots NorthInput.slotsLawful State.places
  rw [List.length_map, and_assoc]

theorem State.slotsLawful_of {s t : State} (hs : s.slotsLawful) (hinput : t.north.input = s.north.input)
    (h : s.satisfies (slotLaw s.north.input.slots) → t.satisfies (slotLaw s.north.input.slots)) : t.slotsLawful := by
  obtain ⟨hslots, hstage⟩ := (s.slotsLawful_iff).1 hs
  exact (t.slotsLawful_iff).2 ⟨hinput ▸ h hslots, hinput ▸ hstage⟩

theorem State.slotsLawful_of_held {s t : State} (hs : s.slotsLawful) (hheld : t.held = s.held) (hfifo : t.fifo = s.fifo) :
    t.slotsLawful := by
  refine State.slotsLawful_of hs (State.input_of_held hheld) fun h => ?_
  unfold State.satisfies slotLaw at h ⊢
  rw [State.places_of_held hheld, hfifo]
  exact h

theorem State.slotsLawful_of_places {s t : State} (hs : s.slotsLawful) (hplaces : t.places = s.places) (hfifo : t.fifo = s.fifo)
    (hinput : t.north.input = s.north.input) : t.slotsLawful := by
  refine State.slotsLawful_of hs hinput fun h => ?_
  unfold State.satisfies slotLaw at h ⊢
  rw [hplaces, hfifo]
  exact h

/-- The law in numbers, for the events at the north input. -/
theorem State.slotsLawful_of_counts {s t : State} (hs : s.slotsLawful) (hplaces : t.places = s.places)
    (hreserved : s.fifo.reserved + t.north.input.slots = t.fifo.reserved + s.north.input.slots)
    (huse : t.fifo.reserved + t.fifo.filled.length ≤ 1280) (hstage : t.north.input.slotsLawful) : t.slotsLawful := by
  obtain ⟨⟨hcount, -⟩, -⟩ := (s.slotsLawful_iff).1 hs
  refine (t.slotsLawful_iff).2 ⟨⟨?_, huse⟩, hstage⟩
  rw [hplaces]
  omega

end Sys2Proof.Machine

namespace Sys2Proof.Machine

/-! ### The slot law at the north input -/

/-- An input that waits for a header holds nothing. -/
theorem NorthInput.awaitHeader_slotsLawful : NorthInput.awaitHeader.slotsLawful := ⟨by rintro h r d ⟨⟩, by rintro h ⟨⟩⟩

theorem State.laneHeader_slotsLawful (s : State) (header : LaneHeader) (hs : s.slotsLawful) (hinput : s.north.input = .awaitHeader) :
    (s.laneHeader header).slotsLawful := by
  have ⟨⟨_, huse⟩, _⟩ := (s.slotsLawful_iff).1 hs
  have hnone : s.north.input.slots = 0 := by rw [hinput]; rfl
  unfold State.laneHeader
  split
  case isTrue hneeds =>
    split
    case isTrue hfree =>
      have hroom : s.fifo.reserved + s.fifo.filled.length < 1280 := by
        simp only [DoneFifo.free, Config.txdoneSlots] at hfree
        omega
      refine State.slotsLawful_of_counts hs rfl (by rw [hnone]; rfl) (by simp only [DoneFifo.reserve]; omega) ⟨?_, ?_⟩
      · rintro h reserved doomed ⟨⟩
        simp [hneeds]
      · rintro h ⟨⟩
    case isFalse =>
      refine State.slotsLawful_of_counts hs rfl (by rw [hnone]; rfl) huse ⟨?_, ?_⟩
      · rintro h reserved doomed ⟨⟩
      · rintro h ⟨⟩
        exact hneeds
  case isFalse hneeds =>
    refine State.slotsLawful_of_counts hs rfl (by rw [hnone]; rfl) huse ⟨?_, ?_⟩
    · rintro h reserved doomed ⟨⟩
      simpa using hneeds
    · rintro h ⟨⟩

/-- The discarded frame returns its reservation (R8). -/
theorem State.discardNorth_slotsLawful (s : State) (header : LaneHeader) (reserved doomed failed : Bool) (hs : s.slotsLawful)
    (hinput : s.north.input = .receiving header reserved doomed) : (s.discardNorth reserved failed).slotsLawful := by
  have ⟨⟨hcount, huse⟩, _⟩ := (s.slotsLawful_iff).1 hs
  have hfifo : (s.discardNorth reserved failed).fifo = if reserved then s.fifo.cancel else s.fifo := by
    unfold State.discardNorth
    dsimp only
    cases reserved <;> simp
  have hstage : (s.discardNorth reserved failed).north.input = .awaitHeader := by
    unfold State.discardNorth
    dsimp only
    cases reserved <;> simp
  have hplaces : (s.discardNorth reserved failed).places = s.places := State.places_of_queues (by simp)
  rw [hinput] at hcount
  refine State.slotsLawful_of_counts hs hplaces ?_ ?_ (by rw [hstage]; exact NorthInput.awaitHeader_slotsLawful)
  · rw [hfifo, hstage, hinput]
    cases reserved
    · rfl
    · simp only [NorthInput.slots, NorthInput.holdsSlot, if_true, DoneFifo.cancel, Bool.false_eq_true, if_false] at hcount ⊢
      omega
  · rw [hfifo]
    cases reserved
    · exact huse
    · simp only [if_true, DoneFifo.cancel]
      omega

/-- A frame of another kind than DATA holds no slot when it is taken. -/
theorem State.withAwait_slotsLawful (s : State) (header : LaneHeader) (doomed : Bool) (hs : s.slotsLawful)
    (hinput : s.north.input = .receiving header false doomed) : (s.withInput .awaitHeader).slotsLawful := by
  have ⟨⟨_, huse⟩, _⟩ := (s.slotsLawful_iff).1 hs
  exact State.slotsLawful_of_counts hs rfl (by rw [hinput]; rfl) huse NorthInput.awaitHeader_slotsLawful

/-- A DATA frame that passes the checks has a slot reserved, which its descriptor or its refusal record takes over (R23, R27, R28). -/
theorem State.takeData_slotsLawful (s : State) (f : LinkFrame) (reserved : Bool) (hs : s.slotsLawful)
    (hinput : s.north.input = .receiving f.header reserved false) (hneeds : needsSlot f.header = true) :
    ((s.withInput .awaitHeader).takeData f).slotsLawful := by
  obtain ⟨⟨hcount, huse⟩, hstage, -⟩ := (s.slotsLawful_iff).1 hs
  have hreserved : reserved = true := by simpa [hneeds] using hstage _ _ _ hinput
  subst hreserved
  have hslots : s.north.input.slots = 1 := by rw [hinput]; rfl
  rw [hslots] at hcount
  have hawait : ((s.withInput .awaitHeader).takeData f).north.input = .awaitHeader := (State.takeData_input _ f)
  refine (State.slotsLawful_iff _).2 ⟨?_, by rw [hawait]; exact NorthInput.awaitHeader_slotsLawful⟩
  rw [hawait]
  have hrefused (result : DoneResult) (count : Nat) :
      ((s.withInput .awaitHeader).refuse f.header result count).satisfies (slotLaw 0) := by
    unfold State.satisfies slotLaw
    rw [State.refuse_fifo, State.places_of_held (State.refuse_held _ _ _ _)]
    have hplaces : (s.withInput .awaitHeader).places = s.places := rfl
    simp only [hplaces, State.withInput_fifo, DoneFifo.fill, List.length_append, List.length_cons, List.length_nil]
    omega
  have hadmitted (q : Fin 16) (b : Bundle) : ((s.withInput .awaitHeader).takeIn f.header q b).satisfies (slotLaw 0) := by
    have hplaces := (State.takeIn_places (s.withInput .awaitHeader) f.header q b).length_eq
    have hfifo : ((s.withInput .awaitHeader).takeIn f.header q b).fifo = s.fifo := by simp
    unfold State.satisfies slotLaw
    rw [hplaces, hfifo]
    exact ⟨hcount, huse⟩
  unfold State.takeData
  (repeat' split)
  · exact hrefused _ _
  · exact hrefused _ _
  · exact hadmitted _ _
  · exact hrefused _ _

/-- A frame that passes the checks and is of kind DATA is of version 1 (R5). -/
theorem needsSlot_of_passes (f : LinkFrame) (hpasses : passes .north f = true) (hkind : f.header.kind = 1) :
    needsSlot f.header = true := by
  simp only [passes, Bool.and_eq_true] at hpasses
  obtain ⟨⟨⟨⟨-, hversion⟩, -⟩, -⟩, -⟩ := hpasses
  simpa [needsSlot, hkind] using hversion

theorem State.northFrame_slotsLawful (s : State) (kind : Byte) (f : LinkFrame) (taken : State → State) (hs : s.slotsLawful)
    (htaken : ∀ (u : State) (reserved : Bool), u.slotsLawful → u.north.input = .receiving f.header reserved false → passes .north f = true →
      f.header.kind = kind → (taken (u.withInput .awaitHeader)).slotsLawful) : (s.northFrame kind f taken).slotsLawful :=
  s.northFrame_induction kind f taken hs (s.laneHeader_slotsLawful f.header hs)
    (fun u reserved doomed hu hinput => u.discardNorth_slotsLawful f.header reserved doomed _ hu hinput) htaken

theorem State.dataFrame_slotsLawful (s : State) (f : LinkFrame) (hs : s.slotsLawful) : (s.dataFrame f).slotsLawful :=
  s.northFrame_slotsLawful 1 f _ hs fun u reserved hu hinput hpasses hkind =>
    u.takeData_slotsLawful f reserved hu hinput (needsSlot_of_passes f hpasses hkind)

theorem State.controlFrame_slotsLawful (s : State) (f : LinkFrame) (hs : s.slotsLawful) : (s.controlFrame f).slotsLawful := by
  refine s.northFrame_slotsLawful 2 f _ hs fun u reserved hu hinput hpasses hkind => ?_
  have ⟨_, hstage, _⟩ := (u.slotsLawful_iff).1 hu
  have hnone : reserved = false := by simpa [needsSlot, hkind] using hstage _ _ _ hinput
  subst hnone
  have htaken : ((u.withInput .awaitHeader).takeControl f).held = (u.withInput .awaitHeader).held :=
    State.held_of_eq (by simp) (by simp) (by
      unfold State.takeControl
      (repeat' split) <;> simp)
  exact State.slotsLawful_of_held (u.withAwait_slotsLawful f.header false hu hinput) htaken (by simp)

theorem State.discardFrame_slotsLawful (s : State) (link : Link) (f : LinkFrame) (hs : s.slotsLawful) :
    (s.discardFrame link f).slotsLawful := by
  cases link with
  | north => exact s.northFrame_slotsLawful _ f _ hs fun u _ _ _ _ _ => hs
  | south =>
    exact s.southFrame_induction _ f _ hs (State.slotsLawful_of_held hs (by simp) (by simp)) hs

theorem State.northHeader_slotsLawful (s : State) (header : LaneHeader) (hs : s.slotsLawful) : (s.northHeader header).slotsLawful := by
  unfold State.northHeader
  split
  case isTrue h =>
    simp only [Bool.and_eq_true, beq_iff_eq] at h
    exact s.laneHeader_slotsLawful header hs h.2
  case isFalse => exact hs

/-- A held frame takes the slot that has become free (R8). -/
theorem State.reserveHeld_slotsLawful (s : State) (hs : s.slotsLawful) : s.reserveHeld.slotsLawful := by
  have ⟨⟨_, huse⟩, _, hheld⟩ := (s.slotsLawful_iff).1 hs
  unfold State.reserveHeld
  split
  case h_2 => exact hs
  case h_1 header hinput =>
    split
    case isFalse => exact hs
    case isTrue hfree =>
      rw [Bool.and_eq_true, decide_eq_true_eq] at hfree
      have hfree := hfree.2
      simp only [DoneFifo.free, Config.txdoneSlots] at hfree
      refine State.slotsLawful_of_counts hs rfl (by rw [hinput]; rfl) (by simp only [DoneFifo.reserve]; omega) ⟨?_, ?_⟩
      · rintro h reserved doomed ⟨⟩
        simp [hheld _ hinput]
      · rintro h ⟨⟩

/-- At a loss of the north link the frame being received returns its reservation (R8). -/
theorem State.northLost_slotsLawful (s : State) (hs : s.slotsLawful) : s.northLost.slotsLawful := by
  have ⟨⟨hcount, huse⟩, _⟩ := (s.slotsLawful_iff).1 hs
  unfold State.northLost
  split
  case isFalse => exact hs
  case isTrue =>
    have hstage {t : State} (ht : t.north.input = .awaitHeader) : t.north.input.slotsLawful := by
      rw [ht]; exact NorthInput.awaitHeader_slotsLawful
    dsimp only
    have habandoned (n : NorthLink) (item : NorthItem) : (n.abandon item).input = n.input := by simp
    refine State.slotsLawful_of_counts hs rfl ?_ ?_ (hstage ?_)
    · simp only [NorthInput.slots] at hcount ⊢
      cases hhold : s.north.input.holdsSlot
      · split <;> simp [NorthInput.holdsSlot]
      · simp only [hhold, if_true] at hcount
        split <;> simp [NorthInput.holdsSlot, DoneFifo.cancel] <;> omega
    · dsimp only
      split
      · simp only [DoneFifo.cancel]; omega
      · exact huse
    · dsimp only
      split <;> simp

theorem State.txdoneSent_slotsLawful (s : State) (hs : s.slotsLawful) : s.txdoneSent.slotsLawful := by
  have ⟨⟨_, huse⟩, hstage⟩ := (s.slotsLawful_iff).1 hs
  unfold State.txdoneSent
  split
  · refine State.slotsLawful_of_counts hs rfl ?_ ?_ hstage
    · dsimp only
      split <;> rfl
    · dsimp only
      split
      · simp only [DoneFifo.sent, List.length_tail]; omega
      · exact huse
  · exact hs

/-! ### The slot law at part resets -/

/-- At a part reset the store is empty and the frame being received holds nothing (R11, R17). -/
theorem State.partReset_slotsLawful (s : State) (scope : ResetScope) (hs : s.slotsLawful) : (s.partReset scope).slotsLawful := by
  have ⟨_, _, hheld⟩ := (s.slotsLawful_iff).1 hs
  refine (State.slotsLawful_iff _).2 ⟨?_, ?_⟩
  · unfold State.satisfies slotLaw
    rw [State.partReset_places, State.partReset_fifo, State.partReset_input]
    cases s.north.input <;> exact ⟨rfl, by decide⟩
  · rw [State.partReset_input]
    cases hinput : s.north.input with
    | awaitHeader => exact NorthInput.awaitHeader_slotsLawful
    | held header => exact ⟨by rintro h r d ⟨⟩, by rintro h ⟨⟩; exact hheld _ hinput⟩
    | receiving header _ _ => exact ⟨by rintro h r d ⟨⟩; simp, by rintro h ⟨⟩⟩

theorem State.queueResponse_slotsLawful (s : State) (hs : s.slotsLawful) : s.queueResponse.slotsLawful :=
  s.queueResponse_induction hs (fun _ _ hu => hu) (fun _ _ _ hu => hu) fun u scope hu => u.partReset_slotsLawful scope hu

theorem State.reset_slotsLawful : State.reset.slotsLawful := by
  refine (State.slotsLawful_iff _).2 ⟨?_, NorthInput.awaitHeader_slotsLawful⟩
  unfold State.satisfies slotLaw
  rw [State.reset_places]
  exact ⟨rfl, by decide⟩

/-! ### The slot law of every row -/

theorem eventOf_slotsLawful (i : Instr) (s : State) (hs : s.slotsLawful) : (eventOf i s).slotsLawful := by
  have hcompletes := slotLaw_conserved s.north.input.slots
  cases i with
  | powerOnReset => exact State.reset_slotsLawful
  | resetInputAsserted => exact State.reset_slotsLawful
  | northSyncLost => exact s.northLost_slotsLawful hs
  | northLaneHeader header => exact s.northHeader_slotsLawful header hs
  | dataSlotReserved => exact s.reserveHeld_slotsLawful hs
  | dataFrame f => exact s.dataFrame_slotsLawful f hs
  | controlFrame f => exact s.controlFrame_slotsLawful f hs
  | receivedFrameDiscarded link f => exact s.discardFrame_slotsLawful link f hs
  | txdoneFrameSent => exact s.txdoneSent_slotsLawful hs
  | txstat f =>
    refine State.slotsLawful_of hs ?_ (s.satisfies_txstatFrame hcompletes f)
    refine s.southFrame_keeps (fun u => u.north.input) 7 f _ (by simp) ?_
    unfold State.takeTxStat
    split <;> simp
  | releaseArbiterRun ready =>
    exact State.slotsLawful_of_places hs (s.runArbiter_places ready) (by simp [eventOf]) (s.runArbiter_input ready)
  | agingTimerExpiry q =>
    exact State.slotsLawful_of_places hs (s.agingExpired_places q) (by simp [eventOf]) (by simp [eventOf])
  | airClockAdvance => exact hs
  | southSyncLost => exact State.slotsLawful_of hs s.southLost_input (s.satisfies_southLost hcompletes)
  | responseQueued => exact s.queueResponse_slotsLawful hs
  | statusFrameSent =>
    exact s.statusSent_induction hs hs (State.queueResponse_slotsLawful _) fun hu =>
      State.slotsLawful_of_held hu (State.held_of_eq (by simp) (by simp) (by simp)) (by simp)
  | _ => exact State.slotsLawful_of_held hs (eventOf_held _ s rfl rfl) (by simp [eventOf])

theorem State.forQueues_slotsLawful (s : State) (qs : List (Fin 16)) (f : State → Fin 16 → State)
    (hf : ∀ (u : State) (q : Fin 16), u.slotsLawful → (f u q).slotsLawful) (h : s.slotsLawful) : (s.forQueues qs f).slotsLawful :=
  qs.foldlRecOn (motive := State.slotsLawful) f h fun u hu q _ => hf u q hu

theorem State.drainOne_slotsLawful (s : State) (q : Fin 16) (hs : s.slotsLawful) : (s.drainOne q).slotsLawful := by
  unfold State.drainOne
  split
  · exact State.slotsLawful_of hs (s.drain_input q) (s.satisfies_drain (slotLaw_conserved _) q)
  · exact hs

theorem actOf_slotsLawful (i : Instr) (s : State) (hs : s.slotsLawful) : (actOf i s).1.slotsLawful := by
  have hmoved (u : State) (t : State) (hu : u.slotsLawful) (hplaces : t.places = u.places) (hfifo : t.fifo = u.fifo)
      (hnorth : t.north = u.north) : t.slotsLawful := State.slotsLawful_of_places hu hplaces hfifo (by rw [hnorth])
  cases i with
  | openQueue target data =>
    simp only [actOf]
    split
    · exact hmoved s _ hs (by simp) (by simp) (by simp)
    · exact hs
  | pauseQueue target _ =>
    exact s.forQueues_slotsLawful _ _ (fun u q hu => hmoved u _ hu (by simp) (by simp) (by simp)) hs
  | resumeQueue target _ =>
    exact s.forQueues_slotsLawful _ _ (fun u q hu => hmoved u _ hu (by simp) (by simp) (by simp)) hs
  | drainQueue target _ => exact s.forQueues_slotsLawful _ _ State.drainOne_slotsLawful hs
  | clearQueueFlags target data =>
    exact State.slotsLawful_of_held hs (actOf_held _ s rfl) (s.forQueues_keeps State.fifo _ _ (by simp))
  | _ => exact State.slotsLawful_of_held hs (actOf_held _ s rfl) (by (simp only [actOf]; repeat' split) <;> simp)

/-- Settles O53: every completion turns a reserved slot into a filled one, and the north input's frame holds its slot until it is taken or
discarded. -/
theorem txdoneSlotsAreNeverLost : Obligations.TxdoneSlotsAreNeverLost := fun s t h hstep =>
  step_invariant (P := State.slotsLawful) (fun _ _ hu => hu) (fun _ _ hu => hu) eventOf_slotsLawful
    (fun i u _ hu => actOf_slotsLawful i u hu) s t hstep h

end Sys2Proof.Machine

namespace Sys2Proof.Machine

/-! ### Cell chains (R20) -/

/-- The cells of a place. -/
def FrameStore.cellsAt (f : FrameStore) (p : Place) : List (BitVec 12) := chainFrom f.nextCell p.cellCount p.firstCell

theorem FrameStore.cellsAt_place (f : FrameStore) (d : Descriptor) : f.cellsAt d.place = f.chain d := rfl

/-- A chain follows only the next cells recorded for its own cells. -/
theorem chainFrom_congr (links links' : List (BitVec 12 × BitVec 12)) (n : Nat) (c : BitVec 12)
    (h : ∀ a ∈ chainFrom links n c, nextOf links' a = nextOf links a) : chainFrom links' n c = chainFrom links n c := by
  induction n generalizing c with
  | zero => rfl
  | succ n ih =>
    have hc : nextOf links' c = nextOf links c := h c (by unfold chainFrom; split <;> simp)
    unfold chainFrom
    rw [hc]
    cases hnext : nextOf links c with
    | none => rfl
    | some c' =>
      refine congrArg (c :: ·) (ih c' fun a ha => h a ?_)
      unfold chainFrom
      rw [hnext]
      exact List.mem_cons_of_mem _ ha

/-- Forgetting the next cells of some cells leaves those of the others. -/
theorem nextOf_filter (links : List (BitVec 12 × BitVec 12)) (cells : List (BitVec 12)) (a : BitVec 12) (h : a ∉ cells) :
    nextOf (links.filter fun p => !cells.contains p.1) a = nextOf links a := by
  unfold nextOf
  rw [List.find?_filter]
  refine congrArg (Option.map Prod.snd) (List.find?_congr fun p _ => ?_)
  by_cases hp : p.1 = a
  · subst hp; simp [h]
  · simp [hp]

/-- Next cells recorded for some cells leave those of the others. -/
theorem nextOf_append_of_notMem (new links : List (BitVec 12 × BitVec 12)) (a : BitVec 12) (h : ∀ p ∈ new, p.1 ≠ a) :
    nextOf (new ++ links) a = nextOf links a := by
  have hnone : new.find? (fun p => p.1 == a) = none := List.find?_eq_none.2 fun p hp => by simpa using h p hp
  simp [nextOf, List.find?_append, hnone]

/-- The next cells recorded along a list of cells without repetition. -/
theorem nextOf_zip_tail (before : List (BitVec 12)) (c c' : BitVec 12) (after : List (BitVec 12)) (links : List (BitVec 12 × BitVec 12))
    (h : (before ++ c :: c' :: after).Nodup) :
    nextOf ((before ++ c :: c' :: after).zip (before ++ c :: c' :: after).tail ++ links) c = some c' := by
  induction before with
  | nil => simp [nextOf]
  | cons b rest ih =>
    have hb : b ≠ c := fun e => by simp [e] at h
    have hrest : (rest ++ c :: c' :: after).Nodup := (List.nodup_cons.1 h).2
    have hnext := ih hrest
    cases rest with
    | nil => simp [nextOf, hb]
    | cons b' rest' => simpa [nextOf, hb] using hnext

/-- The chain of cells just taken, followed from one of them on. -/
theorem chainFrom_zip_tail (before : List (BitVec 12)) (c : BitVec 12) (after : List (BitVec 12)) (links : List (BitVec 12 × BitVec 12))
    (h : (before ++ c :: after).Nodup) :
    chainFrom ((before ++ c :: after).zip (before ++ c :: after).tail ++ links) (after.length + 1) c = c :: after := by
  induction after generalizing before c with
  | nil =>
    unfold chainFrom
    split <;> rfl
  | cons c' rest ih =>
    have hmove : before ++ c :: c' :: rest = (before ++ [c]) ++ c' :: rest := by simp
    unfold chainFrom
    rw [nextOf_zip_tail before c c' rest links h, hmove]
    exact congrArg (c :: ·) (ih (before ++ [c]) c' (hmove ▸ h))

/-- The chain of an admitted bundle is the cells taken for it. -/
theorem chainFrom_taken (cells : List (BitVec 12)) (links : List (BitVec 12 × BitVec 12)) (h : cells.Nodup) :
    chainFrom (cells.zip cells.tail ++ links) cells.length (cells.headD 0) = cells := by
  cases cells with
  | nil => rfl
  | cons c rest => exact chainFrom_zip_tail [] c rest links h

/-- Other chains, none of whose cells is taken, stand. -/
theorem chainFrom_other (cells : List (BitVec 12)) (links : List (BitVec 12 × BitVec 12)) (n : Nat) (c : BitVec 12)
    (h : ∀ a ∈ chainFrom links n c, a ∉ cells) : chainFrom (cells.zip cells.tail ++ links) n c = chainFrom links n c :=
  chainFrom_congr _ _ n c fun a ha => nextOf_append_of_notMem _ _ a fun _ hp e => h a ha (e ▸ (List.of_mem_zip hp).1)

/-! ### The storage law as a law of places -/

/-- The storage law of a store that holds the given places (R18 to R20). -/
def storageLaw (l : List Place) (f : FrameStore) (_ : DoneFifo) : Prop :=
  (f.freeCells ++ l.flatMap f.cellsAt).Nodup
    ∧ f.freeCells.length + (l.map Place.cellCount).sum = 4096
    ∧ (f.freeDescriptors ++ l.map Place.number).Nodup
    ∧ f.freeDescriptors.length + l.length = 1024
    ∧ ∀ p ∈ l, (f.cellsAt p).length = p.cellCount

theorem State.storageLawful_iff (s : State) : s.storageLawful ↔ s.satisfies storageLaw := by
  have hcells : Place.cellCount ∘ Descriptor.place = Descriptor.cellCount := rfl
  have hnumbers : Place.number ∘ Descriptor.place = Descriptor.number := rfl
  unfold State.satisfies storageLaw State.storageLawful State.places
  simp only [List.flatMap_map, List.map_map, hcells, hnumbers, List.length_map, List.mem_map, forall_exists_index, and_imp,
    forall_apply_eq_imp_iff₂, FrameStore.cellsAt_place]
  rfl

/-- A law of the store that an admission and the resets keep too, and that does not read the TXDONE FIFO. -/
structure StoreLaw (L : List Place → FrameStore → DoneFifo → Prop) : Prop extends Conserved L where
  anyFifo : ∀ {l : List Place} {f : FrameStore} {x : DoneFifo} (x' : DoneFifo), L l f x → L l f x'
  takeIn : ∀ {l : List Place} {f : FrameStore} {x : DoneFifo} (b : Bundle), f.freeDescriptors ≠ [] →
    L l f x →
      L ({ number := f.freeDescriptors.headD 0, firstCell := (f.freeCells.take (cellsNeeded b.lengths)).headD 0
           cellCount := (f.freeCells.take (cellsNeeded b.lengths)).length } :: l) (f.takeIn b) x
  afterReset : ∀ {l : List Place} {f : FrameStore} {x : DoneFifo}, L l f x → L [] f.afterReset x
  powerOn : ∀ x : DoneFifo, L [] FrameStore.powerOn x

/-- A completion hands its cells, which no other chain holds, to the free list (R31). -/
theorem storageLaw_complete (d : Descriptor) (l : List Place) (f : FrameStore) (x x' : DoneFifo) (h : storageLaw (d.place :: l) f x) :
    storageLaw l (f.free d) x' := by
  obtain ⟨hcells, hcount, hnumbers, hdescriptors, hchains⟩ := h
  simp only [List.flatMap_cons, FrameStore.cellsAt_place] at hcells
  have hothers : ∀ p ∈ l, (f.free d).cellsAt p = f.cellsAt p := fun p hp =>
    chainFrom_congr _ _ _ _ fun a ha => nextOf_filter _ _ a fun hd => by
      have hdisjoint := List.disjoint_of_nodup_append (List.nodup_append.1 hcells).2.1
      exact hdisjoint hd (List.mem_flatMap.2 ⟨p, hp, ha⟩)
  have hflat : l.flatMap (f.free d).cellsAt = l.flatMap f.cellsAt := List.flatMap_congr hothers
  have hlength : (f.chain d).length = d.cellCount := hchains _ List.mem_cons_self
  refine ⟨?_, ?_, ?_, ?_, fun p hp => ?_⟩
  · rw [hflat]
    simpa [FrameStore.free, List.append_assoc] using hcells
  · simp only [FrameStore.free, List.length_append, hlength, List.map_cons, List.sum_cons, Descriptor.place] at hcount ⊢
    omega
  · simpa [FrameStore.free, List.append_assoc, Descriptor.place] using hnumbers
  · simp only [FrameStore.free, List.length_append, List.length_cons, List.length_nil] at hdescriptors ⊢
    omega
  · rw [hothers p hp]
    exact hchains p (List.mem_cons_of_mem _ hp)

/-- An admission takes its cells and its number from the heads of the free lists (R20, R28). -/
theorem storageLaw_takeIn (b : Bundle) (l : List Place) (f : FrameStore) (x : DoneFifo) (hnumber : f.freeDescriptors ≠ [])
    (h : storageLaw l f x) :
    storageLaw ({ number := f.freeDescriptors.headD 0, firstCell := (f.freeCells.take (cellsNeeded b.lengths)).headD 0
                  cellCount := (f.freeCells.take (cellsNeeded b.lengths)).length } :: l) (f.takeIn b) x := by
  obtain ⟨hcells, hcount, hnumbers, hdescriptors, hchains⟩ := h
  have hsplit := List.take_append_drop (cellsNeeded b.lengths) f.freeCells
  have htaken : (f.freeCells.take (cellsNeeded b.lengths)).Nodup := (List.nodup_append.1 hcells).1.sublist (List.take_sublist _ _)
  have hnew : (f.takeIn b).cellsAt
      { number := f.freeDescriptors.headD 0, firstCell := (f.freeCells.take (cellsNeeded b.lengths)).headD 0
        cellCount := (f.freeCells.take (cellsNeeded b.lengths)).length } = f.freeCells.take (cellsNeeded b.lengths) :=
    chainFrom_taken _ _ htaken
  have hothers : ∀ p ∈ l, (f.takeIn b).cellsAt p = f.cellsAt p := fun p hp =>
    chainFrom_other _ _ _ _ fun a ha htake =>
      List.disjoint_of_nodup_append hcells (List.mem_of_mem_take htake) (List.mem_flatMap.2 ⟨p, hp, ha⟩)
  have hflat : l.flatMap (f.takeIn b).cellsAt = l.flatMap f.cellsAt := List.flatMap_congr hothers
  obtain ⟨number, numbers, hfree⟩ := List.exists_cons_of_ne_nil hnumber
  refine ⟨?_, ?_, ?_, ?_, fun p hp => ?_⟩
  · rw [List.flatMap_cons, hnew, hflat]
    rw [← hsplit] at hcells
    refine (List.Perm.nodup_iff ?_).1 hcells
    rw [← List.append_assoc]
    exact List.perm_append_comm.append_right _
  · have hlength := congrArg List.length hsplit
    simp only [FrameStore.takeIn, List.map_cons, List.sum_cons, List.length_append] at hlength ⊢
    omega
  · simp only [FrameStore.takeIn, hfree, List.headD_cons, List.tail_cons, List.map_cons] at hnumbers ⊢
    exact (List.Perm.nodup_iff List.perm_middle).2 hnumbers
  · simp only [FrameStore.takeIn, hfree, List.tail_cons, List.length_cons] at hdescriptors ⊢
    omega
  · rcases List.mem_cons.1 hp with rfl | hmem
    · rw [hnew]
    · rw [hothers p hmem]
      exact hchains p hmem

/-- The free lists after a reset hold every cell and every number once (R34). -/
theorem storageLaw_empty (f : FrameStore) (x : DoneFifo) (hcells : f.freeCells = FrameStore.powerOn.freeCells)
    (hnumbers : f.freeDescriptors = FrameStore.powerOn.freeDescriptors) : storageLaw [] f x := by
  have hnodup (n : Nat) (w : Nat) (h : n ≤ 2 ^ w) : ((List.range' 0 n).map (BitVec.ofNat w)).Nodup := by
    refine (List.nodup_range' ..).map_on fun a ha b hb hab => ?_
    have ha' := (List.mem_range'_1.1 ha).2
    have hb' := (List.mem_range'_1.1 hb).2
    have := congrArg BitVec.toNat hab
    rwa [BitVec.toNat_ofNat, BitVec.toNat_ofNat, Nat.mod_eq_of_lt (by omega), Nat.mod_eq_of_lt (by omega)] at this
  refine ⟨?_, ?_, ?_, ?_, fun p hp => absurd hp List.not_mem_nil⟩
  · rw [hcells, List.flatMap_nil, List.append_nil]
    exact hnodup 4096 12 (by decide)
  · rw [hcells]
    simp [FrameStore.powerOn]
  · rw [hnumbers, List.map_nil, List.append_nil]
    exact hnodup 1024 10 (by decide)
  · rw [hnumbers]
    simp [FrameStore.powerOn]

theorem storageLaw_storeLaw : StoreLaw storageLaw where
  perm hperm h := by
    obtain ⟨hcells, hcount, hnumbers, hdescriptors, hchains⟩ := h
    refine ⟨?_, ?_, ?_, ?_, fun p hp => hchains p (hperm.mem_iff.2 hp)⟩
    · exact (List.Perm.nodup_iff ((hperm.flatMap_right _).append_left _)).1 hcells
    · rw [← hcount, (hperm.map Place.cellCount).sum_eq]
    · exact (List.Perm.nodup_iff ((hperm.map _).append_left _)).1 hnumbers
    · rw [← hdescriptors, hperm.length_eq]
  complete d l f x r h := storageLaw_complete d l f x _ h
  anyFifo _ h := h
  takeIn b hnumber h := storageLaw_takeIn b _ _ _ hnumber h
  afterReset _ := storageLaw_empty _ _ rfl rfl
  powerOn x := storageLaw_empty _ x rfl rfl

/-- The canonical form of the cells' memory, as a law of the store. -/
def memoryLaw (_ : List Place) (f : FrameStore) (_ : DoneFifo) : Prop := f.memory.wf = true

theorem memoryLaw_storeLaw : StoreLaw memoryLaw where
  perm _ h := h
  complete _ _ _ _ _ h := h
  anyFifo _ h := h
  takeIn b _ h := FrameStore.takeIn_wf _ b h
  afterReset h := h
  powerOn _ := rfl

/-! ### Admission as a case split (R23 to R28) -/

/-- A DATA frame taken is refused, or admitted to the queue that its lane names. -/
theorem State.takeData_cases (s : State) (f : LinkFrame) :
    (∃ result count, s.takeData f = s.refuse f.header result count) ∨
      ∃ q b, s.admitsFrame f q b ∧ s.takeData f = s.takeIn f.header q b := by
  classical
  unfold State.takeData
  cases hread : readBundle f.payload with
  | none => exact .inl ⟨_, _, rfl⟩
  | some b =>
    cases hlane : queueTarget f.header.lane with
    | none =>
      dsimp only
      rw [s.admissionCheck_no_queue _ b ((queueTarget_eq_none_iff _).1 hlane)]
      exact .inl ⟨_, _, rfl⟩
    | some q =>
      have hq := (queueTarget_eq_some_iff _ q).1 hlane
      dsimp only
      rw [s.admissionCheck_queue _ b q hq]
      by_cases hopen : s.admitsOn q
      case neg =>
        rw [if_pos hopen]
        exact .inl ⟨_, _, rfl⟩
      case pos =>
        rw [if_neg (not_not.2 hopen)]
        split_ifs with hdepth hrate hstore
        · exact .inl ⟨_, _, rfl⟩
        · exact .inl ⟨_, _, rfl⟩
        · exact .inl ⟨_, _, rfl⟩
        · obtain ⟨hnumber, hroom⟩ := not_or.1 hstore
          exact .inr ⟨q, b, ⟨hread, hq, hopen, Nat.lt_of_not_le hdepth, Option.isSome_iff_ne_none.2 hrate, hnumber,
            Nat.le_of_not_lt hroom⟩, rfl⟩

@[simp] theorem State.takeIn_store (s : State) (header : LaneHeader) (q : Fin 16) (b : Bundle) :
    (s.takeIn header q b).store = s.store.takeIn b := by
  unfold State.takeIn
  dsimp only
  split <;> simp

/-! ### Laws of the store over every row -/

section
variable {L : List Place → FrameStore → DoneFifo → Prop} (hL : StoreLaw L)
include hL

theorem StoreLaw.of_places {s t : State} (h : s.satisfies L) (hplaces : t.places = s.places) (hstore : t.store = s.store) :
    t.satisfies L := by
  unfold State.satisfies at h ⊢
  rw [hplaces, hstore]
  exact hL.anyFifo _ h

theorem StoreLaw.of_queues {s t : State} (h : s.satisfies L) (hqueues : t.queues = s.queues) (hstore : t.store = s.store) :
    t.satisfies L := hL.of_places h (State.places_of_queues hqueues) hstore

theorem StoreLaw.takeData (s : State) (f : LinkFrame) (h : s.satisfies L) : (s.takeData f).satisfies L := by
  have hrefused (result : DoneResult) (count : Nat) : (s.refuse f.header result count).satisfies L :=
    hL.of_places h (State.places_of_held (State.refuse_held _ _ _ _)) (by simp)
  rcases s.takeData_cases f with ⟨result, count, heq⟩ | ⟨q, b, ⟨-, -, -, -, -, hnumber, -⟩, heq⟩
  · exact heq ▸ hrefused result count
  · rw [heq]
    refine hL.perm (s.takeIn_places f.header q b).symm ?_
    rw [State.takeIn_store]
    exact hL.anyFifo _ (hL.takeIn b hnumber h)

theorem StoreLaw.partReset (s : State) (scope : ResetScope) (h : s.satisfies L) : (s.partReset scope).satisfies L := by
  unfold State.satisfies
  rw [State.partReset_places, State.partReset_store]
  exact hL.anyFifo _ (hL.afterReset h)

theorem StoreLaw.queueResponse (s : State) (h : s.satisfies L) : s.queueResponse.satisfies L :=
  s.queueResponse_induction (P := fun u => u.satisfies L) h (fun _ _ hu => hu) (fun _ _ _ hu => hu) fun u scope hu =>
    hL.partReset u scope hu

theorem StoreLaw.reset : State.reset.satisfies L := by
  unfold State.satisfies
  rw [State.reset_places]
  exact hL.powerOn _

theorem StoreLaw.eventOf (i : Instr) (s : State) (h : s.satisfies L) : (Machine.eventOf i s).satisfies L := by
  cases i with
  | powerOnReset => exact hL.reset
  | resetInputAsserted => exact hL.reset
  | dataFrame f =>
    exact s.northFrame_induction (P := fun u => u.satisfies L) 1 f _ h (fun _ => hL.of_queues h (by simp) (by simp))
      (fun u _ _ hu _ => hL.of_queues hu (by simp) (by simp)) fun u _ hu _ _ _ => hL.takeData (u.withInput .awaitHeader) f hu
  | txstat f => exact s.satisfies_txstatFrame hL.toConserved f h
  | releaseArbiterRun ready => exact hL.of_places h (s.runArbiter_places ready) (by simp [Machine.eventOf])
  | agingTimerExpiry q => exact hL.of_places h (s.agingExpired_places q) (by simp [Machine.eventOf])
  | southSyncLost => exact s.satisfies_southLost hL.toConserved h
  | responseQueued => exact hL.queueResponse s h
  | statusFrameSent =>
    exact s.statusSent_induction (P := fun u => u.satisfies L) h h (hL.queueResponse _) fun hu =>
      hL.of_queues hu (by simp) (by simp)
  | airClockAdvance => exact h
  | northSyncLost => exact hL.of_queues h (by simp [Machine.eventOf]) (by simp [Machine.eventOf])
  | northLaneHeader _ => exact hL.of_queues h (by simp [Machine.eventOf]) (by simp [Machine.eventOf])
  | dataSlotReserved => exact hL.of_queues h (by simp [Machine.eventOf]) (by simp [Machine.eventOf])
  | controlFrame _ => exact hL.of_queues h (by simp [Machine.eventOf]) (by simp [Machine.eventOf])
  | receivedFrameDiscarded _ _ => exact hL.of_queues h (by simp [Machine.eventOf]) (by simp [Machine.eventOf])
  | _ => exact hL.of_places h (State.places_of_held (eventOf_held _ s rfl rfl)) (by simp [Machine.eventOf])

omit hL in
theorem State.satisfies_forQueues (s : State) (qs : List (Fin 16)) (f : State → Fin 16 → State)
    (hf : ∀ (u : State) (q : Fin 16), u.satisfies L → (f u q).satisfies L) (h : s.satisfies L) : (s.forQueues qs f).satisfies L :=
  qs.foldlRecOn (motive := fun u : State => u.satisfies L) f h fun u hu q _ => hf u q hu

theorem StoreLaw.drainOne (s : State) (q : Fin 16) (h : s.satisfies L) : (s.drainOne q).satisfies L := by
  unfold State.drainOne
  split
  · exact s.satisfies_drain hL.toConserved q h
  · exact h

theorem StoreLaw.actOf (i : Instr) (s : State) (h : s.satisfies L) : (Machine.actOf i s).1.satisfies L := by
  cases i with
  | openQueue target data =>
    simp only [Machine.actOf]
    split
    · exact hL.of_places h (by simp) (by simp)
    · exact h
  | pauseQueue target _ => exact s.satisfies_forQueues _ _ (fun u q hu => hL.of_places hu (by simp) (by simp)) h
  | resumeQueue target _ => exact s.satisfies_forQueues _ _ (fun u q hu => hL.of_places hu (by simp) (by simp)) h
  | drainQueue target _ => exact s.satisfies_forQueues _ _ hL.drainOne h
  | clearQueueFlags target data =>
    exact hL.of_places h (State.places_of_held (actOf_held _ s rfl)) (s.forQueues_keeps State.store _ _ (by simp))
  | _ => exact hL.of_places h (State.places_of_held (actOf_held _ s rfl)) (by (simp only [Machine.actOf]; repeat' split) <;> simp)

theorem StoreLaw.step (s t : State) (hstep : Machine.step s = .next t) (h : s.satisfies L) : t.satisfies L :=
  step_invariant (P := fun u => u.satisfies L) (fun _ _ hu => hu) (fun _ _ hu => hu) hL.eventOf (fun i u _ hu => hL.actOf i u hu)
    s t hstep h

end

/-- Settles O52: admission takes from the free lists, completion returns to them, and everything else leaves store and places. -/
theorem storageIsNeverLost : Obligations.StorageIsNeverLost :=
  ⟨fun s t h hstep => (t.storageLawful_iff).2 (storageLaw_storeLaw.step s t hstep ((s.storageLawful_iff).1 h)),
    fun s t h hstep => memoryLaw_storeLaw.step s t hstep h⟩

end Sys2Proof.Machine

/-! PROOFS. The laws of the queues and of the outstanding releases (R22, R37, R38, R43, R46, R79, R81, R85, R93). -/

namespace Sys2Proof.Machine

/-! ### A queue's law does not read the marks of judging -/

theorem Descriptor.lawful_bare (retry : Nat) (d : Descriptor) : d.bare.lawful retry ↔ d.lawful retry := Iff.rfl

theorem Queue.lawful_bare (q : Fin 16) (x : Queue) : x.bare.lawful q ↔ x.lawful q := by
  unfold Queue.lawful Queue.bare
  dsimp only
  have hsplit : (∃ d, x.descriptors.map Descriptor.bare = [d] ∧ d.outstanding.isSome = true) ↔
      ∃ d, x.descriptors = [d] ∧ d.outstanding.isSome = true := by
    cases x.descriptors with
    | nil => simp
    | cons d rest => simp [Descriptor.bare, and_comm]
  have htail : (x.descriptors.map Descriptor.bare).tail = x.descriptors.tail.map Descriptor.bare := List.map_tail.symm
  rw [hsplit, htail]
  simp only [List.map_eq_nil_iff, List.forall_mem_map, Descriptor.lawful_bare, ne_eq]
  rfl

/-! ### What the head of a queue has out (R22, R78) -/

/-- The ordinals of a descriptor's OUT entries. -/
def Descriptor.outOrdinals (d : Descriptor) : List Nat := (d.subframes.filter fun x => x.state == .out).map Subframe.ordinal

/-- The release that a descriptor has out: its id, the descriptor's number and the ordinals it includes. -/
def Descriptor.released (d : Descriptor) : Option (BitVec 8 × BitVec 10 × List Nat) :=
  d.outstanding.map fun id => (id, d.number, d.outOrdinals)

/-- The release that the head of a queue has out. -/
def Queue.released (x : Queue) : Option (BitVec 8 × BitVec 10 × List Nat) := x.head.bind Descriptor.released

theorem Queue.released_of_cons (x : Queue) (d : Descriptor) (rest : List Descriptor) (h : x.descriptors = d :: rest) :
    x.released = d.released := by
  simp [Queue.released, x.head_of_cons d rest h]

theorem Queue.released_eq_none (x : Queue) (h : ∀ d ∈ x.descriptors, d.outstanding = none) : x.released = none := by
  cases hlist : x.descriptors with
  | nil => simp [Queue.released, Queue.head, hlist]
  | cons d rest =>
    rw [x.released_of_cons d rest hlist]
    simp [Descriptor.released, h d (by simp [hlist])]

theorem Queue.released_bare (x : Queue) : x.bare.released = x.released := by
  cases hlist : x.descriptors with
  | nil => simp [Queue.released, Queue.head, Queue.bare, hlist]
  | cons d rest =>
    rw [x.released_of_cons d rest hlist, Queue.released_of_cons x.bare d.bare (rest.map Descriptor.bare) (by simp [Queue.bare, hlist])]
    rfl

/-- The law of the outstanding table against what the heads have out. -/
def tableLaw (released : Fin 16 → Option (BitVec 8 × BitVec 10 × List Nat)) (table : List Outstanding) : Prop :=
  table.length ≤ 2 ∧ (table.map Outstanding.id).Nodup ∧ (table.map Outstanding.queue).Nodup
    ∧ (∀ e ∈ table, released e.queue = some (e.id, e.descriptor, e.ordinals) ∧ e.ordinals ≠ [])
    ∧ ∀ q r, released q = some r → ∃ e ∈ table, e.queue = q ∧ e.id = r.1

theorem State.tableLawful_iff (s : State) : s.tableLawful ↔ tableLaw (fun q => (s.queue q).released) s.gate.table := by
  unfold State.tableLawful tableLaw
  have hentry (e : Outstanding) :
      (∃ d, (s.queue e.queue).head = some d ∧ d.outstanding = some e.id ∧ d.number = e.descriptor
        ∧ (d.subframes.filter fun x => x.state == .out).map Subframe.ordinal = e.ordinals ∧ e.ordinals ≠ []) ↔
      (s.queue e.queue).released = some (e.id, e.descriptor, e.ordinals) ∧ e.ordinals ≠ [] := by
    simp only [Queue.released, Descriptor.released, Descriptor.outOrdinals, Option.bind_eq_some_iff, Option.map_eq_some_iff, Prod.mk.injEq]
    constructor
    · rintro ⟨d, hd, hid, hnumber, hout, hne⟩
      exact ⟨⟨d, hd, e.id, hid, rfl, hnumber, hout⟩, hne⟩
    · rintro ⟨⟨d, hd, id, hid, rfl, hnumber, hout⟩, hne⟩
      exact ⟨d, hd, hid, hnumber, hout, hne⟩
  have hhead (q : Fin 16) : (∀ (d : Descriptor) (id : BitVec 8), (s.queue q).head = some d → d.outstanding = some id →
        ∃ e ∈ s.gate.table, e.queue = q ∧ e.id = id) ↔
      ∀ r, (s.queue q).released = some r → ∃ e ∈ s.gate.table, e.queue = q ∧ e.id = r.1 := by
    simp only [Queue.released, Descriptor.released, Option.bind_eq_some_iff, Option.map_eq_some_iff]
    constructor
    · rintro h r ⟨d, hd, id, hid, rfl⟩
      exact h d id hd hid
    · intro h d id hd hid
      exact h (id, d.number, d.outOrdinals) ⟨d, hd, id, hid, rfl⟩
  simp only [hentry, hhead]

/-- The table law reads of each entry its id, its queue, its descriptor and its ordinals. -/
theorem tableLaw_bare (released : Fin 16 → Option (BitVec 8 × BitVec 10 × List Nat)) (table : List Outstanding) :
    tableLaw released (table.map Outstanding.bare) ↔ tableLaw released table := by
  have hids : Outstanding.id ∘ Outstanding.bare = Outstanding.id := rfl
  have hqueues : Outstanding.queue ∘ Outstanding.bare = Outstanding.queue := rfl
  simp only [tableLaw, List.length_map, List.map_map, hids, hqueues, List.forall_mem_map]
  simp only [List.mem_map, exists_exists_and_eq_and, Outstanding.bare]

/-- The laws read nothing but what judging leaves. -/
theorem State.releasesLawful_of_held {s t : State} (h : s.releasesLawful) (hheld : t.held = s.held) : t.releasesLawful := by
  obtain ⟨hqueues, htable⟩ := h
  have hbare := State.bare_queue_of_held hheld
  have hreleased : (fun q => (t.queue q).released) = fun q => (s.queue q).released := by
    funext q
    rw [← Queue.released_bare, hbare q, Queue.released_bare]
  refine ⟨fun q => (Queue.lawful_bare q _).1 (hbare q ▸ (Queue.lawful_bare q _).2 (hqueues q)), (t.tableLawful_iff).2 ?_⟩
  rw [hreleased, ← tableLaw_bare, State.table_of_held hheld, tableLaw_bare]
  exact (s.tableLawful_iff).1 htable

theorem State.releasesLawful_of_queues {s t : State} (h : s.releasesLawful) (hqueues : t.queues = s.queues)
    (htable : t.gate.table = s.gate.table) : t.releasesLawful := by
  have hqueue (q : Fin 16) : t.queue q = s.queue q := by simp [State.queue, hqueues]
  refine ⟨fun q => hqueue q ▸ h.1 q, (t.tableLawful_iff).2 ?_⟩
  simp only [hqueue, htable]
  exact (s.tableLawful_iff).1 h.2

/-- A queue changed within its law, its head's release as before. -/
theorem State.releasesLawful_of_queue {s t : State} (q : Fin 16) (h : s.releasesLawful) (hother : ∀ p, q ≠ p → t.queue p = s.queue p)
    (hlawful : (t.queue q).lawful q) (hreleased : (t.queue q).released = (s.queue q).released) (htable : t.gate.table = s.gate.table) :
    t.releasesLawful := by
  have hall : (fun p => (t.queue p).released) = fun p => (s.queue p).released := by
    funext p
    by_cases hp : q = p
    case pos => exact hp ▸ hreleased
    case neg => rw [hother p hp]
  refine ⟨fun p => ?_, (t.tableLawful_iff).2 ?_⟩
  · by_cases hp : q = p
    case pos => exact hp ▸ hlawful
    case neg => rw [hother p hp]; exact h.1 p
  · rw [hall, htable]
    exact (s.tableLawful_iff).1 h.2

/-! ### The table as releases come and go -/

theorem tableLaw_empty (released : Fin 16 → Option (BitVec 8 × BitVec 10 × List Nat)) (h : ∀ q, released q = none) : tableLaw released [] :=
  ⟨Nat.zero_le _, List.nodup_nil, List.nodup_nil, fun _ he => absurd he List.not_mem_nil, fun q r hr => absurd hr (by simp [h q])⟩

/-- A release resolved leaves the table, and its queue's head has nothing out (R93). -/
theorem tableLaw_unlist {released released' : Fin 16 → Option (BitVec 8 × BitVec 10 × List Nat)} {table : List Outstanding}
    (e : Outstanding) (h : tableLaw released table) (he : e ∈ table) (hnone : released' e.queue = none)
    (hother : ∀ q, e.queue ≠ q → released' q = released q) : tableLaw released' (table.filter fun x => x.id != e.id) := by
  obtain ⟨hlength, hids, hqueues, hentries, hheads⟩ := h
  have hqueue {x : Outstanding} (hx : x ∈ table) (hid : x.id ≠ e.id) : e.queue ≠ x.queue := fun heq =>
    hid (congrArg Outstanding.id (List.inj_on_of_nodup_map hqueues hx he heq.symm))
  refine ⟨(List.length_filter_le _ _).trans hlength, hids.sublist (List.filter_sublist.map _), hqueues.sublist (List.filter_sublist.map _),
    fun x hx => ?_, fun q r hr => ?_⟩
  · obtain ⟨hmem, hid⟩ := List.mem_filter.1 hx
    rw [hother _ (hqueue hmem (by simpa using hid))]
    exact hentries x hmem
  · have hq : e.queue ≠ q := fun heq => by simp [← heq, hnone] at hr
    obtain ⟨x, hx, hxq, hxid⟩ := hheads q r (hother q hq ▸ hr)
    refine ⟨x, List.mem_filter.2 ⟨hx, ?_⟩, hxq, hxid⟩
    have hne : x.id ≠ e.id := fun heq => hq ((congrArg Outstanding.queue (List.inj_on_of_nodup_map hids hx he heq)).symm.trans hxq)
    simpa using hne

/-- A release decided joins the table under an id and a queue that no entry holds (R78, R81). -/
theorem tableLaw_append {released released' : Fin 16 → Option (BitVec 8 × BitVec 10 × List Nat)} {table : List Outstanding}
    (e : Outstanding) (h : tableLaw released table) (hroom : table.length < 2) (hid : ∀ x ∈ table, x.id ≠ e.id)
    (hfree : released e.queue = none) (hnew : released' e.queue = some (e.id, e.descriptor, e.ordinals)) (hsome : e.ordinals ≠ [])
    (hother : ∀ q, e.queue ≠ q → released' q = released q) : tableLaw released' (table ++ [e]) := by
  obtain ⟨hlength, hids, hqueues, hentries, hheads⟩ := h
  have hqueue : ∀ x ∈ table, e.queue ≠ x.queue := fun x hx heq => by
    have hx' := (hentries x hx).1
    rw [← heq, hfree] at hx'
    exact absurd hx' (by simp)
  refine ⟨by simpa using hroom, ?_, ?_, fun x hx => ?_, fun q r hr => ?_⟩
  · rw [List.map_append, List.nodup_append]
    refine ⟨hids, by simp, fun a ha b hb heq => ?_⟩
    obtain ⟨x, hx, rfl⟩ := List.mem_map.1 ha
    exact hid x hx (heq.trans (by simpa using hb))
  · rw [List.map_append, List.nodup_append]
    refine ⟨hqueues, by simp, fun a ha b hb heq => ?_⟩
    obtain ⟨x, hx, rfl⟩ := List.mem_map.1 ha
    exact hqueue x hx (by simpa using (heq.trans (by simpa using hb)).symm)
  · rcases List.mem_append.1 hx with hold | hlast
    · rw [hother _ (hqueue x hold)]
      exact hentries x hold
    · obtain rfl : x = e := by simpa using hlast
      exact ⟨hnew, hsome⟩
  · by_cases hq : e.queue = q
    case pos =>
      rw [← hq, hnew] at hr
      exact ⟨e, by simp, hq, by rw [← Option.some.inj hr]⟩
    case neg =>
      obtain ⟨x, hx, hxq, hxid⟩ := hheads q r (hother q hq ▸ hr)
      exact ⟨x, List.mem_append_left _ hx, hxq, hxid⟩

/-! ### A resolved release's queue (R90 to R93) -/

section
variable (q : Fin 16) (x : Queue) (d : Descriptor) (rest : List Descriptor)

/-- What a queue's law says of a queue with an outstanding head. -/
theorem Queue.lawful_outstanding (h : x.lawful q) (hlist : x.descriptors = d :: rest) :
    x.state ≠ .closed ∧ (x.state = .draining → rest = []) ∧ (∀ y ∈ rest, y.outstanding = none)
      ∧ (x.aging.isSome = true → x.state = .opened) ∧ d.queue = q ∧ d.lawful x.config.retry
      ∧ ∀ y ∈ rest, y.queue = q ∧ y.lawful x.config.retry := by
  obtain ⟨hclosed, hdraining, htail, haging, hall⟩ := h
  rw [hlist] at hclosed hdraining htail hall
  refine ⟨fun hc => absurd (hclosed hc) (List.cons_ne_nil _ _), fun hd => ?_, htail, fun ha => (haging ha).1,
    (hall d List.mem_cons_self).1, (hall d List.mem_cons_self).2, fun y hy => hall y (List.mem_cons_of_mem _ hy)⟩
  obtain ⟨d', hd', -⟩ := hdraining hd
  exact (List.cons.inj hd').2

/-- A head that stays, its release resolved. -/
theorem Queue.lawful_withHead (h : x.lawful q) (hlist : x.descriptors = d :: rest) (d' : Descriptor) (dropped : Bool)
    (hstate : x.state ≠ .draining) (hqueue : d'.queue = q) (hd' : d'.lawful x.config.retry) :
    ({ x with descriptors := d' :: rest, droppedFlag := dropped } : Queue).lawful q := by
  obtain ⟨hclosed, -, hrest, haging, -, -, hlawful⟩ := x.lawful_outstanding q d rest h hlist
  refine ⟨fun hc => absurd hc hclosed, fun hd => absurd hd hstate, hrest, fun ha => ⟨haging ha, List.cons_ne_nil _ _⟩, fun y hy => ?_⟩
  rcases List.mem_cons.1 hy with rfl | hmem
  · exact ⟨hqueue, hd'⟩
  · exact hlawful y hmem

/-- A head completed: the next descriptor becomes head, with its aging started (R31, R46). -/
theorem Queue.lawful_afterHead (h : x.lawful q) (hlist : x.descriptors = d :: rest) (dropped : Bool) (now : Instant)
    (hstate : x.state ≠ .draining) :
    (Queue.startAging { x with descriptors := rest, droppedFlag := dropped } now).lawful q := by
  obtain ⟨hclosed, -, hrest, -, -, -, hlawful⟩ := x.lawful_outstanding q d rest h hlist
  refine ⟨fun hc => absurd hc hclosed, fun hd => absurd hd hstate, fun y hy => hrest y (List.mem_of_mem_tail hy), fun ha => ?_, hlawful⟩
  by_cases hopen : (x.state == .opened && !rest.isEmpty) = true
  case pos =>
    rw [Bool.and_eq_true, beq_iff_eq, Bool.not_eq_true', List.isEmpty_eq_false_iff] at hopen
    exact hopen
  case neg => simp [Queue.startAging, hopen] at ha

/-- A drained queue, closed and empty (R43). -/
theorem Queue.lawful_closed (x : Queue) (hstate : x.state = .closed) (hlist : x.descriptors = []) (haging : x.aging = none) :
    x.lawful q := by
  refine ⟨fun _ => hlist, fun hd => ?_, ?_, fun ha => ?_, ?_⟩
  · exact absurd (hstate.symm.trans hd) (by decide)
  · simp [hlist]
  · simp [haging] at ha
  · simp [hlist]

end

/-- The resolution of a listed release, whose queue's head has been changed by its result (R93). -/
theorem State.settle_releasesLawful (s s' : State) (e : Outstanding) (d d' : Descriptor) (rest : List Descriptor) (dropped : Bool)
    (h : s.releasesLawful) (he : e ∈ s.gate.table) (hlist : (s.queue e.queue).descriptors = d :: rest)
    (hqueue : s'.queue e.queue = { s.queue e.queue with descriptors := d' :: rest, droppedFlag := dropped })
    (hother : ∀ p, e.queue ≠ p → s'.queue p = s.queue p) (hgate : s'.gate = s.gate) (hof : d'.queue = d.queue)
    (hout : d'.outstanding = none) (hd' : d'.unfinished = true → d'.lawful (s.queue e.queue).config.retry) :
    (s'.settle e).releasesLawful := by
  obtain ⟨hqueues, htable⟩ := h
  obtain ⟨-, hdrained, hrest, -, hq, -, -⟩ := (s.queue e.queue).lawful_outstanding e.queue d rest (hqueues _) hlist
  have hlist' : (s'.queue e.queue).descriptors = d' :: rest := by rw [hqueue]
  have hhead' := Queue.head_of_cons _ d' rest hlist'
  have hstate : (s'.queue e.queue).state = (s.queue e.queue).state := by rw [hqueue]
  have hfinish := (s'.unlist e).queue_finishHead_self e.queue d' rest hlist'
  rw [s'.queue_unlist e, hqueue] at hfinish
  have hresult : ((s'.settle e).queue e.queue).lawful e.queue ∧ ((s'.settle e).queue e.queue).released = none := by
    rcases s'.settle_cases e with ⟨hstays, heq⟩ | ⟨d'', hd'', hnot, hfinished, heq⟩ | ⟨hdraining, heq⟩
    · obtain ⟨hnot, hunfinished⟩ := hstays d' hhead'
      rw [heq, State.queue_reevaluate_self, State.queue_unlist, hqueue]
      refine ⟨Queue.lawful_withHead e.queue (s.queue e.queue) d rest (hqueues _) hlist d' dropped (hstate ▸ hnot) (hof.trans hq)
        (hd' hunfinished), Queue.released_eq_none _ fun y hy => ?_⟩
      rcases List.mem_cons.1 hy with rfl | hmem
      · exact hout
      · exact hrest y hmem
    · rw [heq, State.queue_reevaluate_self, hfinish]
      exact ⟨Queue.lawful_afterHead e.queue (s.queue e.queue) d rest (hqueues _) hlist dropped _ (hstate ▸ hnot),
        Queue.released_eq_none _ fun y hy => hrest y hy⟩
    · rw [heq, State.queue_reevaluate_self, State.queue_closeDrained_self, hfinish]
      have hempty := hdrained (hstate ▸ hdraining)
      exact ⟨Queue.lawful_closed e.queue _ rfl hempty rfl, Queue.released_eq_none _ fun y hy => hrest y hy⟩
  refine ⟨fun p => ?_, (State.tableLawful_iff _).2 ?_⟩
  · by_cases hp : e.queue = p
    case pos => exact hp ▸ hresult.1
    case neg => rw [s'.queue_settle_other e p hp, hother p hp]; exact hqueues p
  · rw [State.settle_gate, State.unlist, hgate]
    refine tableLaw_unlist e ((s.tableLawful_iff).1 htable) he hresult.2 fun p hp => ?_
    rw [s'.queue_settle_other e p hp, hother p hp]

/-- The head of a listed release's queue. -/
theorem State.releasesLawful_head (s : State) (e : Outstanding) (h : s.releasesLawful) (he : e ∈ s.gate.table) :
    ∃ d rest, (s.queue e.queue).descriptors = d :: rest := by
  obtain ⟨-, -, -, -, htable, -⟩ := h
  obtain ⟨d, hd, -⟩ := htable e he
  cases hlist : (s.queue e.queue).descriptors with
  | nil => simp [Queue.head, hlist] at hd
  | cons d rest => exact ⟨d, rest, rfl⟩

/-- No entry of an outstanding head is OUT once the result has reached every included ordinal, and what stays PENDING may be sent again. -/
theorem Descriptor.lawful_mapped (retry : Nat) (d d' : Descriptor) (f : Subframe → Subframe) (h : d.lawful retry)
    (hlist : d'.subframes = d.subframes.map f) (hordinal : ∀ y, (f y).ordinal = y.ordinal)
    (hentry : ∀ y ∈ d.subframes, (f y).lawful retry ∧ (f y).state ≠ .out) (hunfinished : d'.unfinished = true) : d'.lawful retry := by
  obtain ⟨hordinals, hlength, -, -⟩ := h
  have hcomp : Subframe.ordinal ∘ f = Subframe.ordinal := funext hordinal
  refine ⟨by rw [hlist, List.map_map, hcomp, List.length_map, hordinals], by rw [hlist, List.length_map]; exact hlength, ?_, fun _ => ⟨?_, ?_⟩⟩
  · rw [hlist, List.forall_mem_map]
    exact fun y hy => (hentry y hy).1
  · rw [hlist, List.forall_mem_map]
    exact fun y hy => (hentry y hy).2
  · obtain ⟨y, hy, hstate⟩ := List.any_eq_true.1 hunfinished
    refine ⟨y, hy, ?_⟩
    rw [hlist] at hy
    obtain ⟨z, hz, rfl⟩ := List.mem_map.1 hy
    rw [Bool.or_eq_true, beq_iff_eq, beq_iff_eq] at hstate
    exact hstate.resolve_right (hentry z hz).2

section
variable (s : State) (e : Outstanding) (h : s.releasesLawful) (he : e ∈ s.gate.table)
include h he

/-- An entry of an outstanding head that the release does not include is not OUT. -/
theorem State.not_out_of_not_included (d : Descriptor) (rest : List Descriptor) (hlist : (s.queue e.queue).descriptors = d :: rest)
    (y : Subframe) (hy : y ∈ d.subframes) (hout : ¬ y.ordinal ∈ e.ordinals) : y.state ≠ .out := fun hstate => by
  obtain ⟨hordinals, -, -⟩ := s.outstanding_head e d rest h he hlist
  exact hout (hordinals ▸ List.mem_map_of_mem (List.mem_filter.2 ⟨hy, by simp [hstate]⟩))

theorem State.resolveSent_releasesLawful (acks : List Bool) : (s.resolveSent acks e).releasesLawful := by
  obtain ⟨d, rest, hlist⟩ := s.releasesLawful_head e h he
  rw [s.resolveSent_eq acks e d rest hlist]
  have hqueue := s.queue_withSentHead acks e d rest hlist
  obtain ⟨-, -, -, -, -, hd, -⟩ := (s.queue e.queue).lawful_outstanding e.queue d rest (h.1 _) hlist
  refine s.settle_releasesLawful _ e d _ rest _ h he hlist hqueue (fun p hp => s.queue_withSentHead_other acks e d p hp) (by simp)
    rfl rfl fun hunfinished => ?_
  refine Descriptor.lawful_mapped _ d _ _ hd rfl (fun y => ?_) (fun y hy => ?_) hunfinished
  · unfold Subframe.applySent
    split <;> rfl
  · obtain ⟨-, -, hentries, -⟩ := hd
    obtain ⟨hmin, hmax, hattempts, hpending⟩ := hentries y hy
    unfold Subframe.applySent
    split
    case isTrue =>
      dsimp only
      refine ⟨⟨hmin, hmax, hattempts, fun hstate => ?_⟩, ?_⟩
      · split_ifs at hstate with hack hdrop
        exact Nat.le_of_not_lt hdrop
      · split_ifs <;> simp
    case isFalse hnot => exact ⟨⟨hmin, hmax, hattempts, hpending⟩, s.not_out_of_not_included e h he d rest hlist y hy (by simpa using hnot)⟩

theorem State.resolveUnsent_releasesLawful : (s.resolveUnsent e).releasesLawful := by
  obtain ⟨d, rest, hlist⟩ := s.releasesLawful_head e h he
  rw [s.resolveUnsent_eq e]
  have hqueue := s.queue_withUnsentHead e d rest hlist
  obtain ⟨-, -, -, -, -, hd, -⟩ := (s.queue e.queue).lawful_outstanding e.queue d rest (h.1 _) hlist
  refine s.settle_releasesLawful _ e d _ rest (s.queue e.queue).droppedFlag h he hlist hqueue
    (fun p hp => s.queue_withUnsentHead_other e p hp) rfl rfl rfl fun hunfinished => ?_
  refine Descriptor.lawful_mapped _ d _ _ hd rfl (fun y => ?_) (fun y hy => ?_) hunfinished
  · unfold Subframe.applyUnsent
    split <;> rfl
  · obtain ⟨-, -, hentries, -⟩ := hd
    obtain ⟨hmin, hmax, hattempts, hpending⟩ := hentries y hy
    unfold Subframe.applyUnsent
    split
    case isTrue => exact ⟨⟨hmin, hmax, by dsimp only; omega, fun _ => by dsimp only; omega⟩, by simp⟩
    case isFalse hnot => exact ⟨⟨hmin, hmax, hattempts, hpending⟩, s.not_out_of_not_included e h he d rest hlist y hy (by simpa using hnot)⟩

omit he in
/-- At the loss of the link each release still listed is resolved in turn (R97). -/
theorem State.resolveEach_releasesLawful (table : List Outstanding) (htable : s.gate.table = table) :
    (table.foldl (fun s e => s.resolveSent [] e) s).releasesLawful
      ∧ (table.foldl (fun s e => s.resolveSent [] e) s).gate.table = [] := by
  induction table generalizing s with
  | nil => exact ⟨h, htable⟩
  | cons e rest ih =>
    have he : e ∈ s.gate.table := htable ▸ List.mem_cons_self
    refine ih (s.resolveSent [] e) (s.resolveSent_releasesLawful e h he []) ?_
    obtain ⟨d, others, hlist⟩ := s.releasesLawful_head e h he
    obtain ⟨hgate, -, -⟩ := s.resolveSent_unlists [] e d others hlist
    obtain ⟨-, -, hids, -⟩ := h
    rw [htable, List.map_cons, List.nodup_cons] at hids
    rw [hgate, State.unlist, htable]
    simp only [List.filter_cons, bne_self_eq_false, Bool.false_eq_true, if_false]
    refine List.filter_eq_self.2 fun x hx => ?_
    have hne : x.id ≠ e.id := fun heq => hids.1 (heq ▸ List.mem_map_of_mem hx)
    simpa using hne

end

theorem State.applyTxStat_releasesLawful (s : State) (x : TxStat) (h : s.releasesLawful) : (s.applyTxStat x).releasesLawful := by
  unfold State.applyTxStat
  split
  case h_1 => exact State.releasesLawful_of_held h (by simp)
  case h_2 e hmatch =>
    have he : e ∈ s.gate.table := by
      unfold State.matchTxStat at hmatch
      split at hmatch
      · exact absurd hmatch (by simp)
      · exact List.mem_of_find?_eq_some hmatch
    split
    · have hflag : (s.setFlagIf (x.malformedFor e) .linkError).releasesLawful := State.releasesLawful_of_held h (by simp)
      exact State.resolveSent_releasesLawful _ e hflag (by simpa using he) _
    · exact s.resolveUnsent_releasesLawful e h he
    · exact s.resolveUnsent_releasesLawful e h he

theorem State.southLost_releasesLawful (s : State) (h : s.releasesLawful) : s.southLost.releasesLawful := by
  unfold State.southLost
  split
  case isFalse => exact h
  case isTrue =>
    extract_lets l s₁ s₂ s₃
    have h₂ : s₂.releasesLawful := (State.resolveEach_releasesLawful s₁ h s₁.gate.table rfl).1
    have h₃ : s₃.releasesLawful := by
      simp only [s₃]
      split
      · exact h₂
      · exact State.releasesLawful_of_held h₂ (by simp)
    exact State.releasesLawful_of_held h₃ (by simp)

end Sys2Proof.Machine

namespace Sys2Proof.Machine

/-! ### What an offer says (R49, R74 to R76) -/

theorem State.offer_eq_some_iff (s : State) (q : Fin 16) (d : Descriptor) (r : Rate) (v : Verdict) :
    s.offer q = some (d, r, v) ↔ (s.queue q).head = some d ∧ s.rate d.rate = some r ∧ (s.queue q).state = .opened
      ∧ d.outstanding = none ∧ s.south.radio.isOn = true ∧ d.pendingEntries ≠ [] ∧ s.judge (s.queue q) d r = some v := by
  unfold State.offer
  dsimp only
  cases hhead : (s.queue q).head with
  | none => simp
  | some d' =>
    dsimp only
    cases hrate : s.rate d'.rate with
    | none =>
      simp only [reduceCtorEq, Option.some.injEq, false_iff]
      rintro ⟨rfl, hr, -⟩
      exact absurd (hrate.symm.trans hr) (by simp)
    | some r' =>
      dsimp only
      split
      case isTrue hall =>
        simp only [Bool.and_eq_true, beq_iff_eq, Option.isNone_iff_eq_none, Bool.not_eq_true', List.isEmpty_eq_false_iff] at hall
        obtain ⟨⟨⟨hopen, hfree⟩, hon⟩, hpending⟩ := hall
        simp only [Option.map_eq_some_iff, Prod.mk.injEq, Option.some.injEq]
        constructor
        · rintro ⟨v', hv, rfl, rfl, rfl⟩
          exact ⟨rfl, hrate, hopen, hfree, hon, hpending, hv⟩
        · rintro ⟨rfl, hr, -, -, -, -, hv⟩
          exact ⟨v, Option.some.inj (hrate.symm.trans hr) ▸ hv, rfl, Option.some.inj (hrate.symm.trans hr), rfl⟩
      case isFalse hnot =>
        simp only [reduceCtorEq, Option.some.injEq, false_iff]
        rintro ⟨rfl, -, hopen, hfree, hon, hpending, -⟩
        exact hnot (by simp [hopen, hfree, hon, hpending])

/-- The largest fit is at least 1 when one subframe fits (R74). -/
theorem Descriptor.largestFit_pos (d : Descriptor) (r : Rate) (ack W n : Nat) (hone : d.required r ack 1 ≤ W) (hn : 1 ≤ n) :
    1 ≤ d.largestFit r ack W n := by
  induction n with
  | zero => exact absurd hn (by decide)
  | succ n ih =>
    unfold Descriptor.largestFit
    split
    case isTrue => exact Nat.succ_pos n
    case isFalse hnot =>
      refine ih (Nat.pos_of_ne_zero fun hzero => hnot ?_)
      rw [hzero]
      exact hone

/-- A head that can be released carries a subframe. -/
theorem State.judge_count_pos (s : State) (x : Queue) (d : Descriptor) (r : Rate) (v : Verdict) (hpending : d.pendingEntries ≠ [])
    (h : s.judge x d r = some v) : 1 ≤ v.count := by
  have hlength : 1 ≤ d.pendingEntries.length := List.length_pos_iff.2 hpending
  have hungated (h : s.judgeUngated d = some v) : 1 ≤ v.count := by
    unfold State.judgeUngated at h
    split at h
    · exact absurd h (by simp)
    · rw [← Option.some.inj h]
      exact hlength
  have hgated (W : Nat) (h : judgeGated x d r W = some v) : 1 ≤ v.count := by
    unfold judgeGated at h
    split_ifs at h with hfits
    · rw [← Option.some.inj h]
      exact d.largestFit_pos r x.config.ack W _ hfits hlength
    · rw [← Option.some.inj h]
  unfold State.judge at h
  split at h
  · exact absurd h (by simp)
  · exact hungated h
  · split at h
    · exact hungated h
    · exact absurd h (by simp)
  · split at h
    · exact hungated h
    · split at h
      · exact hgated _ h
      · exact absurd h (by simp)

/-! ### A release decision (R78 to R81) -/

/-- A list without repetition, filtered by membership in a sublist of it. -/
theorem filter_contains_of_sublist {l' l : List Nat} (h : l'.Sublist l) (hnodup : l.Nodup) : l.filter l'.contains = l' := by
  induction h with
  | slnil => rfl
  | @cons l₁ l₂ a hsub ih =>
    obtain ⟨ha, hl⟩ := List.nodup_cons.1 hnodup
    have hnot : l₁.contains a = false := by simpa using fun hmem => ha (hsub.subset hmem)
    rw [List.filter_cons, hnot, if_neg Bool.false_ne_true, ih hl]
  | @cons_cons l₁ l₂ a hsub ih =>
    obtain ⟨ha, hl⟩ := List.nodup_cons.1 hnodup
    have hrest : l₂.filter (a :: l₁).contains = l₂.filter l₁.contains := List.filter_congr fun x hx => by
      have hne : x ≠ a := fun e => ha (e ▸ hx)
      simp [hne]
    have hin : (a :: l₁).contains a = true := by simp
    rw [List.filter_cons, hin, if_pos rfl, hrest, ih hl]

section
variable (retry : Nat) (d : Descriptor) (h : d.lawful retry) (k : Nat)
include h

theorem Descriptor.ordinals_nodup : (d.subframes.map Subframe.ordinal).Nodup := h.1 ▸ List.nodup_range

omit h in
/-- The included ordinals are a part of the list's, in its order. -/
theorem Descriptor.included_sublist : (d.included k).Sublist (d.subframes.map Subframe.ordinal) :=
  ((List.take_sublist k _).trans List.filter_sublist).map _

/-- An included entry is PENDING. -/
theorem Descriptor.pending_of_included (y : Subframe) (hy : y ∈ d.subframes) (hin : y.ordinal ∈ d.included k) : y.state = .pending := by
  obtain ⟨z, hz, hzy⟩ := List.mem_map.1 hin
  obtain ⟨hzd, hzp⟩ := List.mem_filter.1 (List.mem_of_mem_take hz)
  obtain rfl := List.inj_on_of_nodup_map (d.ordinals_nodup retry h) hzd hy hzy
  exact beq_iff_eq.1 hzp

/-- After the decision the OUT entries are the included ones (R78, R79). -/
theorem Descriptor.outOrdinals_release (hfree : d.outstanding = none) (id : BitVec 8) (forced : Bool) :
    (d.release id (d.included k) forced).outOrdinals = d.included k := by
  have ⟨_, _, _, hidle⟩ := h
  have hout : ∀ y ∈ d.subframes, ((Subframe.release (d.included k) y).state == .out) = (d.included k).contains y.ordinal := by
    intro y hy
    have hnot := (hidle hfree).1 y hy
    unfold Subframe.release
    split
    case isTrue hin => exact hin.symm
    case isFalse hin =>
      have hne : (y.state == .out) = false := by simpa using hnot
      rw [hne]
      exact (Bool.not_eq_true _ ▸ hin).symm
  have hordinal : Subframe.ordinal ∘ Subframe.release (d.included k) = Subframe.ordinal := by
    funext y
    simp only [Function.comp, Subframe.release]
    split <;> rfl
  calc (d.release id (d.included k) forced).outOrdinals
      = ((d.subframes.map (Subframe.release (d.included k))).filter fun y => y.state == .out).map Subframe.ordinal := rfl
    _ = (d.subframes.filter fun y => (d.included k).contains y.ordinal).map Subframe.ordinal := by
        rw [List.filter_map, List.map_map, hordinal]
        exact congrArg (List.map Subframe.ordinal) (List.filter_congr hout)
    _ = (d.subframes.map Subframe.ordinal).filter (d.included k).contains := by rw [List.filter_map]; rfl
    _ = d.included k := filter_contains_of_sublist (d.included_sublist k) (d.ordinals_nodup retry h)

theorem Descriptor.release_lawful (id : BitVec 8) (forced : Bool) : (d.release id (d.included k) forced).lawful retry := by
  have ⟨hordinals, hlength, hentries, _⟩ := h
  have hordinal : Subframe.ordinal ∘ Subframe.release (d.included k) = Subframe.ordinal := by
    funext y
    simp only [Function.comp, Subframe.release]
    split <;> rfl
  refine ⟨?_, by simpa [Descriptor.release] using hlength, ?_, fun hfree => absurd hfree (by simp [Descriptor.release])⟩
  · simp only [Descriptor.release, List.map_map, hordinal, List.length_map, hordinals]
  · simp only [Descriptor.release, List.forall_mem_map]
    intro y hy
    obtain ⟨hmin, hmax, hattempts, hpending⟩ := hentries y hy
    unfold Subframe.release
    split
    case isTrue hin =>
      have hwas := hpending (d.pending_of_included retry h k y hy (by simpa using hin))
      exact ⟨hmin, hmax, Nat.succ_le_succ hwas, fun hstate => absurd hstate (by simp)⟩
    case isFalse => exact ⟨hmin, hmax, hattempts, hpending⟩

end

/-- The id assigned is held by no entry of a table with a free place (R81). -/
theorem Gate.assignId_fresh (g : Gate) (hroom : g.table.length < 2) (x : Outstanding) (hx : x ∈ g.table) : x.id ≠ g.assignId := by
  unfold Gate.assignId
  split
  case isTrue hany =>
    obtain ⟨y, hy, hid⟩ := List.any_eq_true.1 hany
    have hsame : x = y := by
      match htable : g.table, hroom, hx, hy with
      | [z], _, hx, hy => rw [List.mem_singleton.1 hx, List.mem_singleton.1 hy]
    rw [hsame, beq_iff_eq.1 hid]
    intro heq
    have := congrArg BitVec.toNat heq
    simp at this
    omega
  case isFalse hnone => exact fun heq => hnone (List.any_eq_true.2 ⟨x, hx, by simp [heq]⟩)

section
variable (s : State) (q : Fin 16) (d : Descriptor) (r : Rate) (v : Verdict)

/-- The part with a release decided, before the window unit searches (R79 to R82). -/
def State.withRelease : State :=
  let rec' := s.releaseRecord q d r v
  let s₁ := (s.modQueue q fun x =>
    { (x.modHead fun d => d.release rec'.id rec'.ordinals (v.kind == .forced)) with forcedFlag := x.forcedFlag || (v.kind == .forced) }).setFlagIf
      (v.kind == .forced) .frameForced
  { s₁ with
    gate :=
      { s₁.gate with
        table := s₁.gate.table ++ [rec'.entry d s.now]
        committed := some (plus s.releaseStart (d.required r (s.queue q).config.ack v.count))
        nextId := rec'.id + 1 }
    south := { s₁.south with txdata := s₁.south.txdata ++ [rec'] } }

theorem State.releaseHead_eq : s.releaseHead q d r v = (s.withRelease q d r v).search false := rfl

theorem State.queue_withRelease (rest : List Descriptor) (hlist : (s.queue q).descriptors = d :: rest) :
    (s.withRelease q d r v).queue q =
      { s.queue q with
        descriptors := d.release s.gate.assignId (d.included v.count) (v.kind == .forced) :: rest
        forcedFlag := (s.queue q).forcedFlag || (v.kind == .forced) } := by
  have hqueue (u : State) (g : Gate) (l : SouthLink) : ({ u with gate := g, south := l } : State).queue q = u.queue q := rfl
  simp only [State.withRelease, hqueue, State.queue_setFlagIf, State.queue_modQueue_self, Queue.modHead_of_cons _ d rest _ hlist]
  rfl

theorem State.queue_withRelease_other (p : Fin 16) (hp : q ≠ p) : (s.withRelease q d r v).queue p = s.queue p := by
  have hqueue (u : State) (g : Gate) (l : SouthLink) : ({ u with gate := g, south := l } : State).queue p = u.queue p := rfl
  simp only [State.withRelease, hqueue, State.queue_setFlagIf, State.queue_modQueue_other _ q p _ hp]

@[simp] theorem State.withRelease_gate :
    (s.withRelease q d r v).gate =
      { s.gate with
        table := s.gate.table ++ [(s.releaseRecord q d r v).entry d s.now]
        committed := some (plus s.releaseStart (d.required r (s.queue q).config.ack v.count))
        nextId := s.gate.assignId + 1 } := by
  simp [State.withRelease, State.releaseRecord]

/-- A queue's head as a list. -/
theorem Queue.exists_of_head (x : Queue) (h : x.head = some d) : ∃ rest, x.descriptors = d :: rest := by
  cases hx : x.descriptors with
  | nil => simp [Queue.head, hx] at h
  | cons d' rest =>
    rw [x.head_of_cons d' rest hx] at h
    exact ⟨rest, by rw [Option.some.inj h]⟩

/-- A decided release is listed, and its head has the included ordinals out (R78 to R81). -/
theorem State.releaseHead_releasesLawful (h : s.releasesLawful) (hoffer : s.offer q = some (d, r, v)) (hroom : s.gate.table.length < 2) :
    (s.releaseHead q d r v).releasesLawful := by
  obtain ⟨hhead, -, hopen, hfree, -, hpending, hjudge⟩ := (s.offer_eq_some_iff q d r v).1 hoffer
  obtain ⟨rest, hlist⟩ := Queue.exists_of_head d _ hhead
  obtain ⟨hqueues, htable⟩ := h
  have ⟨_, _, hrest, haging, hall⟩ := hqueues q
  rw [hlist] at hrest haging hall
  obtain ⟨hof, hd⟩ := hall d List.mem_cons_self
  have hincluded : d.included v.count ≠ [] := by
    have hcount := s.judge_count_pos _ d r v hpending hjudge
    have hlength : 1 ≤ d.pendingEntries.length := List.length_pos_iff.2 hpending
    refine List.length_pos_iff.1 ?_
    simp only [Descriptor.included, List.length_map, List.length_take]
    omega
  have hqueue := s.queue_withRelease q d r v rest hlist
  rw [State.releaseHead_eq]
  refine State.releasesLawful_of_held ⟨fun p => ?_, (State.tableLawful_iff _).2 ?_⟩ (State.search_held _ _)
  · by_cases hp : q = p
    case neg => rw [s.queue_withRelease_other q d r v p hp]; exact hqueues p
    case pos =>
      subst hp
      rw [hqueue]
      refine ⟨fun hc => absurd (hopen.symm.trans hc) (by decide), fun hc => absurd (hopen.symm.trans hc) (by decide), hrest,
        fun ha => ⟨hopen, List.cons_ne_nil _ _⟩, fun y hy => ?_⟩
      rcases List.mem_cons.1 hy with rfl | hmem
      · exact ⟨hof, d.release_lawful _ hd v.count _ _⟩
      · exact hall y (List.mem_cons_of_mem _ hmem)
  · rw [State.withRelease_gate]
    refine tableLaw_append ((s.releaseRecord q d r v).entry d s.now) ((s.tableLawful_iff).1 htable) hroom
      (fun x hx => s.gate.assignId_fresh hroom x hx) ?_ ?_ hincluded fun p hp => by rw [s.queue_withRelease_other q d r v p hp]
    · exact (Queue.released_of_cons _ d rest hlist).trans (by simp [Descriptor.released, hfree])
    · have hreleased := Queue.released_of_cons ((s.withRelease q d r v).queue q) _ rest (by rw [hqueue])
      refine hreleased.trans ?_
      simp only [Descriptor.released, d.outOrdinals_release _ hd v.count hfree]
      rfl

end

theorem State.arbitrate_releasesLawful (n : Nat) (s : State) (h : s.releasesLawful) (hroom : s.gate.table.length < 2) :
    (State.arbitrate n s).releasesLawful := by
  induction n generalizing s with
  | zero => exact h
  | succ n ih =>
    unfold State.arbitrate
    split
    case h_1 => exact h
    case h_2 level q _ =>
      split
      case h_1 d r v hoffer => exact State.releaseHead_releasesLawful { s with pointers := s.pointers.set level q } q d r v h hoffer hroom
      case h_2 =>
        refine ih _ (State.releasesLawful_of_queue q h (fun p hp => s.queue_modQueue_other q p _ hp) ?_ ?_ rfl) hroom
        · rw [State.queue_modQueue_self]; exact h.1 q
        · rw [State.queue_modQueue_self]; rfl

theorem State.runArbiter_releasesLawful (s : State) (ready : Bool) (h : s.releasesLawful) : (s.runArbiter ready).releasesLawful := by
  unfold State.runArbiter
  dsimp only
  split
  case isTrue hroom =>
    split
    · exact State.arbitrate_releasesLawful 17 (s.withSouth { s.south with partnerReady := ready }) h hroom
    · exact h
  case isFalse => exact h

/-! ### Admission (R22, R28) -/

/-- What R24 has checked of a bundle. -/
theorem readBundle_bounds (payload : List Byte) (b : Bundle) (h : readBundle payload = some b) :
    1 ≤ b.lengths.length ∧ b.lengths.length ≤ 32 ∧ (∀ n ∈ b.lengths, 14 ≤ n ∧ n ≤ 2400) ∧ b.lengths.sum ≤ 32768
      ∧ b.bodies.length = b.lengths.sum := by
  unfold readBundle at h
  dsimp only at h
  split_ifs at h with hrate hall
  obtain ⟨-, hmin, hmax, -, hlengths, hsum, hsize⟩ := hall
  rw [← Option.some.inj h]
  have hcount : (bundleLengths payload (byteAt payload 1).toNat).length = (byteAt payload 1).toNat := by simp [bundleLengths]
  refine ⟨hmin.trans_eq hcount.symm, hcount.trans_le hmax, fun n hn => ?_, hsum, ?_⟩
  · simpa using List.all_eq_true.1 hlengths n hn
  · simp only [List.length_drop]
    omega

/-- A new descriptor's subframes: one PENDING entry for each length, numbered from 0 (R22). -/
theorem newSubframes_lawful (lengths : List Nat) (hmin : 1 ≤ lengths.length) (hmax : lengths.length ≤ 32)
    (hlengths : ∀ n ∈ lengths, 14 ≤ n ∧ n ≤ 2400) (retry : Nat) (d : Descriptor) (hlist : d.subframes = newSubframes lengths) :
    d.lawful retry := by
  have hlength : (newSubframes lengths).length = lengths.length := by simp [newSubframes]
  have hordinals : (newSubframes lengths).map Subframe.ordinal = List.range lengths.length := by
    have hcomp : (Subframe.ordinal ∘ fun p : Nat × Nat => { ordinal := p.2, length := p.1, attempts := 0, state := .pending }) = Prod.snd := rfl
    rw [newSubframes, List.map_map, hcomp, List.zipIdx_map_snd, List.range_eq_range']
  have hentry : ∀ y ∈ newSubframes lengths, 14 ≤ y.length ∧ y.length ≤ 2400 ∧ y.attempts = 0 ∧ y.state = .pending := by
    intro y hy
    obtain ⟨⟨n, i⟩, hn, rfl⟩ := List.mem_map.1 hy
    exact ⟨(hlengths n (List.fst_mem_of_mem_zipIdx hn)).1, (hlengths n (List.fst_mem_of_mem_zipIdx hn)).2, rfl, rfl⟩
  refine ⟨by rw [hlist, hordinals, hlength], by rw [hlist, hlength]; exact hmax, fun y hy => ?_, fun _ => ⟨fun y hy => ?_, ?_⟩⟩
  · obtain ⟨hlo, hhi, hzero, -⟩ := hentry y (hlist ▸ hy)
    exact ⟨hlo, hhi, by omega, fun _ => by omega⟩
  · simp [(hentry y (hlist ▸ hy)).2.2.2]
  · obtain ⟨y, hy⟩ := List.exists_mem_of_length_pos (l := d.subframes) (by rw [hlist, hlength]; exact hmin)
    exact ⟨y, hy, (hentry y (hlist ▸ hy)).2.2.2⟩

/-- The queue that an admitted descriptor joins (R28). -/
def Queue.join (x : Queue) (d : Descriptor) (now : Instant) : Queue :=
  if x.descriptors.isEmpty then Queue.startAging { x with descriptors := x.descriptors ++ [d] } now
  else { x with descriptors := x.descriptors ++ [d] }

theorem Queue.join_lawful (q : Fin 16) (x : Queue) (d : Descriptor) (now : Instant) (h : x.lawful q)
    (hstate : x.state = .opened ∨ x.state = .paused) (hof : d.queue = q) (hfree : d.outstanding = none) (hd : d.lawful x.config.retry) :
    (x.join d now).lawful q := by
  obtain ⟨-, -, htail, haging, hall⟩ := h
  have hnot : x.state ≠ .closed ∧ x.state ≠ .draining := by rcases hstate with h | h <;> simp [h]
  have hmembers : ∀ y ∈ x.descriptors ++ [d], y.queue = q ∧ y.lawful x.config.retry := fun y hy => by
    rcases List.mem_append.1 hy with hold | hnew
    · exact hall y hold
    · obtain rfl : y = d := by simpa using hnew
      exact ⟨hof, hd⟩
  unfold Queue.join
  cases hlist : x.descriptors with
  | nil =>
    rw [hlist] at hmembers
    refine ⟨fun hc => absurd hc hnot.1, fun hc => absurd hc hnot.2, fun y hy => absurd hy List.not_mem_nil, fun ha => ?_, hmembers⟩
    by_cases hopen : x.state = .opened
    case pos => exact ⟨hopen, List.cons_ne_nil _ _⟩
    case neg => simp [Queue.startAging, hopen] at ha
  | cons d' rest =>
    rw [hlist] at hmembers htail haging
    refine ⟨fun hc => absurd hc hnot.1, fun hc => absurd hc hnot.2, fun y hy => ?_, fun ha => ⟨(haging ha).1, List.cons_ne_nil _ _⟩, hmembers⟩
    rcases List.mem_append.1 hy with hold | hnew
    · exact htail y hold
    · obtain rfl : y = d := by simpa using hnew
      exact hfree

/-- A new descriptor has nothing out, and does not take the place of a head that has. -/
theorem Queue.join_released (x : Queue) (d : Descriptor) (now : Instant) (hfree : d.outstanding = none) :
    (x.join d now).released = x.released := by
  unfold Queue.join
  cases hlist : x.descriptors with
  | nil =>
    rw [Queue.released_eq_none x (by simp [hlist])]
    exact Queue.released_eq_none _ (by simpa [Queue.startAging] using hfree)
  | cons d' rest =>
    rw [x.released_of_cons d' rest hlist]
    exact Queue.released_of_cons _ d' (rest ++ [d]) rfl

theorem State.takeIn_releasesLawful (s : State) (f : LinkFrame) (q : Fin 16) (b : Bundle) (h : s.releasesLawful)
    (hadmits : s.admitsFrame f q b) : (s.takeIn f.header q b).releasesLawful := by
  obtain ⟨hread, -, hstate, -⟩ := hadmits
  obtain ⟨hmin, hmax, hlengths, -, -⟩ := readBundle_bounds _ b hread
  unfold State.takeIn
  extract_lets chain d s₁ s₂
  have hqueue : s₂.queue q = (s.queue q).join d s.now := s₁.queue_modQueue_self q _
  have h₂ : s₂.releasesLawful := by
    refine State.releasesLawful_of_queue q h (fun p hp => s₁.queue_modQueue_other q p _ hp) ?_ ?_ rfl
    · rw [hqueue]
      exact Queue.join_lawful q _ d _ (h.1 q) hstate rfl rfl (newSubframes_lawful b.lengths hmin hmax hlengths _ d rfl)
    · rw [hqueue]
      exact Queue.join_released _ d _ rfl
  split
  · exact State.releasesLawful_of_held h₂ (s₂.reevaluate_held q)
  · exact h₂

theorem State.takeData_releasesLawful (s : State) (f : LinkFrame) (h : s.releasesLawful) : (s.takeData f).releasesLawful := by
  rcases s.takeData_cases f with ⟨result, count, heq⟩ | ⟨q, b, hadmits, heq⟩
  · exact heq ▸ State.releasesLawful_of_held h (s.refuse_held _ _ _)
  · exact heq ▸ s.takeIn_releasesLawful f q b h hadmits

/-! ### Aging, and the queue commands (R40 to R43, R47) -/

@[simp] theorem Queue.modHead_config (x : Queue) (f : Descriptor → Descriptor) : (x.modHead f).config = x.config := by
  unfold Queue.modHead
  split <;> rfl

/-- The head changed in a mark that the law does not read. -/
theorem Queue.modHead_lawful (q : Fin 16) (x : Queue) (f : Descriptor → Descriptor) (h : x.lawful q)
    (hf : ∀ d, (f d).subframes = d.subframes ∧ (f d).outstanding = d.outstanding ∧ (f d).queue = d.queue) : (x.modHead f).lawful q := by
  cases hlist : x.descriptors with
  | nil =>
    have hsame : x.modHead f = x := by simp [Queue.modHead, hlist]
    rw [hsame]
    exact h
  | cons d rest =>
    obtain ⟨hsubframes, hout, hof⟩ := hf d
    obtain ⟨hclosed, hdraining, htail, haging, hall⟩ := h
    rw [hlist] at hclosed hdraining htail haging hall
    rw [x.modHead_of_cons d rest f hlist]
    refine ⟨fun hc => absurd (hclosed hc) (List.cons_ne_nil _ _), fun hd => ?_, htail, fun ha => ⟨(haging ha).1, List.cons_ne_nil _ _⟩,
      fun y hy => ?_⟩
    · obtain ⟨d', hd', hsome⟩ := hdraining hd
      obtain ⟨rfl, rfl⟩ := List.cons.inj hd'
      exact ⟨f d, rfl, hout ▸ hsome⟩
    · rcases List.mem_cons.1 hy with rfl | hmem
      · obtain ⟨hd, hlawful⟩ := hall d List.mem_cons_self
        refine ⟨hof.trans hd, ?_⟩
        unfold Descriptor.lawful at hlawful ⊢
        rw [hsubframes, hout]
        exact hlawful
      · exact hall y (List.mem_cons_of_mem _ hmem)

theorem Queue.modHead_released (x : Queue) (f : Descriptor → Descriptor)
    (hf : ∀ d, (f d).subframes = d.subframes ∧ (f d).outstanding = d.outstanding ∧ (f d).number = d.number) :
    (x.modHead f).released = x.released := by
  cases hlist : x.descriptors with
  | nil => simp [Queue.modHead, hlist]
  | cons d rest =>
    obtain ⟨hsubframes, hout, hnumber⟩ := hf d
    rw [x.modHead_of_cons d rest f hlist, x.released_of_cons d rest hlist]
    refine (Queue.released_of_cons _ (f d) rest rfl).trans ?_
    simp only [Descriptor.released, Descriptor.outOrdinals, hsubframes, hout, hnumber]

theorem State.agingExpired_releasesLawful (s : State) (q : Fin 16) (h : s.releasesLawful) : (s.agingExpired q).releasesLawful := by
  unfold State.agingExpired
  split
  case isFalse => exact h
  case isTrue =>
    refine State.releasesLawful_of_held (State.releasesLawful_of_queue q h (fun p hp => s.queue_modQueue_other q p _ hp) ?_ ?_ rfl)
      (State.reevaluate_held _ q)
    · rw [State.queue_modQueue_self]
      obtain ⟨hclosed, hdraining, htail, -, hall⟩ :=
        Queue.modHead_lawful q (s.queue q) (fun d => { d with aged := true }) (h.1 q) fun _ => ⟨rfl, rfl, rfl⟩
      exact ⟨hclosed, hdraining, htail, fun ha => absurd ha (by simp), hall⟩
    · rw [State.queue_modQueue_self]
      exact Queue.modHead_released (s.queue q) (fun d => { d with aged := true }) fun _ => ⟨rfl, rfl, rfl⟩

/-- OPEN_QUEUE is accepted for a CLOSED queue only, which is empty (R40). -/
theorem State.openOne_releasesLawful (s : State) (q : Fin 16) (c : QueueConfig) (h : s.releasesLawful)
    (hclosed : (s.queue q).state = .closed) : (s.openOne q c).releasesLawful := by
  have ⟨hempty, _, _, haging, _⟩ := h.1 q
  have hnone := hempty hclosed
  refine State.releasesLawful_of_held (State.releasesLawful_of_queue q h (fun p hp => s.queue_modQueue_other q p _ hp) ?_ ?_ rfl)
    (State.reevaluate_held _ q)
  · rw [State.queue_modQueue_self]
    refine ⟨fun hc => absurd hc (by simp), fun hc => absurd hc (by simp), by simp [hnone], fun ha => ?_, by simp [hnone]⟩
    exact absurd (haging ha).1 (by simp [hclosed])
  · rw [State.queue_modQueue_self]
    rfl

theorem State.pauseOne_releasesLawful (s : State) (q : Fin 16) (h : s.releasesLawful) : (s.pauseOne q).releasesLawful := by
  unfold State.pauseOne
  split
  case isFalse => exact h
  case isTrue =>
    obtain ⟨-, -, htail, -, hall⟩ := h.1 q
    refine State.releasesLawful_of_held (State.releasesLawful_of_queue q h (fun p hp => s.queue_modQueue_other q p _ hp) ?_ ?_ rfl)
      (State.reevaluate_held _ q)
    · rw [State.queue_modQueue_self]
      exact ⟨fun hc => absurd hc (by simp), fun hc => absurd hc (by simp), htail, fun ha => absurd ha (by simp), hall⟩
    · rw [State.queue_modQueue_self]
      rfl

theorem State.resumeOne_releasesLawful (s : State) (q : Fin 16) (h : s.releasesLawful) : (s.resumeOne q).releasesLawful := by
  unfold State.resumeOne
  split
  case isFalse => exact h
  case isTrue =>
    obtain ⟨-, -, htail, -, hall⟩ :=
      Queue.modHead_lawful q (s.queue q) (fun d => { d with aged := false }) (h.1 q) fun _ => ⟨rfl, rfl, rfl⟩
    refine State.releasesLawful_of_held (State.releasesLawful_of_queue q h (fun p hp => s.queue_modQueue_other q p _ hp) ?_ ?_ rfl)
      (State.reevaluate_held _ q)
    · rw [State.queue_modQueue_self]
      refine ⟨fun hc => absurd hc (by simp [Queue.startAging]), fun hc => absurd hc (by simp [Queue.startAging]), htail, fun ha => ?_, ?_⟩
      · refine ⟨rfl, fun hnone => ?_⟩
        simp only [Queue.startAging] at hnone ha
        simp [hnone] at ha
      · simpa [Queue.startAging, Queue.modHead_config] using hall
    · rw [State.queue_modQueue_self]
      exact Queue.modHead_released (s.queue q) (fun d => { d with aged := false }) fun _ => ⟨rfl, rfl, rfl⟩

/-- A drained queue before it is closed: DRAINING with the outstanding descriptors alone (R43). -/
def Queue.drained (x : Queue) : Queue :=
  { x with state := .draining, aging := none, descriptors := x.descriptors.filter fun d => d.outstanding.isSome }

/-- The drain of a queue: its other descriptors completed, then closed when no outstanding head remains. -/
theorem State.drain_eq (s : State) (q : Fin 16) :
    ∃ u : State, u.queue q = (s.queue q).drained ∧ (∀ p, q ≠ p → u.queue p = s.queue p) ∧ u.gate = s.gate
      ∧ s.drain q = State.reevaluate (if (s.queue q).drained.descriptors.isEmpty then u.closeDrained q else u) q := by
  unfold State.drain
  extract_lets s₁ s₂ s₃ s₄
  have hkept : s₂.queues = s₁.queues ∧ s₂.gate = s₁.gate :=
    List.foldlRecOn (motive := fun u : State => u.queues = s₁.queues ∧ u.gate = s₁.gate) _ _ ⟨rfl, rfl⟩ fun u hu d _ => hu
  have hqueue (p : Fin 16) : s₂.queue p = s₁.queue p := by simp only [State.queue, hkept.1]
  have hself : s₃.queue q = (s.queue q).drained := by
    rw [s₂.queue_modQueue_self, hqueue, s.queue_modQueue_self]
    rfl
  refine ⟨s₃, hself, fun p hp => ?_, hkept.2, ?_⟩
  · rw [s₂.queue_modQueue_other q p _ hp, hqueue, s.queue_modQueue_other q p _ hp]
  · rw [← hself]

/-- What is left of a drained queue: its outstanding head alone, or nothing and then nothing is out. -/
theorem Queue.drained_cases (q : Fin 16) (x : Queue) (h : x.lawful q) :
    (x.drained.descriptors = [] ∧ x.released = none) ∨
      ∃ d rest, x.descriptors = d :: rest ∧ x.drained.descriptors = [d] ∧ d.outstanding.isSome = true := by
  obtain ⟨-, -, htail, -, -⟩ := h
  cases hlist : x.descriptors with
  | nil => exact .inl ⟨by simp [Queue.drained, hlist], x.released_eq_none (by simp [hlist])⟩
  | cons d rest =>
    rw [hlist] at htail
    have hrest : (rest.filter fun d => d.outstanding.isSome) = [] := List.filter_eq_nil_iff.2 fun y hy => by
      rw [htail y hy]
      exact Bool.false_ne_true
    cases hout : d.outstanding with
    | none =>
      refine .inl ⟨by simp [Queue.drained, hlist, hout, hrest], ?_⟩
      rw [x.released_of_cons d rest hlist]
      simp [Descriptor.released, hout]
    | some id => exact .inr ⟨d, rest, rfl, by simp [Queue.drained, hlist, hout, hrest], by simp [hout]⟩

theorem State.drain_releasesLawful (s : State) (q : Fin 16) (h : s.releasesLawful) : (s.drain q).releasesLawful := by
  obtain ⟨u, hself, hother, hgate, heq⟩ := s.drain_eq q
  obtain ⟨-, -, -, -, hall⟩ := h.1 q
  rw [heq]
  refine State.releasesLawful_of_held ?_ (State.reevaluate_held _ q)
  rcases Queue.drained_cases q (s.queue q) (h.1 q) with ⟨hempty, hnone⟩ | ⟨d, rest, hlist, hleft, hout⟩
  · have hclosed : (u.closeDrained q).queue q = { (s.queue q).drained with state := .closed, aging := none } := by
      rw [State.queue_closeDrained_self, hself]
    rw [hempty, if_pos (by rfl)]
    refine State.releasesLawful_of_queue q h (fun p hp => (u.queue_closeDrained_other q p hp).trans (hother p hp)) ?_ ?_ (by simp [hgate])
    · rw [hclosed]
      exact Queue.lawful_closed q _ rfl hempty rfl
    · rw [hclosed, hnone]
      exact Queue.released_eq_none _ fun y hy => absurd (hempty ▸ hy) List.not_mem_nil
  · rw [hleft, if_neg (by simp)]
    refine State.releasesLawful_of_queue q h hother ?_ ?_ (by rw [hgate])
    · rw [hself]
      refine ⟨fun hc => absurd hc (by simp [Queue.drained]), fun _ => ⟨d, hleft, hout⟩, ?_, fun ha => absurd ha (by simp [Queue.drained]),
        fun y hy => hall y (List.mem_of_mem_filter hy)⟩
      rw [hleft]
      exact fun y hy => absurd hy List.not_mem_nil
    · rw [hself, Queue.released_of_cons _ d [] hleft, Queue.released_of_cons _ d rest hlist]

/-! ### Resets, and every row -/

theorem State.releasesLawful_of_empty (s : State) (hqueues : ∀ q, s.queue q = Queue.powerOn) (htable : s.gate.table = []) :
    s.releasesLawful := by
  refine ⟨fun q => ?_, (s.tableLawful_iff).2 ?_⟩
  · rw [hqueues q]
    exact Queue.lawful_closed q _ rfl rfl rfl
  · rw [htable]
    exact tableLaw_empty _ fun q => by rw [hqueues q]; rfl

theorem State.partReset_releasesLawful (s : State) (scope : ResetScope) : (s.partReset scope).releasesLawful := by
  refine State.releasesLawful_of_held ((s.resetBlocks scope).releasesLawful_of_empty (s.queue_resetBlocks scope) ?_) (s.partReset_held scope)
  cases scope <;> rfl

theorem State.queueResponse_releasesLawful (s : State) (h : s.releasesLawful) : s.queueResponse.releasesLawful :=
  s.queueResponse_induction h (fun _ _ hu => hu) (fun _ _ _ hu => hu) fun u scope _ => u.partReset_releasesLawful scope

theorem State.reset_releasesLawful : State.reset.releasesLawful := State.releasesLawful_of_empty _ State.queue_reset rfl

theorem eventOf_releasesLawful (i : Instr) (s : State) (h : s.releasesLawful) : (eventOf i s).releasesLawful := by
  have hdiscarded : (s.setFlag .linkError).releasesLawful := State.releasesLawful_of_held h (by simp)
  cases i with
  | powerOnReset => exact State.reset_releasesLawful
  | resetInputAsserted => exact State.reset_releasesLawful
  | dataFrame f =>
    exact s.northFrame_induction 1 f _ h (fun _ => State.releasesLawful_of_queues h (by simp) (by simp))
      (fun u _ _ hu _ => State.releasesLawful_of_queues hu (by simp) (by simp)) fun u _ hu _ _ _ =>
        State.takeData_releasesLawful (u.withInput .awaitHeader) f hu
  | txstat f =>
    refine s.southFrame_induction 7 f _ h hdiscarded ?_
    unfold State.takeTxStat
    split
    · exact s.applyTxStat_releasesLawful _ h
    · exact hdiscarded
  | releaseArbiterRun ready => exact s.runArbiter_releasesLawful ready h
  | agingTimerExpiry q => exact s.agingExpired_releasesLawful q h
  | southSyncLost => exact s.southLost_releasesLawful h
  | responseQueued => exact s.queueResponse_releasesLawful h
  | statusFrameSent =>
    exact s.statusSent_induction h h (State.queueResponse_releasesLawful _) fun hu => State.releasesLawful_of_queues hu (by simp) (by simp)
  | northSyncLost => exact State.releasesLawful_of_queues h (by simp [eventOf]) (by simp [eventOf])
  | northLaneHeader _ => exact State.releasesLawful_of_queues h (by simp [eventOf]) (by simp [eventOf])
  | dataSlotReserved => exact State.releasesLawful_of_queues h (by simp [eventOf]) (by simp [eventOf])
  | controlFrame _ => exact State.releasesLawful_of_queues h (by simp [eventOf]) (by simp [eventOf])
  | receivedFrameDiscarded _ _ => exact State.releasesLawful_of_queues h (by simp [eventOf]) (by simp [eventOf])
  | _ => exact State.releasesLawful_of_held h (eventOf_held _ s rfl rfl)

theorem State.forQueues_releasesLawful (s : State) (qs : List (Fin 16)) (f : State → Fin 16 → State)
    (hf : ∀ (u : State) (q : Fin 16), u.releasesLawful → (f u q).releasesLawful) (h : s.releasesLawful) : (s.forQueues qs f).releasesLawful :=
  qs.foldlRecOn (motive := State.releasesLawful) f h fun u hu q _ => hf u q hu

/-- An accepted OPEN_QUEUE finds its queue CLOSED (R40). -/
theorem State.closed_of_openQueue (s : State) (target : Byte) (data : List Byte) (q : Fin 16)
    (haccepted : refusalOf (.openQueue target data) s = none) (hq : queueTarget target = some q) : (s.queue q).state = .closed := by
  simp only [refusalOf, refuseIf, State.targetIn, hq] at haccepted
  split_ifs at haccepted with htarget hbusy
  cases hstate : (s.queue q).state with
  | closed => rfl
  | opened => exact absurd (by rw [hstate]; rfl) hbusy
  | paused => exact absurd (by rw [hstate]; rfl) hbusy
  | draining => exact absurd (by rw [hstate]; rfl) hbusy

theorem actOf_releasesLawful (i : Instr) (s : State) (haccepted : refusalOf i s = none) (h : s.releasesLawful) :
    (actOf i s).1.releasesLawful := by
  cases i with
  | openQueue target data =>
    simp only [actOf]
    split
    case h_1 q c hq _ => exact s.openOne_releasesLawful q c h (s.closed_of_openQueue target data q haccepted hq)
    case h_2 => exact h
  | pauseQueue target _ => exact s.forQueues_releasesLawful _ _ State.pauseOne_releasesLawful h
  | resumeQueue target _ => exact s.forQueues_releasesLawful _ _ State.resumeOne_releasesLawful h
  | drainQueue target _ =>
    refine s.forQueues_releasesLawful _ _ (fun u q hu => ?_) h
    unfold State.drainOne
    split
    · exact u.drain_releasesLawful q hu
    · exact hu
  | _ => exact State.releasesLawful_of_held h (actOf_held _ s rfl)

/-- Settles O54: releases enter the table with the head they have out and leave it with the head's result; nothing else touches either. -/
theorem outstandingReleasesStayMatched : Obligations.OutstandingReleasesStayMatched := fun s t h hstep =>
  step_invariant (P := State.releasesLawful) (fun _ _ hu => hu) (fun _ _ hu => hu) eventOf_releasesLawful actOf_releasesLawful s t hstep h

end Sys2Proof.Machine

/-! PROOFS. The source table: slots, the first least candidate, the best match and the slot for a new entry (R121, R125, R127). -/

namespace Sys2Proof.Machine

/-! ### The slots -/

theorem mem_allSlots (i : Fin 16) : i ∈ allSlots := by revert i; decide

theorem allSlots_sorted : allSlots.Pairwise (· < ·) := by decide

theorem allSlots_nodup : allSlots.Nodup := by decide

/-- In a sorted list cut at an element, the smaller ones stand before it and the greater ones after it. -/
theorem mem_of_lt_of_cut {before after : List (Fin 16)} {i j : Fin 16} (h : allSlots = before ++ i :: after) :
    (j < i → j ∈ before) ∧ (i < j → j ∈ after) := by
  have hsorted : (before ++ i :: after).Pairwise (· < ·) := h ▸ allSlots_sorted
  have hj : j ∈ before ++ i :: after := h ▸ mem_allSlots j
  rw [List.pairwise_append, List.pairwise_cons] at hsorted
  obtain ⟨_, ⟨hafter, _⟩, hbefore⟩ := hsorted
  rw [List.mem_append, List.mem_cons] at hj
  refine ⟨fun hlt => ?_, fun hlt => ?_⟩
  · rcases hj with hb | rfl | ha
    · exact hb
    · exact absurd hlt (lt_irrefl _)
    · exact absurd (hafter j ha) (not_lt.2 hlt.le)
  · rcases hj with hb | rfl | ha
    · exact absurd (hbefore j hb i List.mem_cons_self) (not_lt.2 hlt.le)
    · exact absurd hlt (lt_irrefl _)
    · exact ha

@[simp] theorem State.slot_withDetector (s : State) (d : Detector) (i : Fin 16) : (s.withDetector d).slot i = s.slot i := rfl
@[simp] theorem State.slot_withRecord (s : State) (r : Option MatchRecord) (i : Fin 16) : (s.withRecord r).slot i = s.slot i := rfl

@[simp] theorem Sources.withdraw_slots (x : Sources) (i : Fin 16) : (x.withdraw i).slots = x.slots := by
  unfold Sources.withdraw
  (repeat' split) <;> rfl

@[simp] theorem State.slot_withdraw (s : State) (i j : Fin 16) :
    State.slot { s with sources := s.sources.withdraw i } j = s.slot j := by
  simp [State.slot]

theorem State.slot_of_sources {s t : State} (h : t.sources = s.sources) (i : Fin 16) : t.slot i = s.slot i := by
  rw [State.slot, State.slot, h]

@[simp] theorem State.slot_freeSlot_self (s : State) (i : Fin 16) :
    (s.freeSlot i).slot i = { (s.slot i) with entry := none, timer := none, deferred := false } := by
  exact ((s.setSlot i _).slot_withdraw i i).trans (by simp)

theorem State.slot_freeSlot_other (s : State) (i j : Fin 16) (h : i ≠ j) : (s.freeSlot i).slot j = s.slot j :=
  ((s.setSlot i _).slot_withdraw i j).trans (s.slot_setSlot_other i j _ h)

/-! ### The first candidate of the least key -/

/-- One step of a scan for the first candidate of the least key. -/
def leastStep {A : Type} (candidate : Fin 16 → Option A) (key : A → Nat) (best : Option A) (i : Fin 16) : Option A :=
  match candidate i, best with
  | none, _ => best
  | some a, none => some a
  | some a, some b => if key a < key b then some a else some b

/-- A slot's candidate has the least key of all, and the lowest slot of those with that key. -/
def isLeast {A : Type} (candidate : Fin 16 → Option A) (key : A → Nat) (i : Fin 16) (a : A) : Prop :=
  candidate i = some a ∧ ∀ j b, candidate j = some b → key a < key b ∨ key a = key b ∧ i ≤ j

section
variable {A : Type} (candidate : Fin 16 → Option A) (key : A → Nat)

/-- The scan of a list finds nothing when it holds no candidate, and otherwise one that is below those before it and not above those after it. -/
theorem foldl_leastStep (l : List (Fin 16)) :
    match l.foldl (leastStep candidate key) none with
    | none => ∀ j ∈ l, candidate j = none
    | some a => ∃ before i after, l = before ++ i :: after ∧ candidate i = some a
        ∧ (∀ j ∈ before, ∀ b, candidate j = some b → key a < key b) ∧ ∀ j ∈ after, ∀ b, candidate j = some b → key a ≤ key b := by
  induction l using List.reverseRecOn with
  | nil => simp
  | append_singleton l i ih =>
    rw [List.foldl_append, List.foldl_cons, List.foldl_nil]
    cases hbest : l.foldl (leastStep candidate key) none with
    | none =>
      rw [hbest] at ih
      cases hi : candidate i with
      | none => simpa [leastStep, hi, or_imp, forall_and] using ih
      | some a =>
        simp only [leastStep, hi]
        exact ⟨l, i, [], rfl, hi, fun j hj b hb => by simp [ih j hj] at hb, by simp⟩
    | some b =>
      rw [hbest] at ih
      obtain ⟨before, j, after, rfl, hj, hbefore, hafter⟩ := ih
      cases hi : candidate i with
      | none =>
        simp only [leastStep, hi]
        refine ⟨before, j, after ++ [i], by simp, hj, hbefore, fun k hk c hc => ?_⟩
        rcases List.mem_append.1 hk with hk | hk
        · exact hafter k hk c hc
        · rw [List.mem_singleton.1 hk, hi] at hc
          cases hc
      | some a =>
        by_cases hlt : key a < key b
        case pos =>
          simp only [leastStep, hi, if_pos hlt]
          refine ⟨before ++ j :: after, i, [], rfl, hi, fun k hk c hc => ?_, by simp⟩
          rcases List.mem_append.1 hk with hk | hk
          · exact hlt.trans (hbefore k hk c hc)
          · rcases List.mem_cons.1 hk with rfl | hk
            · rw [hj] at hc
              cases hc
              exact hlt
            · exact hlt.trans_le (hafter k hk c hc)
        case neg =>
          simp only [leastStep, hi, if_neg hlt]
          refine ⟨before, j, after ++ [i], by simp, hj, hbefore, fun k hk c hc => ?_⟩
          rcases List.mem_append.1 hk with hk | hk
          · exact hafter k hk c hc
          · rw [List.mem_singleton.1 hk, hi] at hc
            cases hc
            exact not_lt.1 hlt

/-- Over all slots the scan finds the least candidate. -/
theorem isLeast_of_scan {a : A} (h : allSlots.foldl (leastStep candidate key) none = some a) : ∃ i, isLeast candidate key i a := by
  have hscan := foldl_leastStep candidate key allSlots
  rw [h] at hscan
  obtain ⟨before, i, after, hcut, hi, hbefore, hafter⟩ := hscan
  refine ⟨i, hi, fun j b hb => ?_⟩
  obtain ⟨hlower, hupper⟩ := mem_of_lt_of_cut (j := j) hcut
  rcases lt_trichotomy j i with hlt | rfl | hgt
  · exact .inl (hbefore j (hlower hlt) b hb)
  · rw [hi] at hb
    cases hb
    exact .inr ⟨rfl, le_refl _⟩
  · rcases (hafter j (hupper hgt) b hb).lt_or_eq with hlt | heq
    · exact .inl hlt
    · exact .inr ⟨heq, hgt.le⟩

theorem scan_eq_none_iff : allSlots.foldl (leastStep candidate key) none = none ↔ ∀ j, candidate j = none := by
  have hscan := foldl_leastStep candidate key allSlots
  refine ⟨fun h j => ?_, fun h => ?_⟩
  · rw [h] at hscan
    exact hscan j (mem_allSlots j)
  · cases hfold : allSlots.foldl (leastStep candidate key) none with
    | none => rfl
    | some a =>
      obtain ⟨i, hi, _⟩ := isLeast_of_scan candidate key hfold
      rw [h i] at hi
      cases hi

/-- Two least candidates are one. -/
theorem isLeast_unique {i j : Fin 16} {a b : A} (hi : isLeast candidate key i a) (hj : isLeast candidate key j b) : i = j ∧ a = b := by
  have hij := hi.2 j b hj.1
  have hji := hj.2 i a hi.1
  have heq : i = j := le_antisymm (by omega) (by omega)
  subst heq
  exact ⟨rfl, Option.some.inj (hi.1.symm.trans hj.1)⟩

/-- The scan finds the least candidate where there is one. -/
theorem scan_of_isLeast {i : Fin 16} {a : A} (h : isLeast candidate key i a) :
    allSlots.foldl (leastStep candidate key) none = some a := by
  cases hfold : allSlots.foldl (leastStep candidate key) none with
  | none =>
    have hnone := (scan_eq_none_iff candidate key).1 hfold i
    rw [h.1] at hnone
    cases hnone
  | some b =>
    obtain ⟨j, hj⟩ := isLeast_of_scan candidate key hfold
    rw [(isLeast_unique candidate key h hj).2]

end

/-! ### The best match of a start event (R121) -/

/-- An OVEN entry whose error against a start lies within the oven capture. -/
def Slot.hears (c : Settings) (b : Instant) (x : Slot) (e : Source) : Prop :=
  x.entry = some e ∧ (∃ low high, e.kind = .oven low high) ∧ (e.error b).natAbs ≤ c.ovenCapture

theorem ovenMatch_eq_some_iff (c : Settings) (b : Instant) (x : Slot) (n : Nat) (e : Source) :
    ovenMatch c b x = some (n, e) ↔ x.hears c b e ∧ n = (e.error b).natAbs := by
  unfold ovenMatch Slot.hears
  cases hentry : x.entry with
  | none => simp
  | some f =>
    cases hkind : f.kind with
    | oven low high =>
      simp only [hkind]
      split_ifs with hcap
      · simp only [Option.some.injEq, Prod.mk.injEq]
        constructor
        · rintro ⟨rfl, rfl⟩
          exact ⟨⟨rfl, ⟨low, high, hkind⟩, hcap⟩, rfl⟩
        · rintro ⟨⟨rfl, _, _⟩, rfl⟩
          exact ⟨rfl, rfl⟩
      · simp only [Option.some.injEq, false_iff]
        rintro ⟨⟨rfl, _, hc⟩, _⟩
        exact hcap hc
    | beacon channel tag =>
      simp only [hkind, reduceCtorEq, Option.some.injEq, false_iff]
      rintro ⟨⟨rfl, ⟨_, _, hk⟩, _⟩, _⟩
      rw [hkind] at hk
      cases hk

theorem ovenMatch_eq_none_iff (c : Settings) (b : Instant) (x : Slot) : ovenMatch c b x = none ↔ ∀ e, ¬ x.hears c b e := by
  refine ⟨fun h e he => ?_, fun h => ?_⟩
  · have hsome := (ovenMatch_eq_some_iff c b x _ e).2 ⟨he, rfl⟩
    rw [h] at hsome
    cases hsome
  · cases hm : ovenMatch c b x with
    | none => rfl
    | some p => exact absurd ((ovenMatch_eq_some_iff c b x p.1 p.2).1 hm).1 (h p.2)

/-- A slot as a candidate for the best match. -/
def State.matchCandidate (s : State) (b : Instant) (i : Fin 16) : Option (Nat × Fin 16 × Source) :=
  (ovenMatch s.settings b (s.slot i)).map fun p => (p.1, i, p.2)

theorem State.bestMatch_eq (s : State) (b : Instant) :
    s.bestMatch b = (allSlots.foldl (leastStep (s.matchCandidate b) Prod.fst) none).map Prod.snd := by
  show (allSlots.foldl _ none).map Prod.snd = _
  congr 2
  funext best i
  unfold leastStep State.matchCandidate
  cases ovenMatch s.settings b (s.slot i) with
  | none => cases best <;> rfl
  | some p => cases best <;> rfl

/-- The slot holds the OVEN entry nearest to a start within the oven capture, the lowest slot among equals (R121). -/
def State.bestMatchIs (s : State) (b : Instant) (i : Fin 16) (e : Source) : Prop :=
  (s.slot i).hears s.settings b e ∧ ∀ j f, (s.slot j).hears s.settings b f →
    (e.error b).natAbs < (f.error b).natAbs ∨ (e.error b).natAbs = (f.error b).natAbs ∧ i ≤ j

theorem State.matchCandidate_eq_some_iff (s : State) (b : Instant) (i : Fin 16) (a : Nat × Fin 16 × Source) :
    s.matchCandidate b i = some a ↔ ∃ e, (s.slot i).hears s.settings b e ∧ a = ((e.error b).natAbs, i, e) := by
  unfold State.matchCandidate
  rw [Option.map_eq_some_iff]
  constructor
  · rintro ⟨⟨n, e⟩, hp, rfl⟩
    obtain ⟨hhears, rfl⟩ := (ovenMatch_eq_some_iff _ _ _ _ _).1 hp
    exact ⟨e, hhears, rfl⟩
  · rintro ⟨e, hhears, rfl⟩
    exact ⟨_, (ovenMatch_eq_some_iff _ _ _ _ _).2 ⟨hhears, rfl⟩, rfl⟩

theorem State.isLeast_matchCandidate_iff (s : State) (b : Instant) (i : Fin 16) (e : Source) :
    isLeast (s.matchCandidate b) Prod.fst i ((e.error b).natAbs, i, e) ↔ s.bestMatchIs b i e := by
  unfold isLeast State.bestMatchIs
  simp only [State.matchCandidate_eq_some_iff]
  refine and_congr ⟨?_, fun h => ⟨e, h, rfl⟩⟩ ⟨fun h j f hf => h j _ ⟨f, hf, rfl⟩, ?_⟩
  · rintro ⟨f, hf, heq⟩
    simp only [Prod.mk.injEq, true_and] at heq
    rwa [heq.2]
  · rintro h j _ ⟨f, hf, rfl⟩
    exact h j f hf

theorem State.bestMatch_eq_some_iff (s : State) (b : Instant) (i : Fin 16) (e : Source) :
    s.bestMatch b = some (i, e) ↔ s.bestMatchIs b i e := by
  rw [s.bestMatch_eq, Option.map_eq_some_iff]
  refine ⟨?_, fun h => ⟨_, scan_of_isLeast _ _ ((s.isLeast_matchCandidate_iff b i e).2 h), rfl⟩⟩
  rintro ⟨a, hscan, ha⟩
  obtain ⟨j, hleast⟩ := isLeast_of_scan _ _ hscan
  obtain ⟨f, _, rfl⟩ := (s.matchCandidate_eq_some_iff b j a).1 hleast.1
  cases ha
  exact (s.isLeast_matchCandidate_iff b i e).1 hleast

theorem State.bestMatch_eq_none_iff (s : State) (b : Instant) :
    s.bestMatch b = none ↔ ∀ i e, ¬ (s.slot i).hears s.settings b e := by
  rw [s.bestMatch_eq, Option.map_eq_none_iff, scan_eq_none_iff]
  refine forall_congr' fun i => ?_
  rw [State.matchCandidate, Option.map_eq_none_iff, ovenMatch_eq_none_iff]

/-! ### The slot for a new entry (R125) -/

/-- A learning-owned ACQUIRING entry as a candidate for replacement. -/
def State.replaceCandidate (s : State) (i : Fin 16) : Option (Nat × Fin 16) :=
  if (s.slot i).owner = .learn then
    ((s.slot i).entry.filter fun e => e.state == .acquiring).map fun e => (e.matchCount, i)
  else none

theorem State.replaceCandidate_eq_some_iff (s : State) (i : Fin 16) (a : Nat × Fin 16) :
    s.replaceCandidate i = some a ↔
      (s.slot i).owner = .learn ∧ ∃ e, (s.slot i).entry = some e ∧ e.state = .acquiring ∧ a = (e.matchCount, i) := by
  unfold State.replaceCandidate
  split_ifs with howner
  · simp only [howner, true_and, Option.map_eq_some_iff, Option.filter_eq_some_iff, beq_iff_eq]
    exact exists_congr fun e => ⟨fun ⟨⟨he, hst⟩, ha⟩ => ⟨he, hst, ha.symm⟩, fun ⟨he, hst, ha⟩ => ⟨⟨he, hst⟩, ha.symm⟩⟩
  · simp [howner]

/-- The lowest FREE slot owned by LEARN. -/
def State.lowestFree (s : State) : Option (Fin 16) := allSlots.find? fun i => (s.slot i).owner == .learn && (s.slot i).entry.isNone

theorem State.slotForNew_eq (s : State) :
    s.slotForNew = s.lowestFree.or ((allSlots.foldl (leastStep s.replaceCandidate Prod.fst) none).map Prod.snd) := by
  unfold State.slotForNew State.lowestFree
  split
  case h_1 i hfind => rw [hfind]; rfl
  case h_2 hfind =>
    rw [hfind, Option.none_or]
    dsimp only
    congr 2
    funext best i
    unfold leastStep State.replaceCandidate
    cases howner : (s.slot i).owner with
    | host => simp
    | learn =>
      cases hentry : (s.slot i).entry with
      | none => simp
      | some e => cases hst : e.state <;> cases best <;> simp [Option.filter, hst]

theorem State.newSlotIs_of_slotForNew (s : State) (i : Fin 16) (h : s.slotForNew = some i) : s.newSlotIs i := by
  rw [s.slotForNew_eq] at h
  cases hfind : s.lowestFree with
  | some j =>
    simp only [hfind, Option.some_or, Option.some.injEq] at h
    subst h
    rw [State.lowestFree, List.find?_eq_some_iff_append] at hfind
    obtain ⟨hj, before, after, hcut, hbefore⟩ := hfind
    simp only [Bool.and_eq_true, beq_iff_eq, Option.isNone_iff_eq_none] at hj
    refine ⟨hj.1, .inl ⟨hj.2, fun k hk hfree => ?_⟩⟩
    have hk' := hbefore k ((mem_of_lt_of_cut hcut).1 hk)
    simp [hfree.1, hfree.2] at hk'
  | none =>
    simp only [hfind, Option.none_or, Option.map_eq_some_iff] at h
    obtain ⟨a, hscan, ha⟩ := h
    obtain ⟨j, hj, hleast⟩ := isLeast_of_scan _ _ hscan
    obtain ⟨howner, e, he, hst, rfl⟩ := (s.replaceCandidate_eq_some_iff j a).1 hj
    cases ha
    rw [State.lowestFree, List.find?_eq_none] at hfind
    refine ⟨howner, .inr ⟨fun k hk hnone => hfind k (mem_allSlots k) (by simp [hk, hnone]), e, he, hst, fun k f hk hf hfst => ?_⟩⟩
    exact hleast k _ ((s.replaceCandidate_eq_some_iff k _).2 ⟨hk, f, hf, hfst, rfl⟩)

/-- R125's choice is one slot. -/
theorem State.newSlotIs_unique (s : State) {i j : Fin 16} (hi : s.newSlotIs i) (hj : s.newSlotIs j) : i = j := by
  obtain ⟨hio, hi⟩ := hi
  obtain ⟨hjo, hj⟩ := hj
  rcases hi with ⟨hin, hifirst⟩ | ⟨hifull, e, he, hest, hileast⟩
  · rcases hj with ⟨hjn, hjfirst⟩ | ⟨hjfull, _⟩
    · rcases lt_trichotomy i j with hlt | heq | hgt
      · exact absurd ⟨hio, hin⟩ (hjfirst i hlt)
      · exact heq
      · exact absurd ⟨hjo, hjn⟩ (hifirst j hgt)
    · exact absurd hin (hjfull i hio)
  · rcases hj with ⟨hjn, _⟩ | ⟨_, f, hf, hfst, hjleast⟩
    · exact absurd hjn (hifull j hjo)
    · have hij := hileast j f hjo hf hfst
      have hji := hjleast i e hio he hest
      exact le_antisymm (by omega) (by omega)

theorem State.noNewSlot_of_slotForNew (s : State) (h : s.slotForNew = none) : s.noNewSlot := by
  rw [s.slotForNew_eq] at h
  cases hfind : s.lowestFree with
  | some j => simp [hfind] at h
  | none =>
    simp only [hfind, Option.none_or, Option.map_eq_none_iff, scan_eq_none_iff] at h
    intro i howner
    rw [State.lowestFree, List.find?_eq_none] at hfind
    have hentry := hfind i (mem_allSlots i)
    cases he : (s.slot i).entry with
    | none => simp [howner, he] at hentry
    | some e =>
      refine ⟨e, rfl, fun hst => ?_⟩
      have hcandidate := (s.replaceCandidate_eq_some_iff i (e.matchCount, i)).2 ⟨howner, e, he, hst, rfl⟩
      rw [h i] at hcandidate
      cases hcandidate

theorem State.not_newSlotIs_of_noNewSlot (s : State) (h : s.noNewSlot) (i : Fin 16) : ¬ s.newSlotIs i := by
  rintro ⟨howner, hi⟩
  obtain ⟨e, he, hst⟩ := h i howner
  rcases hi with ⟨hnone, _⟩ | ⟨_, f, hf, hfst, _⟩
  · rw [he] at hnone
    cases hnone
  · rw [he, Option.some.injEq] at hf
    exact hst (hf ▸ hfst)

theorem State.slotForNew_eq_some_iff (s : State) (i : Fin 16) : s.slotForNew = some i ↔ s.newSlotIs i := by
  refine ⟨s.newSlotIs_of_slotForNew i, fun h => ?_⟩
  cases hnew : s.slotForNew with
  | none => exact absurd h (s.not_newSlotIs_of_noNewSlot (s.noNewSlot_of_slotForNew hnew) i)
  | some j => rw [s.newSlotIs_unique h (s.newSlotIs_of_slotForNew j hnew)]

theorem State.slotForNew_eq_none_iff (s : State) : s.slotForNew = none ↔ s.noNewSlot := by
  refine ⟨s.noNewSlot_of_slotForNew, fun h => ?_⟩
  cases hnew : s.slotForNew with
  | none => rfl
  | some j => exact absurd (s.newSlotIs_of_slotForNew j hnew) (s.not_newSlotIs_of_noNewSlot h j)

/-! ### The learned beacon of a tag and a channel (R127) -/

theorem Slot.beaconOf_eq_some_iff (x : Slot) (tag : BitVec 48) (n : Nat) (e : Source) :
    x.beaconOf tag n = some e ↔ x.entry = some e ∧ e.kind = .beacon n tag := by
  simp [Slot.beaconOf, Option.filter_eq_some_iff]

theorem State.slot_of_learnedBeacon (s : State) (tag : BitVec 48) (n : Nat) (i : Fin 16) (e : Source)
    (h : s.learnedBeacon tag n = some (i, e)) : (s.slot i).owner = .learn ∧ (s.slot i).entry = some e ∧ e.kind = .beacon n tag := by
  obtain ⟨j, _, hj⟩ := List.exists_of_findSome?_eq_some h
  split_ifs at hj with howner
  rw [Option.map_eq_some_iff] at hj
  obtain ⟨f, hf, heq⟩ := hj
  cases heq
  obtain ⟨hentry, hkind⟩ := (Slot.beaconOf_eq_some_iff _ _ _ _).1 hf
  exact ⟨beq_iff_eq.1 howner, hentry, hkind⟩

theorem State.learnedBeacon_eq_none_iff (s : State) (tag : BitVec 48) (n : Nat) :
    s.learnedBeacon tag n = none ↔
      ∀ i e, (s.slot i).owner = .learn → (s.slot i).entry = some e → e.kind ≠ .beacon n tag := by
  unfold State.learnedBeacon
  rw [List.findSome?_eq_none_iff]
  refine ⟨fun h i e howner hentry hkind => ?_, fun h i _ => ?_⟩
  · have hi := h i (mem_allSlots i)
    rw [(Slot.beaconOf_eq_some_iff _ _ _ _).2 ⟨hentry, hkind⟩] at hi
    simp [howner] at hi
  · split_ifs with howner
    · cases hb : (s.slot i).beaconOf tag n with
      | none => rfl
      | some e =>
        obtain ⟨hentry, hkind⟩ := (Slot.beaconOf_eq_some_iff _ _ _ _).1 hb
        exact absurd hkind (h i e (beq_iff_eq.1 howner) hentry)
    · rfl

end Sys2Proof.Machine

/-! PROOFS. The laws of the source table: entries in range, learned beacons distinct (R116, R127, R148). -/

namespace Sys2Proof.Machine

/-! ### Entries and settings in range -/

/-- The bounds of a consistent record that the tracker's arithmetic rests on (Table 10-1). -/
theorem Settings.consistent_bounds (c : Settings) (h : c.consistent = true) :
    c.guardLead ≤ 2000 ∧ c.guardTrail ≤ 2000 ∧ 15000 ≤ c.ovenPeriodMin ∧ c.ovenPeriodMin ≤ c.ovenPeriodDefault
      ∧ c.ovenPeriodDefault ≤ c.ovenPeriodMax ∧ c.ovenPeriodMax ≤ 22000 ∧ 1 ≤ c.missLimit ∧ c.missLimit ≤ 32
      ∧ 100 ≤ c.ovenCapture ∧ c.ovenCapture ≤ 4000 ∧ 100 ≤ c.beaconCapture ∧ c.beaconCapture ≤ 4000 := by
  simp only [Settings.consistent, Bool.and_eq_true, decide_eq_true_eq] at h
  omega

theorem clampNat_bounds (lo hi x : Nat) (h : lo ≤ hi) : lo ≤ clampNat lo hi x ∧ clampNat lo hi x ≤ hi := by
  unfold clampNat
  split_ifs <;> omega

/-- What an entry's clamping rests on: its counts, its span or channel, and a beacon's period (Table 8-1). -/
def Source.shaped (e : Source) : Prop :=
  e.matchCount ≤ 255 ∧ e.missRun ≤ 32
    ∧ match e.kind with
      | .oven low high => isChannel low ∧ isChannel high ∧ low ≤ high
      | .beacon n _ => e.period % 1024 = 0 ∧ 10 ≤ e.period / 1024 ∧ e.period / 1024 ≤ 1000 ∧ isChannel n

theorem Source.shaped_of_lawful {c : Settings} {e : Source} (h : e.lawful c) : e.shaped := by
  obtain ⟨_, _, hcount, hrun, hkind⟩ := h
  refine ⟨hcount, hrun, ?_⟩
  cases hk : e.kind with
  | oven low high =>
    simp only [hk] at hkind
    exact ⟨hkind.2.2.1, hkind.2.2.2.1, hkind.2.2.2.2⟩
  | beacon n tag =>
    simp only [hk] at hkind
    exact hkind

/-- An entry clamped under a consistent record lies in its ranges (R116). -/
theorem Source.clamp_lawful {c : Settings} {e : Source} (hc : c.consistent = true) (h : e.shaped) : (e.clamp c).lawful c := by
  have hbounds := c.consistent_bounds hc
  obtain ⟨hcount, hrun, hkind⟩ := h
  cases hk : e.kind with
  | oven low high =>
    simp only [hk] at hkind
    have hperiod := clampNat_bounds c.ovenPeriodMin c.ovenPeriodMax e.period (by omega)
    have hduration := clampNat_bounds 64 (durationBound c (clampNat c.ovenPeriodMin c.ovenPeriodMax e.period)) e.duration
      (by unfold durationBound; omega)
    simp only [Source.lawful, Source.clamp, hk]
    unfold durationBound at hduration ⊢
    exact ⟨hduration.1, by omega, hcount, hrun, hperiod.1, hperiod.2, hkind⟩
  | beacon n tag =>
    simp only [hk] at hkind
    have hduration := clampNat_bounds 64 (durationBound c e.period) e.duration (by unfold durationBound; omega)
    simp only [Source.lawful, Source.clamp, hk]
    unfold durationBound at hduration ⊢
    exact ⟨hduration.1, by omega, hcount, hrun, hkind⟩

@[simp] theorem Source.clamp_kind (c : Settings) (e : Source) : (e.clamp c).kind = e.kind := rfl

/-- A span widened by a channel, beside a change of start, period or duration that leaves a beacon's period. -/
theorem Source.widen_lawful {c : Settings} {e : Source} {n : Nat} (h : e.lawful c) (hn : isChannel n) :
    Source.lawful c { e with kind := e.kind.widen n } := by
  obtain ⟨hlow, hhigh, hcount, hrun, hkind⟩ := h
  refine ⟨hlow, hhigh, hcount, hrun, ?_⟩
  cases hk : e.kind with
  | oven low high =>
    simp only [hk] at hkind
    simp only [SourceKind.widen, isChannel] at hn hkind ⊢
    omega
  | beacon channel tag =>
    simp only [hk] at hkind
    exact hkind

theorem Source.countMatch_lawful {c : Settings} {e : Source} (n : Nat) (h : e.lawful c) : (e.countMatch n).lawful c := by
  obtain ⟨hlow, hhigh, _, _, hkind⟩ := h
  exact ⟨hlow, hhigh, by simp only [Source.countMatch, saturate_eq_min]; omega, Nat.zero_le _, hkind⟩

/-- A change of start, state and matched flag, and of the miss run within its range, keeps an entry in its ranges. -/
theorem Source.lawful_of_same {c : Settings} {e e' : Source} (h : e.lawful c) (hkind : e'.kind = e.kind) (hperiod : e'.period = e.period)
    (hduration : e'.duration = e.duration) (hcount : e'.matchCount = e.matchCount) (hrun : e'.missRun ≤ 32) : e'.lawful c := by
  obtain ⟨hlow, hhigh, hmatches, _, hk⟩ := h
  unfold Source.lawful
  rw [hduration, hperiod, hcount, hkind]
  exact ⟨hlow, hhigh, hmatches, hrun, hk⟩

/-- So does the advance to the next occurrence. -/
theorem Source.lawful_at {c : Settings} {e : Source} (start : Instant) (h : e.lawful c) : Source.lawful c { e with start } :=
  Source.lawful_of_same h rfl rfl rfl rfl h.2.2.2.1

/-! ### The two laws together -/

/-- The radio's channels: the part of the south link that the law of the entries reads. -/
def State.tuning (s : State) : Radio × Option Nat := (s.south.radio, s.south.lastChannel)

/-- The laws of the source table: the ranges where they are asked for, the distinct beacons where they are asked for. -/
def State.sourcesKept (ranged distinct : Prop) (s : State) : Prop := (ranged → s.sourcesLawful) ∧ (distinct → s.beaconsDistinct)

theorem SouthLink.lawful_of_tuning {s t : State} (h : t.tuning = s.tuning) (hs : s.south.lawful) : t.south.lawful := by
  obtain ⟨hradio, hlast⟩ := Prod.mk.inj h
  unfold SouthLink.lawful
  rw [hradio, hlast]
  exact hs

section
variable {R D : Prop} {s t : State}

/-- They read the slots, the settings and the radio's channels. -/
theorem State.sourcesKept_of_eq (h : s.sourcesKept R D) (hslots : ∀ i, t.slot i = s.slot i) (hsettings : t.engine.settings = s.engine.settings)
    (htuning : t.tuning = s.tuning) : t.sourcesKept R D := by
  refine ⟨fun hr => ?_, fun hd => ?_⟩
  · obtain ⟨hc, hsouth, hentries⟩ := h.1 hr
    refine ⟨(congrArg Settings.consistent hsettings).trans hc, SouthLink.lawful_of_tuning htuning hsouth, fun i e he => ?_⟩
    rw [State.settings, hsettings]
    exact hentries i e (hslots i ▸ he)
  · intro i j n tag e f hi he hek hj hf hfk
    rw [hslots] at hi he hj hf
    exact h.2 hd i j n tag e f hi he hek hj hf hfk

theorem State.sourcesKept_of_same (h : s.sourcesKept R D) (hsources : t.sources = s.sources) (hsettings : t.engine.settings = s.engine.settings)
    (htuning : t.tuning = s.tuning) : t.sourcesKept R D :=
  State.sourcesKept_of_eq h (State.slot_of_sources hsources) hsettings htuning

/-- A slot may hold an entry: one in its ranges, and no other learning-owned slot's beacon. -/
def State.mayHold (R D : Prop) (s : State) (i : Fin 16) (e : Source) : Prop :=
  (R → e.lawful s.settings)
    ∧ (D → ∀ n tag, e.kind = .beacon n tag → ∀ j f, j ≠ i → (s.slot j).owner = .learn → (s.slot j).entry = some f →
        f.kind ≠ .beacon n tag)

/-- One slot changes: a learning-owned entry of it must be one that it may hold, a host-owned one in its ranges. -/
theorem State.sourcesKept_of_slot (h : s.sourcesKept R D) (i : Fin 16) (hother : ∀ j, j ≠ i → t.slot j = s.slot j)
    (hsettings : t.engine.settings = s.engine.settings) (htuning : t.tuning = s.tuning)
    (hentry : ∀ e, (t.slot i).entry = some e → s.mayHold R ((t.slot i).owner = .learn ∧ D) i e) : t.sourcesKept R D := by
  refine ⟨fun hr => ?_, fun hd => ?_⟩
  · obtain ⟨hc, hsouth, hentries⟩ := h.1 hr
    refine ⟨(congrArg Settings.consistent hsettings).trans hc, SouthLink.lawful_of_tuning htuning hsouth, fun j e he => ?_⟩
    rw [State.settings, hsettings]
    by_cases hj : j = i
    · subst hj
      exact (hentry e he).1 hr
    · rw [hother j hj] at he
      exact hentries j e he
  · intro j k n tag e f hj he hek hk hf hfk
    by_cases hji : j = i <;> by_cases hki : k = i
    · rw [hji, hki]
    · subst hji
      rw [hother k hki] at hk hf
      exact absurd hfk ((hentry e he).2 ⟨hj, hd⟩ n tag hek k f hki hk hf)
    · subst hki
      rw [hother j hji] at hj he
      exact absurd hek ((hentry f hf).2 ⟨hk, hd⟩ n tag hfk j e hji hj he)
    · rw [hother j hji] at hj he
      rw [hother k hki] at hk hf
      exact h.2 hd j k n tag e f hj he hek hk hf hfk

/-- No other learning-owned slot holds the beacon that a learning-owned slot holds. -/
theorem State.elsewhere_of_entry (h : s.sourcesKept R D) (hd : D) {i : Fin 16} {e : Source} {n : Nat} {tag : BitVec 48}
    (howner : (s.slot i).owner = .learn) (he : (s.slot i).entry = some e) (hk : e.kind = .beacon n tag) (j : Fin 16) (f : Source)
    (hji : j ≠ i) (hj : (s.slot j).owner = .learn) (hf : (s.slot j).entry = some f) : f.kind ≠ .beacon n tag :=
  fun hfk => hji (h.2 hd j i n tag f e hj hf hfk howner he hk)

/-- A learning-owned slot may hold a changed entry that is no beacon its old entry was not. -/
theorem State.mayHold_of_entry (h : s.sourcesKept R D) {i : Fin 16} {e e' : Source} (he : (s.slot i).entry = some e)
    (hkind : ∀ n tag, e'.kind = .beacon n tag → e.kind = .beacon n tag)
    (hlaw : s.settings.consistent = true → e.lawful s.settings → e'.lawful s.settings) :
    s.mayHold R ((s.slot i).owner = .learn ∧ D) i e' := by
  refine ⟨fun hr => ?_, fun ⟨howner, hd⟩ n tag hk =>
    State.elsewhere_of_entry h hd howner he (hkind n tag hk)⟩
  obtain ⟨hc, _, hentries⟩ := h.1 hr
  exact hlaw hc (hentries i e he)

/-- The entry of a slot replaced, its owner standing. -/
theorem State.setSlot_sourcesKept (h : s.sourcesKept R D) (i : Fin 16) (x : Slot)
    (hx : ∀ e, x.entry = some e → s.mayHold R (x.owner = .learn ∧ D) i e) : (s.setSlot i x).sourcesKept R D := by
  refine State.sourcesKept_of_slot h i (fun j hj => s.slot_setSlot_other i j x (Ne.symm hj)) rfl rfl fun e he => ?_
  rw [State.slot_setSlot_self] at he ⊢
  exact hx e he

theorem State.freeSlot_sourcesKept (h : s.sourcesKept R D) (i : Fin 16) : (s.freeSlot i).sourcesKept R D := by
  refine State.sourcesKept_of_slot h i (fun j hj => s.slot_freeSlot_other i j (Ne.symm hj)) rfl rfl fun e he => ?_
  rw [State.slot_freeSlot_self] at he
  cases he

end

/-! ### Checks -/

section
variable {R D : Prop} (t : Track) (h : t.state.sourcesKept R D) (i : Fin 16)
include h

theorem Track.modDetector_sourcesKept (f : Detector → Detector) : (t.modDetector f).state.sourcesKept R D :=
  State.sourcesKept_of_same h rfl rfl rfl

theorem Track.withRecord_sourcesKept (r : Option MatchRecord) : (t.state.withRecord r).sourcesKept R D :=
  State.sourcesKept_of_eq h (fun _ => rfl) rfl rfl

theorem Track.store_sourcesKept (was : Option SourceState) (e : Source) (changed : Bool)
    (he : t.state.mayHold R ((t.state.slot i).owner = .learn ∧ D) i e) : (t.store i was e changed).state.sourcesKept R D :=
  State.setSlot_sourcesKept h i _ fun f hf => by
    cases hf
    exact he

/-- The advance of the slot's entry to the next occurrence. -/
theorem Track.advance_sourcesKept (e e' : Source) (he : (t.state.slot i).entry = some e) (hkind : e'.kind = e.kind)
    (hlaw : e.lawful t.state.settings → e'.lawful t.state.settings) : (t.advance i e').state.sourcesKept R D := by
  refine State.setSlot_sourcesKept h i _ fun f hf => ?_
  cases hf
  exact State.mayHold_of_entry h he (fun n tag hk => hkind.symm.trans hk) fun _ hl => Source.lawful_at _ (hlaw hl)

theorem Track.miss_sourcesKept (e : Source) (he : (t.state.slot i).entry = some e) : (t.miss i e).state.sourcesKept R D := by
  unfold Track.miss
  extract_lets run
  split
  case h_1 =>
    split <;> exact State.freeSlot_sourcesKept h i
  case h_2 st hafter =>
    extract_lets e'
    have hrun : run < t.state.settings.missLimit := by
      cases hst : e.state <;> simp only [hst, stateAfterMiss] at hafter <;> (try cases hafter) <;> split_ifs at hafter <;> omega
    have hlaw (hc : t.state.settings.consistent = true) (hl : e.lawful t.state.settings) : e'.lawful t.state.settings := by
      have hlimit := (t.state.settings.consistent_bounds hc).2.2.2.2.2.2.2.1
      exact Source.lawful_of_same hl rfl rfl rfl rfl (show run ≤ 32 by omega)
    have hstored := t.store_sourcesKept h i (some e.state) e' false (State.mayHold_of_entry h he (fun _ _ hk => hk) hlaw)
    exact Track.advance_sourcesKept _ hstored i e' e' (by simp [Track.store]) rfl id

theorem Track.judgeOnce_sourcesKept : (t.judgeOnce i).state.sourcesKept R D := by
  unfold Track.judgeOnce
  extract_lets x
  split
  case h_1 => exact h
  case h_2 e he =>
    split
    case h_1 => exact t.advance_sourcesKept h i e e he rfl id
    case h_2 =>
      exact t.advance_sourcesKept h i e _ he rfl fun hl => Source.lawful_of_same hl rfl rfl rfl rfl hl.2.2.2.1
    case h_3 => exact t.miss_sourcesKept h i e he
    case h_4 =>
      refine State.setSlot_sourcesKept h i _ fun f hf => ?_
      exact State.mayHold_of_entry h hf (fun _ _ hk => hk) fun _ hl => hl
    case h_5 => exact t.advance_sourcesKept h i e e he rfl id

theorem Track.judgePassed_sourcesKept : (t.judgePassed i).state.sourcesKept R D := by
  unfold Track.judgePassed
  split
  · exact t.judgeOnce_sourcesKept h i
  · exact h

theorem Track.check_sourcesKept : (t.check i).state.sourcesKept R D :=
  Track.judgePassed_sourcesKept _ (t.judgeOnce_sourcesKept h i) i

theorem Track.arm_sourcesKept : (t.arm i).state.sourcesKept R D := by
  unfold Track.arm
  extract_lets x
  split
  case h_1 => exact h
  case h_2 e he =>
    refine Track.judgePassed_sourcesKept _ (State.setSlot_sourcesKept h i _ fun f hf => ?_) i
    exact State.mayHold_of_entry h hf (fun _ _ hk => hk) fun _ hl => hl

theorem Track.checkDeferred_sourcesKept : t.checkDeferred.state.sourcesKept R D :=
  allSlots.foldlRecOn (motive := fun u : Track => u.state.sourcesKept R D) _ h fun u hu i _ => by
    split
    · exact u.check_sourcesKept hu i
    · exact hu

theorem Track.armAll_sourcesKept : t.armAll.state.sourcesKept R D :=
  allSlots.foldlRecOn (motive := fun u : Track => u.state.sourcesKept R D) _ h fun u hu i _ => u.arm_sourcesKept hu i

/-! ### Matching and creation -/

theorem Track.settle_sourcesKept (was : Option SourceState) (e : Source) (changed : Bool)
    (he : t.state.mayHold R ((t.state.slot i).owner = .learn ∧ D) i e) : (t.settle i was e changed).state.sourcesKept R D := by
  have hstored := t.store_sourcesKept h i was e changed he
  unfold Track.settle
  extract_lets t₁ t₂
  have h₂ : t₂.state.sourcesKept R D := by
    show (if _ then t₁.raise .sourceLocked else t₁).state.sourcesKept R D
    split <;> exact hstored
  exact t₂.arm_sourcesKept h₂ i

theorem Track.matchOven_sourcesKept (e : Source) (n : Nat) (b : Instant) (he : (t.state.slot i).entry = some e)
    (hoven : ∃ low high, e.kind = .oven low high) (hn : R → isChannel n) : (t.matchOven i e n b).state.sourcesKept R D := by
  obtain ⟨low, high, hkind⟩ := hoven
  refine t.settle_sourcesKept h i _ _ _ ⟨fun hr => ?_, fun _ n' tag hk => ?_⟩
  · obtain ⟨hc, _, hentries⟩ := h.1 hr
    refine Source.countMatch_lawful _ (Source.widen_lawful (Source.clamp_lawful hc ?_) (hn hr))
    obtain ⟨hcount, hrun, hspan⟩ := Source.shaped_of_lawful (hentries i e he)
    exact ⟨hcount, hrun, by simpa only [hkind] using hspan⟩
  · simp [Source.countMatch, Source.clamp, SourceKind.widen, hkind] at hk

theorem Track.startEvent_sourcesKept (v : BurstStart) (hn : R → isChannel v.channel) : (t.startEvent v).state.sourcesKept R D := by
  unfold Track.startEvent
  split
  case h_1 => exact t.withRecord_sourcesKept h _
  case h_2 i e hbest =>
    extract_lets t₁
    have h₁ : t₁.state.sourcesKept R D := t.withRecord_sourcesKept h _
    obtain ⟨⟨hentry, hoven, _⟩, _⟩ := (t.state.bestMatch_eq_some_iff _ i e).1 hbest
    split
    · exact h₁
    · exact t₁.matchOven_sourcesKept h₁ i e _ _ hentry hoven hn

omit h in
/-- The entry for a beacon that no learning-owned slot holds, or for an oven, may stand in any slot. -/
theorem State.mayHold_of_unknown (s : State) (j : Fin 16) (e : Source) (hlaw : R → e.lawful s.settings)
    (hbeacon : ∀ n tag, e.kind = .beacon n tag → s.learnedBeacon tag n = none) : s.mayHold R D j e :=
  ⟨hlaw, fun _ n tag hk k f _ hkowner hf => (s.learnedBeacon_eq_none_iff tag n).1 (hbeacon n tag hk) k f hkowner hf⟩

theorem Track.create_sourcesKept (e : Source) (hlaw : R → e.lawful t.state.settings)
    (hbeacon : ∀ n tag, e.kind = .beacon n tag → t.state.learnedBeacon tag n = none) : (t.create e).state.sourcesKept R D := by
  unfold Track.create
  split
  case h_1 => exact h
  case h_2 i _ =>
    have hwithdrawn : State.sourcesKept R D { t.state with sources := t.state.sources.withdraw i } :=
      State.sourcesKept_of_eq h (t.state.slot_withdraw i) rfl rfl
    obtain ⟨hrange, hdistinct⟩ := t.state.mayHold_of_unknown (R := R) (D := D) i e hlaw hbeacon
    refine Track.settle_sourcesKept _ hwithdrawn i _ _ _ ⟨hrange, fun ⟨_, hd⟩ n tag hk j f hji hj hf => ?_⟩
    rw [State.slot_withdraw] at hj hf
    exact hdistinct hd n tag hk j f hji hj hf

theorem Track.updateDuration_sourcesKept (certain : Bool) (measured : Nat) :
    (t.updateDuration i certain measured).state.sourcesKept R D := by
  unfold Track.updateDuration
  extract_lets x
  split
  case h_1 e howner hentry =>
    split
    · split
      · refine t.store_sourcesKept h i _ _ _ (State.mayHold_of_entry h hentry (fun _ _ hk => hk) fun hc hl => ?_)
        exact Source.clamp_lawful hc (Source.shaped_of_lawful hl :)
      · exact h
    · exact h
  case h_2 => exact h

omit h in
theorem newOven_lawful {c : Settings} (n : Nat) (b : Instant) (measured : Nat) (hc : c.consistent = true) (hn : isChannel n) :
    (newOven c n b measured).lawful c :=
  Source.clamp_lawful hc ⟨(by decide : 1 ≤ 255), Nat.zero_le _, hn, hn, le_refl n⟩

theorem Track.endEvent_sourcesKept (v : BurstEnd) (hn : R → isChannel v.channel) : (t.endEvent v).state.sourcesKept R D := by
  unfold Track.endEvent
  split
  case h_1 => exact h
  case h_2 r _ =>
    split
    case isFalse => exact h
    case isTrue =>
      extract_lets t₁
      have h₁ : t₁.state.sourcesKept R D := by
        show (match r.result with | .slot i => _ | .unmatched => _ | .withdrawn => t : Track).state.sourcesKept R D
        split
        · exact t.updateDuration_sourcesKept h _ _ _
        · split
          · exact t.create_sourcesKept h _ (fun hr => newOven_lawful _ _ _ (h.1 hr).1 (hn hr)) fun _ _ hk => by cases hk
          · exact h
        · exact h
      exact t₁.withRecord_sourcesKept h₁ none

/-! ### Beacons -/

theorem Track.matchBeacon_sourcesKept (e : Source) (b : Instant) (measured : Nat) (he : (t.state.slot i).entry = some e) :
    (t.matchBeacon i e b measured).state.sourcesKept R D :=
  t.settle_sourcesKept h i _ _ _ (State.mayHold_of_entry h he (fun _ _ hk => hk) fun hc hl =>
    Source.countMatch_lawful _ (Source.clamp_lawful hc (Source.shaped_of_lawful hl :)))

omit h in
theorem anchoredBeacon_lawful {c : Settings} (x : Trailer) (measured : Nat) (hc : c.consistent = true) (hx : x.qualifies = true) :
    (anchoredBeacon c x.channel x.tag x.start (x.interval * 1024) measured).lawful c := by
  simp only [Trailer.qualifies, Bool.and_eq_true, decide_eq_true_eq] at hx
  refine Source.clamp_lawful hc ⟨(by decide : 1 ≤ 255), Nat.zero_le _, ?_⟩
  simp only [Nat.mul_mod_left, Nat.mul_div_cancel _ (show 0 < 1024 by decide), isChannel, true_and]
  omega

theorem Track.reanchor_sourcesKept (was : SourceState) (e : Source)
    (he : t.state.mayHold R ((t.state.slot i).owner = .learn ∧ D) i e) : (t.reanchor i was e).state.sourcesKept R D :=
  t.settle_sourcesKept h i (some .acquiring) e false he

theorem Track.learnBeacon_sourcesKept (x : Trailer) (hx : x.qualifies = true) : (t.learnBeacon x).state.sourcesKept R D := by
  unfold Track.learnBeacon
  extract_lets c period measured anchored
  have hanchored (hr : R) : anchored.lawful t.state.settings := anchoredBeacon_lawful x measured (h.1 hr).1 hx
  split
  case h_1 i e hlearned =>
    obtain ⟨_, hentry, hkind⟩ := t.state.slot_of_learnedBeacon _ _ i e hlearned
    have hmay : t.state.mayHold R ((t.state.slot i).owner = .learn ∧ D) i anchored := by
      refine ⟨hanchored, fun ⟨howner, hd⟩ n tag hk => ?_⟩
      cases hk
      exact State.elsewhere_of_entry h hd howner hentry hkind
    have hreanchored := t.reanchor_sourcesKept h i e.state anchored hmay
    split
    · split
      · split
        · exact h
        · exact t.matchBeacon_sourcesKept h i e _ _ hentry
      · exact hreanchored
    · exact hreanchored
  case h_2 hnone =>
    split
    · exact h
    · refine t.create_sourcesKept h anchored hanchored fun n tag hk => ?_
      cases hk
      exact hnone

end

end Sys2Proof.Machine

/-! PROOFS. Numbers and their bytes (R158). -/

namespace Sys2Proof.Machine

@[simp] theorem ofBytes_nil : ofBytes [] = 0 := rfl

/-- Bytes spelled after others. -/
theorem ofBytes_append (a b : List Byte) : ofBytes (a ++ b) = ofBytes a * 256 ^ b.length + ofBytes b := by
  induction b using List.reverseRecOn with
  | nil => simp
  | append_singleton b x ih =>
    have hstep (l : List Byte) : ofBytes (l ++ [x]) = ofBytes l * 256 + x.toNat := by simp [ofBytes, List.foldl_append]
    rw [← List.append_assoc, hstep, hstep, ih, List.length_append, List.length_singleton, pow_succ]
    ring

theorem ofBytes_singleton (x : Byte) : ofBytes [x] = x.toNat := by simp [ofBytes]

theorem ofBytes_cons (x : Byte) (l : List Byte) : ofBytes (x :: l) = x.toNat * 256 ^ l.length + ofBytes l := by
  rw [← List.singleton_append, ofBytes_append, ofBytes_singleton]

theorem ofBytes_lt (l : List Byte) : ofBytes l < 256 ^ l.length := by
  induction l with
  | nil => simp
  | cons x l ih =>
    rw [ofBytes_cons, List.length_cons, pow_succ]
    have hx : x.toNat + 1 ≤ 256 := x.isLt
    nlinarith [Nat.mul_le_mul_right (256 ^ l.length) hx]

/-- A number's low bytes read back as the number below their range. -/
theorem ofBytes_toBytes_mod (k v : Nat) : ofBytes (toBytes k v) = v % 256 ^ k := by
  induction k with
  | zero => simp [toBytes, Nat.mod_one]
  | succ k ih =>
    rw [toBytes, ofBytes_cons, toBytes_length, ih, BitVec.toNat_ofNat]
    have hsplit := Nat.mod_mul (x := v) (a := 256 ^ k) (b := 256)
    rw [pow_succ 256 k, hsplit, show 2 ^ 8 = 256 from rfl]
    ring

theorem ofBytes_toBytes {k v : Nat} (h : v < 256 ^ k) : ofBytes (toBytes k v) = v := by
  rw [ofBytes_toBytes_mod, Nat.mod_eq_of_lt h]

/-- Bytes are those of the number that they spell. -/
theorem toBytes_ofBytes (l : List Byte) : toBytes l.length (ofBytes l) = l := by
  have key (l : List Byte) : ∀ m, toBytes l.length (m * 256 ^ l.length + ofBytes l) = l := by
    induction l with
    | nil => exact fun _ => rfl
    | cons x l ih =>
      intro m
      have hlt := ofBytes_lt l
      have hrest : m * 256 ^ (l.length + 1) + ofBytes (x :: l) = (m * 256 + x.toNat) * 256 ^ l.length + ofBytes l := by
        rw [ofBytes_cons, pow_succ]
        ring
      rw [List.length_cons, toBytes, hrest, ih]
      congr 1
      rw [mul_comm, Nat.mul_add_div (by positivity), Nat.div_eq_of_lt hlt, add_zero]
      refine BitVec.eq_of_toNat_eq ?_
      rw [BitVec.toNat_ofNat, Nat.mul_comm m, Nat.mul_add_mod]
      exact Nat.mod_eq_of_lt x.isLt
  simpa using key l 0

theorem field_lt (bytes : List Byte) (offset size : Nat) : field bytes offset size < 256 ^ size :=
  (ofBytes_lt _).trans_le (Nat.pow_le_pow_right (by decide) (by simp))

end Sys2Proof.Machine

namespace Sys2Proof.Machine

/-! ### The radio's channels -/

@[simp] theorem State.addBusy_tuning (s : State) (x : Addition) : (s.addBusy x).tuning = s.tuning := by
  unfold State.addBusy
  split <;> rfl

@[simp] theorem State.addBusyAll_tuning (s : State) (xs : List Addition) : (s.addBusyAll xs).tuning = s.tuning :=
  xs.foldlRecOn (motive := fun u : State => u.tuning = s.tuning) _ rfl fun u hu x _ => (u.addBusy_tuning x).trans hu

theorem State.tuning_of_south {s t : State} (h : t.south = s.south) : t.tuning = s.tuning := by
  rw [State.tuning, State.tuning, h]

@[simp] theorem State.search_tuning (s : State) (opened : Bool) : (s.search opened).tuning = s.tuning :=
  State.tuning_of_south (by simp)

@[simp] theorem State.setFlags_tuning (s : State) (fs : List EventFlag) : (s.setFlags fs).tuning = s.tuning :=
  State.tuning_of_south (by simp)

@[simp] theorem State.setFlagIf_tuning (s : State) (c : Bool) (f : EventFlag) : (s.setFlagIf c f).tuning = s.tuning :=
  State.tuning_of_south (by simp)

@[simp] theorem State.rearmPacing_tuning (s : State) : s.rearmPacing.tuning = s.tuning := State.tuning_of_south (by simp)

@[simp] theorem Track.handOn_tuning (t : Track) : t.handOn.tuning = t.state.tuning := by
  unfold Track.handOn
  extract_lets s₁ s₂
  have h₂ : s₂.tuning = t.state.tuning := by
    show (if t.trigger then s₁.search false else s₁).tuning = _
    split <;> simp [s₁]
  simp [h₂]

@[simp] theorem State.handRing_tuning (s : State) (r : Ring) : (s.handRing r).tuning = s.tuning := by
  unfold State.handRing
  extract_lets s₁ s₂
  have h₂ : s₂.tuning = s.tuning := by
    show (if r.running then s₁.addBusy .ring else s₁).tuning = _
    split
    · exact s₁.addBusy_tuning .ring
    · rfl
  simp [h₂]

@[simp] theorem State.settle_tuning (s : State) (e : Outstanding) : (s.settle e).tuning = s.tuning := by
  have hunlisted : (s.unlist e).tuning = s.tuning := rfl
  rw [← hunlisted]
  exact State.tuning_of_south (s.settle_south e)

@[simp] theorem State.applyTxStat_tuning (s : State) (x : TxStat) : (s.applyTxStat x).tuning = s.tuning := by
  unfold State.applyTxStat
  split
  · exact State.tuning_of_south (by simp)
  · split
    · exact ((State.settle_tuning _ _).trans (State.tuning_of_south (by simp)))
    · exact ((State.settle_tuning _ _).trans (State.tuning_of_south (by simp)))
    · exact ((State.settle_tuning _ _).trans (State.tuning_of_south (by simp)))

@[simp] theorem State.txstatFrame_tuning (s : State) (f : LinkFrame) : (s.txstatFrame f).tuning = s.tuning := by
  refine s.southFrame_keeps State.tuning 7 f _ (State.tuning_of_south (by simp)) ?_
  unfold State.takeTxStat
  split
  · exact s.applyTxStat_tuning _
  · exact State.tuning_of_south (by simp)

@[simp] theorem State.southStart_tuning (s : State) (ready : Bool) : (s.southStart ready).tuning = s.tuning := by
  have hstarted (u : State) : u.startSouth.tuning = u.tuning := by
    unfold State.startSouth
    split <;> rfl
  unfold State.southStart
  split
  · dsimp only
    split
    · exact hstarted _
    · rfl
  · rfl

@[simp] theorem State.txdataSent_tuning (s : State) : s.txdataSent.tuning = s.tuning := by
  unfold State.txdataSent
  split <;> rfl

@[simp] theorem State.cancelSent_tuning (s : State) : s.cancelSent.tuning = s.tuning := by
  unfold State.cancelSent
  split <;> rfl

@[simp] theorem State.releaseHead_tuning (s : State) (q : Fin 16) (d : Descriptor) (r : Rate) (v : Verdict) :
    (s.releaseHead q d r v).tuning = s.tuning := by
  unfold State.releaseHead
  extract_lets rec' forced s₁ s₂
  have h₂ : s₂.tuning = s.tuning := State.tuning_of_south (by simp [s₂, s₁])
  exact (State.search_tuning _ false).trans h₂

@[simp] theorem State.arbitrate_tuning (s : State) (n : Nat) : (s.arbitrate n).tuning = s.tuning := by
  induction n generalizing s with
  | zero => rfl
  | succ n ih =>
    unfold State.arbitrate
    split
    · rfl
    · split
      · exact State.releaseHead_tuning _ _ _ _ _
      · exact (ih _).trans (State.tuning_of_south (by simp))

@[simp] theorem State.runArbiter_tuning (s : State) (ready : Bool) : (s.runArbiter ready).tuning = s.tuning := by
  unfold State.runArbiter
  dsimp only
  (repeat' split)
  · exact State.arbitrate_tuning _ _
  · rfl
  · rfl

/-! ### The detector's events -/

section
variable {R D : Prop} (t : Track) (h : t.state.sourcesKept R D) (n : Nat) (hn : R → isChannel n)
include h hn

theorem Track.endBurst_sourcesKept (stop : Instant) (certain : Bool) : (t.endBurst n stop certain).state.sourcesKept R D := by
  unfold Track.endBurst
  split
  · exact h
  · exact Track.endEvent_sourcesKept _ (t.modDetector_sourcesKept h _) _ hn

theorem Track.closeAtBreak_sourcesKept (stop : Option Instant) : (t.closeAtBreak n stop).state.sourcesKept R D := by
  unfold Track.closeAtBreak
  split
  · exact t.endBurst_sourcesKept h n hn _ _
  · exact t.modDetector_sourcesKept h _

theorem Track.startBurst_sourcesKept (stamp : Instant) (certain : Bool) (level : Int) :
    (t.startBurst n stamp certain level).state.sourcesKept R D := by
  unfold Track.startBurst
  extract_lets t₁
  have h₁ := t.modDetector_sourcesKept h fun d => { d with burst := some { start := stamp, certain, peak := level } }
  split
  · exact Track.startEvent_sourcesKept t₁ h₁ _ hn
  · exact h₁

theorem Track.sampleIdle_sourcesKept (stamp : Instant) (certain : Bool) (level : Int) :
    (t.sampleIdle n stamp certain level).state.sourcesKept R D := by
  unfold Track.sampleIdle
  split
  · exact t.startBurst_sourcesKept h n hn _ _ _
  · exact h

theorem Track.sample_sourcesKept (stamp : Instant) (certain : Bool) (level : Int) :
    (t.sample n stamp certain level).state.sourcesKept R D := by
  have hended := fun c => t.endBurst_sourcesKept h n hn stamp c
  unfold Track.sample
  split
  · exact t.sampleIdle_sourcesKept h n hn _ _ _
  · split
    · exact Track.sampleIdle_sourcesKept _ (hended false) n hn _ _ _
    · split
      · exact hended true
      · exact t.modDetector_sourcesKept h _

theorem Track.samples_sourcesKept (r : EnergyReport) (oldEnd : Option Instant) (i : Nat) (levels : List Int) :
    (Track.samples n r oldEnd i levels t).state.sourcesKept R D := by
  induction levels generalizing i t with
  | nil => exact h
  | cons level rest ih =>
    unfold Track.samples
    extract_lets stamp skipped t₁
    refine ih t₁ ?_ (i + 1)
    show (if skipped then t else _).state.sourcesKept R D
    split
    · exact h
    · exact t.sample_sourcesKept h n hn _ _ _

end

theorem SouthLink.isChannel_of_radio {s : State} {R D : Prop} (h : s.sourcesKept R D) {n : Nat} (hradio : s.south.radio = .onChannel n)
    (hr : R) : isChannel n := (h.1 hr).2.1.1 n hradio

section
variable {R D : Prop} (t : Track) (h : t.state.sourcesKept R D)
include h

theorem Track.removeSpans_sourcesKept (kept : List Span) : (t.removeSpans kept).state.sourcesKept R D := by
  unfold Track.removeSpans
  extract_lets t₁
  have h₁ : t₁.state.sourcesKept R D := t.modDetector_sourcesKept h _
  split
  case h_1 n hradio =>
    exact Track.checkDeferred_sourcesKept _ (t₁.closeAtBreak_sourcesKept h₁ n (SouthLink.isChannel_of_radio h hradio) _)
  case h_2 => exact h₁

theorem Track.ageSpans_sourcesKept : t.ageSpans.state.sourcesKept R D := by
  unfold Track.ageSpans
  (repeat' split)
  · exact h
  · exact t.removeSpans_sourcesKept h _
  · exact h

theorem Track.handOn_sourcesKept : t.handOn.sourcesKept R D :=
  State.sourcesKept_of_same h (by simp) (by simp) (by simp)

/-- The detector's part of a radio change from a state whose channel is one. -/
theorem Track.radioChange_sourcesKept (old : Radio) (hold : R → ∀ n, old = .onChannel n → isChannel n) :
    (t.radioChange old).state.sourcesKept R D := by
  unfold Track.radioChange
  extract_lets t₁
  have h₁ : t₁.state.sourcesKept R D := by
    cases old with
    | onChannel n => exact t.closeAtBreak_sourcesKept h n (fun hr => hold hr n rfl) _
    | away => exact t.modDetector_sourcesKept h _
    | down => exact t.modDetector_sourcesKept h _
  exact Track.checkDeferred_sourcesKept _ (t₁.modDetector_sourcesKept h₁ _)

end

section
variable {R D : Prop} (s : State) (h : s.sourcesKept R D)
include h

theorem State.detectionReport_sourcesKept (n : Nat) (r : EnergyReport) (hn : R → isChannel n) :
    (s.detectionReport n r).sourcesKept R D := by
  unfold State.detectionReport
  extract_lets oldEnd t₁ t₂ t₃ t₄
  have hbegin : (Track.begin s).state.sourcesKept R D := h
  have h₁ : t₁.state.sourcesKept R D := by
    show (if oldEnd.isSome then Track.begin s else _).state.sourcesKept R D
    split
    · exact hbegin
    · exact Track.closeAtBreak_sourcesKept _ hbegin n hn _
  have h₃ : t₃.state.sourcesKept R D := t₂.samples_sourcesKept (t₁.modDetector_sourcesKept h₁ _) n hn r oldEnd 0 r.samples
  have h₄ : t₄.state.sourcesKept R D := t₃.modDetector_sourcesKept h₃ _
  exact Track.handOn_sourcesKept _ (Track.ageSpans_sourcesKept _ (t₄.checkDeferred_sourcesKept h₄))

theorem State.energyReport_sourcesKept (r : EnergyReport) : (s.energyReport r).sourcesKept R D := by
  have hsurvey : (s.withDetector (s.detector.surveyReport s.settings.onLevel r)).sourcesKept R D :=
    State.sourcesKept_of_same h rfl rfl rfl
  unfold State.energyReport
  split
  case h_1 n hradio =>
    split
    · exact s.detectionReport_sourcesKept h n r (SouthLink.isChannel_of_radio h hradio)
    · exact hsurvey
  case h_2 => exact hsurvey

theorem State.readBeacon_sourcesKept (payload : List Byte) : (s.readBeacon payload).sourcesKept R D := by
  unfold State.readBeacon
  split
  case h_1 x _ =>
    split
    case isTrue hx => exact Track.handOn_sourcesKept _ (Track.learnBeacon_sourcesKept (Track.begin s) h x hx)
    case isFalse => exact h
  case h_2 => exact h

theorem State.coverageExpired_sourcesKept : s.coverageExpired.sourcesKept R D := by
  unfold State.coverageExpired
  split
  · exact Track.handOn_sourcesKept _ (Track.removeSpans_sourcesKept (Track.begin s) h _)
  · exact h

theorem State.checkExpired_sourcesKept (i : Fin 16) : (s.checkExpired i).sourcesKept R D := by
  unfold State.checkExpired
  split
  · exact Track.handOn_sourcesKept _ (Track.check_sourcesKept (Track.begin s) h i)
  · exact h

/-- A radio change to a channel, or to none, with the last channel one. -/
theorem State.changeRadio_sourcesKept (radio : Radio) (last : Option Nat) (opened : Bool)
    (hradio : R → (∀ n, radio = .onChannel n → isChannel n) ∧ ∀ n, last = some n → isChannel n) :
    (s.changeRadio radio last opened).sourcesKept R D := by
  unfold State.changeRadio
  extract_lets u t s₁
  have htuned : State.sourcesKept R D (s.withSouth { s.south with radio, lastChannel := last }) := by
    refine ⟨fun hr => ?_, h.2⟩
    obtain ⟨hc, _, hentries⟩ := h.1 hr
    exact ⟨hc, hradio hr, hentries⟩
  have ht : t.state.sourcesKept R D := Track.radioChange_sourcesKept (Track.begin _) htuned _ fun hr => (h.1 hr).2.1.1
  have h₁ : s₁.sourcesKept R D := State.sourcesKept_of_same ht (by simp [s₁]) (by simp [s₁]) (by simp [s₁])
  exact State.sourcesKept_of_same h₁ (by simp) (by simp) (by simp)

theorem State.applyRadio_sourcesKept (r : RadioRecord) (hr : ∀ n, r = .channel n → isChannel n) : (s.applyRadio r).sourcesKept R D := by
  unfold State.applyRadio
  split
  case h_1 n =>
    refine s.changeRadio_sourcesKept h _ _ _ fun _ => ⟨fun k hk => ?_, fun k hk => ?_⟩
    · cases hk; exact hr _ rfl
    · cases hk; exact hr _ rfl
  case h_2 => exact s.changeRadio_sourcesKept h _ _ _ fun hR => ⟨fun _ hk => Radio.noConfusion hk, (h.1 hR).2.1.2⟩
  case h_3 => exact h
  case h_4 =>
    split
    case h_1 n hlast =>
      refine s.changeRadio_sourcesKept h _ _ _ fun hR => ⟨fun k hk => ?_, fun k hk => ?_⟩
      · cases hk; exact (h.1 hR).2.1.2 n hlast
      · cases hk; exact (h.1 hR).2.1.2 n hlast
    case h_2 => exact h
  case h_5 => exact h

omit h in
theorem isChannel_of_readRadio {payload : List Byte} {n : Nat} (hread : readRadio payload = some (.channel n)) : isChannel n := by
  unfold readRadio at hread
  dsimp only at hread
  split at hread
  · cases hread
  · split at hread
    · split at hread
      case isTrue hrange => cases hread; exact hrange
      case isFalse => cases hread
    all_goals cases hread

theorem State.takeRadio_sourcesKept (f : LinkFrame) : (s.takeRadio f).sourcesKept R D := by
  unfold State.takeRadio
  split
  case h_1 r hread =>
    refine s.applyRadio_sourcesKept h r fun n hn => ?_
    subst hn
    exact isChannel_of_readRadio hread
  case h_2 => exact State.sourcesKept_of_same h (by simp) (by simp) (State.tuning_of_south (by simp))

theorem State.takeRxdata_sourcesKept (f : LinkFrame) : (s.takeRxdata f).sourcesKept R D :=
  State.readBeacon_sourcesKept _ (State.sourcesKept_of_same h (by simp) (by simp) (State.tuning_of_south (by simp))) f.payload

theorem State.southLost_sourcesKept : s.southLost.sourcesKept R D := by
  unfold State.southLost
  split
  case isTrue =>
    extract_lets l s₁ s₂ s₃
    have h₂ : s₂.sourcesKept R D :=
      State.sourcesKept_of_same h (by simp [s₂, s₁]) (by simp [s₂, s₁])
        ((State.tuning_of_south (s := s₁) (s₁.resolveAll_south rfl)).trans rfl)
    have h₃ : s₃.sourcesKept R D := by
      show (if s.south.radio = .down then s₂ else _).sourcesKept R D
      split
      · exact h₂
      · exact s₂.changeRadio_sourcesKept h₂ _ _ _ fun hR => ⟨fun _ hk => Radio.noConfusion hk, (h.1 hR).2.1.2⟩
    exact State.sourcesKept_of_same h₃ (by simp) (by simp) (State.tuning_of_south (by simp))
  case isFalse => exact h

end

/-! ### The commands of the source table -/

section
variable {R D : Prop} (s : State) (h : s.sourcesKept R D)
include h

theorem State.search_sourcesKept (opened : Bool) : (s.search opened).sourcesKept R D :=
  State.sourcesKept_of_same h (by simp) (by simp) (by simp)

theorem State.takeSlot_sourcesKept (i : Fin 16) : (s.takeSlot i).sourcesKept R D := by
  unfold State.takeSlot
  split
  · have htaken : (s.setSlot i { (s.slot i) with owner := .host }).sourcesKept R D :=
      State.setSlot_sourcesKept h i _ fun e he => ⟨fun hr => (h.1 hr).2.2 i e he, fun hlearn => Owner.noConfusion hlearn.1⟩
    exact State.search_sourcesKept _ htaken false
  · exact h

/-- A host-owned beacon returns to learning only when its tag and channel are not learned (R131). -/
theorem State.releaseSlot_sourcesKept (i : Fin 16) (hclash : s.releaseClashes i = false) : (s.releaseSlot i).sourcesKept R D := by
  unfold State.releaseSlot
  split
  case isTrue howner =>
    refine State.search_sourcesKept _ (State.setSlot_sourcesKept h i _ fun e' he' => ?_) false
    obtain ⟨e, he, rfl⟩ := Option.map_eq_some_iff.1 he'
    refine State.mayHold_of_unknown s i _ (fun hr => ?_) fun n tag hk => ?_
    · exact Source.lawful_of_same ((h.1 hr).2.2 i e he) rfl rfl rfl rfl (Nat.zero_le _)
    · have hk' : e.kind = .beacon n tag := hk
      simpa [State.releaseClashes, howner, he, hk'] using hclash
  case isFalse => exact h

theorem State.freeSource_sourcesKept (i : Fin 16) : (s.freeSource i).sourcesKept R D := by
  unfold State.freeSource
  split
  · exact State.search_sourcesKept _ (State.freeSlot_sourcesKept h i) false
  · exact h

/-- An entry written with owner HOST, in its ranges. -/
theorem State.writeSlot_sourcesKept (i : Fin 16) (e : Source) (he : R → e.lawful s.settings) : (s.writeSlot i e).sourcesKept R D := by
  unfold State.writeSlot
  extract_lets e' s₁ s₂
  have h₁ : s₁.sourcesKept R D := State.setSlot_sourcesKept h i _ fun f hf => by
    cases hf
    exact ⟨fun hr => Source.lawful_at _ (he hr), fun hlearn => Owner.noConfusion hlearn.1⟩
  have h₂ : s₂.sourcesKept R D := State.sourcesKept_of_eq h₁ (s₁.slot_withdraw i) rfl rfl
  exact State.search_sourcesKept _ (State.sourcesKept_of_same h₂ (by simp) (by simp) (by simp)) false

end

/-- A kind that a source image gives lies in its ranges for the period (R130). -/
theorem readSourceKind_ranges {c : Settings} {data : List Byte} {period : Nat} {kind : SourceKind}
    (h : readSourceKind c data period = some kind) :
    (∀ low high, kind = .oven low high →
        c.ovenPeriodMin ≤ period ∧ period ≤ c.ovenPeriodMax ∧ isChannel low ∧ isChannel high ∧ low ≤ high)
      ∧ ∀ n tag, kind = .beacon n tag → period % 1024 = 0 ∧ 10 ≤ period / 1024 ∧ period / 1024 ≤ 1000 ∧ isChannel n := by
  unfold readSourceKind at h
  dsimp only at h
  split at h
  · split_ifs at h with hrange
    cases h
    refine ⟨fun low high hk => ?_, fun _ _ hk => SourceKind.noConfusion hk⟩
    cases hk
    simp only [isChannel]
    omega
  · split_ifs at h with hrange
    cases h
    refine ⟨fun _ _ hk => SourceKind.noConfusion hk, fun n tag hk => ?_⟩
    cases hk
    simp only [isChannel]
    omega
  · cases h

theorem field_one_le (data : List Byte) (i : Nat) : field data i 1 ≤ 255 := Nat.le_of_lt_succ (field_lt data i 1)

/-- An accepted source image is an entry in its ranges (R116, R130). -/
theorem readSourceImage_lawful {c : Settings} {now : Instant} {data : List Byte} {e : Source} (hc : c.consistent = true)
    (h : readSourceImage c now data = some e) : e.lawful c := by
  unfold readSourceImage at h
  dsimp only at h
  split at h
  case isTrue hrange =>
    obtain ⟨_, hlow, hhigh, _⟩ := hrange
    split at h
    case h_1 kind state hkind _ =>
      cases h
      obtain ⟨hoven, hbeacon⟩ := readSourceKind_ranges hkind
      have hbounds := c.consistent_bounds hc
      refine ⟨hlow, ?_, field_one_le _ _, Nat.zero_le _, ?_⟩
      · unfold durationBound at hhigh
        show field data 12 4 + _ ≤ field data 8 4
        omega
      · cases kind with
        | oven low high => exact hoven low high rfl
        | beacon n tag => exact hbeacon n tag rfl
    case h_2 => cases h
  case isFalse => cases h

/-- Entries lawful before a settings change are lawful once clamped under the new record (R134). -/
theorem State.clampSources_sourcesKept {R D : Prop} (s : State) (c : Settings) (h : s.sourcesKept R D) (hc : c.consistent = true) :
    ((s.withSettings c).clampSources).sourcesKept R D := by
  have hslot (i : Fin 16) : ((s.withSettings c).clampSources).slot i =
      { (s.slot i) with entry := (s.slot i).entry.map (Source.clamp c) } := by
    simp [State.slot, State.clampSources, State.settings]
  refine ⟨fun hr => ⟨hc, (h.1 hr).2.1, fun i e he => ?_⟩, fun hd i j n tag e f hi he hek hj hf hfk => ?_⟩
  · rw [hslot] at he
    obtain ⟨e₀, he₀, rfl⟩ := Option.map_eq_some_iff.1 he
    exact Source.clamp_lawful hc (Source.shaped_of_lawful ((h.1 hr).2.2 i e₀ he₀))
  · rw [hslot] at hi he hj hf
    obtain ⟨e₀, he₀, rfl⟩ := Option.map_eq_some_iff.1 he
    obtain ⟨f₀, hf₀, rfl⟩ := Option.map_eq_some_iff.1 hf
    exact h.2 hd i j n tag e₀ f₀ hi he₀ hek hj hf₀ hfk

theorem State.applySettings_sourcesKept {R D : Prop} (s : State) (c : Settings) (h : s.sourcesKept R D) (hc : c.consistent = true) :
    (s.applySettings c).sourcesKept R D := by
  unfold State.applySettings
  extract_lets t s₁
  have ht : t.state.sourcesKept R D := Track.armAll_sourcesKept (Track.begin _) (s.clampSources_sourcesKept c h hc)
  have h₁ : s₁.sourcesKept R D := State.sourcesKept_of_same ht (by simp [s₁]) (by simp [s₁]) (by simp [s₁])
  exact State.sourcesKept_of_same h₁ (by simp) (by simp) (by simp)

/-! ### Resets -/

theorem State.reset_sourcesKept {R D : Prop} (s : State) (hslots : ∀ i, s.slot i = Slot.powerOn) (hc : s.settings.consistent = true)
    (hsouth : R → s.south.lawful) : s.sourcesKept R D := by
  refine ⟨fun hr => ⟨hc, hsouth hr, fun i e he => ?_⟩, fun _ i j n tag e f _ he => ?_⟩
  · rw [hslots] at he
    cases he
  · rw [hslots] at he
    cases he

theorem Settings.default_consistent : Settings.default.consistent = true := by decide

theorem State.resetBlocks_sourcesKept {R D : Prop} (s : State) (scope : ResetScope) (h : s.sourcesKept R D) :
    (s.resetBlocks scope).sourcesKept R D := by
  cases scope with
  | traffic => exact State.sourcesKept_of_eq h (fun _ => rfl) rfl rfl
  | full =>
    refine State.reset_sourcesKept _ (fun i => ?_) Settings.default_consistent fun hr => (h.1 hr).2.1
    simp [State.slot, State.resetBlocks, Sources.afterReset, Sources.powerOn]

theorem State.partReset_sourcesKept {R D : Prop} (s : State) (scope : ResetScope) (h : s.sourcesKept R D) :
    (s.partReset scope).sourcesKept R D := by
  unfold State.partReset
  extract_lets s₁ s₂ s₃
  have h₁ : s₁.sourcesKept R D := Track.checkDeferred_sourcesKept (Track.begin _) (s.resetBlocks_sourcesKept scope h)
  have h₂ : s₂.sourcesKept R D := State.sourcesKept_of_same h₁ (by simp [s₂]) (by simp [s₂]) (by simp [s₂])
  have h₃ : s₃.sourcesKept R D := by
    show (if scope == .full then s₂.queueStartedFull else s₂).sourcesKept R D
    split
    · exact State.sourcesKept_of_same h₂ (by simp) (by simp) (State.tuning_of_south (by simp))
    · exact h₂
  exact s₃.search_sourcesKept h₃ _

theorem State.queueResponse_sourcesKept {R D : Prop} (s : State) (h : s.sourcesKept R D) : s.queueResponse.sourcesKept R D :=
  s.queueResponse_induction (P := State.sourcesKept R D) h (fun _ _ hu => State.sourcesKept_of_same hu rfl rfl rfl)
    (fun _ _ _ hu => State.sourcesKept_of_same hu rfl rfl rfl) fun u scope hu => u.partReset_sourcesKept scope hu

/-! ### The rows -/

theorem State.powerOn_sourcesKept {R D : Prop} (s : State) (hs : s.sources = Sources.powerOn) (hc : s.engine.settings = Settings.default)
    (hsouth : s.tuning = (.down, none)) : s.sourcesKept R D := by
  refine s.reset_sourcesKept (fun i => ?_) ((congrArg Settings.consistent hc).trans Settings.default_consistent) fun _ => ?_
  · simp [State.slot, hs, Sources.powerOn]
  · obtain ⟨hradio, hlast⟩ := Prod.mk.inj hsouth
    exact ⟨fun n hn => Radio.noConfusion (hradio.symm.trans hn), fun n hn => absurd (hlast.symm.trans hn) (by simp)⟩

theorem State.takeControl_settings (s : State) (f : LinkFrame) : (s.takeControl f).engine.settings = s.engine.settings := by
  have hflag (u : State) (g : EventFlag) : (u.setFlag g).engine = u.engine := by simp
  unfold State.takeControl
  split
  · exact (congrArg Engine.settings (hflag _ .controlOverrun)).trans rfl
  · split <;> rfl

theorem State.controlFrame_settings (s : State) (f : LinkFrame) : (s.controlFrame f).engine.settings = s.engine.settings :=
  s.northFrame_keeps (fun u => u.engine.settings) 2 f _ (by simp) (by simp) (by simp) fun u hu => (u.takeControl_settings f).trans hu

theorem State.reportTail_settings (s : State) (bytes : List Byte) : (s.reportTail bytes).engine.settings = s.engine.settings := by
  obtain ⟨x, hx⟩ := s.reportTail_eq bytes
  rw [hx]
  rfl

theorem State.acceptReset_settings (s : State) (scope : ResetScope) : (s.acceptReset scope).engine.settings = s.engine.settings := by
  unfold State.acceptReset
  split <;> rfl

theorem eventOf_sourcesKept {R D : Prop} (i : Instr) (s : State) (h : s.sourcesKept R D) : (eventOf i s).sourcesKept R D := by
  have hkept {t : State} (hsources : t.sources = s.sources) (hengine : t.engine.settings = s.engine.settings)
      (htuning : t.tuning = s.tuning) : t.sourcesKept R D := State.sourcesKept_of_same h hsources hengine htuning
  have hdiscarded : (s.setFlag .linkError).sourcesKept R D := hkept (by simp) (by simp) (State.tuning_of_south (by simp))
  cases i with
  | powerOnReset => exact State.powerOn_sourcesKept _ rfl rfl rfl
  | resetInputAsserted => exact State.powerOn_sourcesKept _ rfl rfl rfl
  | southSyncGained =>
    dsimp only [eventOf]
    unfold State.southGained
    split
    · exact h
    · exact hkept rfl rfl rfl
  | southSyncLost => exact s.southLost_sourcesKept h
  | rxdataFrame f => exact s.southFrame_induction (P := State.sourcesKept R D) 5 f _ h hdiscarded (s.takeRxdata_sourcesKept h f)
  | energyReport f =>
    refine s.southFrame_induction (P := State.sourcesKept R D) 6 f _ h hdiscarded ?_
    unfold State.takeEnergy
    split
    · exact s.energyReport_sourcesKept h _
    · exact hdiscarded
  | radioRecord f => exact s.southFrame_induction (P := State.sourcesKept R D) 8 f _ h hdiscarded (s.takeRadio_sourcesKept h f)
  | txstat f => exact hkept (by simp [eventOf]) (by simp [eventOf]) (s.txstatFrame_tuning f)
  | southOutputStart ready => exact hkept (by simp [eventOf]) (by simp [eventOf]) (s.southStart_tuning ready)
  | txdataFrameSent => exact hkept (by simp [eventOf]) (by simp [eventOf]) s.txdataSent_tuning
  | cancelFrameSent => exact hkept (by simp [eventOf]) (by simp [eventOf]) s.cancelSent_tuning
  | releaseArbiterRun ready => exact hkept (by simp [eventOf]) (by simp [eventOf]) (s.runArbiter_tuning ready)
  | coverageAgingExpiry => exact s.coverageExpired_sourcesKept h
  | checkTimerExpiry j => exact s.checkExpired_sourcesKept h j
  | ringEndTimerExpiry =>
    dsimp only [eventOf]
    unfold State.ringEndExpired
    split
    · exact hkept (by simp) (by simp) (s.handRing_tuning _)
    · exact h
  | controlFrame f => exact hkept (by simp [eventOf]) (s.controlFrame_settings f) (State.tuning_of_south (by simp [eventOf]))
  | brokenTail bytes => exact hkept (by simp [eventOf]) (s.reportTail_settings bytes) (State.tuning_of_south (by simp [eventOf]))
  | responseQueued => exact s.queueResponse_sourcesKept h
  | statusFrameSent =>
    have hsent : (s.withNorth s.north.sent).sourcesKept R D := hkept rfl rfl rfl
    exact s.statusSent_induction (P := State.sourcesKept R D) h hsent (State.queueResponse_sourcesKept _)
      fun hu => State.sourcesKept_of_same hu (by simp) (by simp) (State.tuning_of_south (by simp))
  | airClockAdvance => exact hkept rfl rfl rfl
  | _ => exact hkept (by simp [eventOf]) (by simp [eventOf]) (State.tuning_of_south (by simp [eventOf]))

theorem refuseIf_eq_none_iff (badTarget busy badValue : Bool) :
    refuseIf badTarget busy badValue = none ↔ badTarget = false ∧ busy = false ∧ badValue = false := by
  cases badTarget <;> cases busy <;> cases badValue <;> simp [refuseIf]

theorem State.forQueues_sourcesKept {R D : Prop} (s : State) (qs : List (Fin 16)) (f : State → Fin 16 → State) (h : s.sourcesKept R D)
    (hf : ∀ u q, (f u q).sources = u.sources ∧ (f u q).engine = u.engine ∧ (f u q).south = u.south) :
    (s.forQueues qs f).sourcesKept R D :=
  qs.foldlRecOn (motive := State.sourcesKept R D) f h fun u hu q _ =>
    State.sourcesKept_of_same hu (hf u q).1 (congrArg Engine.settings (hf u q).2.1) (State.tuning_of_south (hf u q).2.2)

theorem consistent_of_readSettingsImage {data : List Byte} {c : Settings} (h : readSettingsImage data = some c) : c.consistent = true := by
  unfold readSettingsImage at h
  split_ifs at h with hdata
  cases h
  exact hdata.2

/-- The accepted commands; the checks before them keep a second learned beacon and a value out of its range away (R130, R131, R149). -/
theorem actOf_sourcesKept {R D : Prop} (i : Instr) (s : State) (href : refusalOf i s = none) (h : s.sourcesKept R D) :
    (actOf i s).1.sourcesKept R D := by
  cases i with
  | pauseQueue target _ => exact s.forQueues_sourcesKept _ _ h (by simp)
  | resumeQueue target _ => exact s.forQueues_sourcesKept _ _ h (by simp)
  | drainQueue target _ => exact s.forQueues_sourcesKept _ _ h (by simp)
  | clearQueueFlags target _ => exact s.forQueues_sourcesKept _ _ h (by simp)
  | takeSource target _ =>
    simp only [actOf]
    split
    · exact s.takeSlot_sourcesKept h _
    · exact h
  | writeSource target data =>
    simp only [actOf]
    split
    case h_1 i e _ hread => exact s.writeSlot_sourcesKept h i e fun hr => readSourceImage_lawful (h.1 hr).1 hread
    case h_2 => exact h
  | releaseSource target data =>
    simp only [actOf]
    split
    case h_1 i htarget =>
      obtain ⟨_, hbusy, _⟩ := (refuseIf_eq_none_iff _ _ _).1 href
      exact s.releaseSlot_sourcesKept h i (by simpa [slotIs, htarget] using hbusy)
    case h_2 => exact h
  | freeSource target _ =>
    simp only [actOf]
    split
    · exact s.freeSource_sourcesKept h _
    · exact h
  | startRing target _ =>
    simp only [actOf]
    split
    · exact State.sourcesKept_of_same h (by simp) (by simp) (s.handRing_tuning _)
    · exact h
  | stopRing target _ =>
    simp only [actOf]
    split
    · exact State.sourcesKept_of_same h (by simp) (by simp) (s.handRing_tuning _)
    · exact h
  | loadSettings _ data =>
    cases hread : readSettingsImage data with
    | some c => simpa [actOf, hread] using s.applySettings_sourcesKept c h (consistent_of_readSettingsImage hread)
    | none => simpa [actOf, hread] using h
  | resetPart target data =>
    simp only [actOf]
    split
    · exact State.sourcesKept_of_same h (by simp) (s.acceptReset_settings _) (State.tuning_of_south (by simp))
    · exact h
  | _ => (simp only [actOf]; repeat' split) <;> exact State.sourcesKept_of_same h (by simp) (by simp) (State.tuning_of_south (by simp))

/-- Settles O57: a stored entry is clamped or accepted in its ranges, and a beacon is created or returned to learning only where no
learning-owned slot holds it. -/
theorem sourceEntriesStayInRange : Obligations.SourceEntriesStayInRange := by
  have hkept (R D : Prop) (s t : State) (h : s.sourcesKept R D) (hstep : step s = .next t) : t.sourcesKept R D :=
    step_invariant (P := State.sourcesKept R D) (fun _ _ hu => hu) (fun _ _ hu => hu) eventOf_sourcesKept actOf_sourcesKept s t hstep h
  exact ⟨fun s t h hstep => (hkept True False s t ⟨fun _ => h, False.elim⟩ hstep).1 trivial,
    fun s t h hstep => (hkept False True s t ⟨False.elim, fun _ => h⟩ hstep).2 trivial⟩

end Sys2Proof.Machine

/-! PROOFS. What setting flags and queueing NOTICEs keep, every event and every command keeps but the resets and two commands (R152, R153); the
flags stand but for those, and the state after reset meets the laws. -/

namespace Sys2Proof.Machine

/-- A law of the event block that a flag set, a NOTICE queued and a pacing timer armed or cancelled keep. -/
structure EventLaw (P : Events → Prop) : Prop where
  setFlag : ∀ {s : State} (f : EventFlag), P s.events → P (s.setFlag f).events
  queueNotice : ∀ {s : State}, P s.events → P s.queueNotice.events
  paced : ∀ {e : Events} (timer : Option Instant), P e → P { e with pacing := timer }

namespace EventLaw

section
variable {P : Events → Prop} (L : EventLaw P) (s : State) (h : P s.events)
include L h

/-! ### Flags, searches, completions -/

theorem setFlagIf (c : Bool) (f : EventFlag) : P (s.setFlagIf c f).events := by
  cases c with
  | false => exact h
  | true => exact L.setFlag f h

theorem setFlags (fs : List EventFlag) : P (s.setFlags fs).events :=
  fs.foldlRecOn (motive := fun u : State => P u.events) State.setFlag h fun _ hu f _ => L.setFlag f hu

theorem search (opened : Bool) : P (s.search opened).events := by
  unfold State.search
  dsimp only
  split
  case isTrue =>
    have hflag := L.setFlagIf { s with window := s.searchResult } h (s.searchResult.saturated && !s.window.saturated) .channelSaturated
    split <;> simpa using hflag
  case isFalse => simpa using h

theorem releaseHead (q : Fin 16) (d : Descriptor) (r : Rate) (v : Verdict) : P (s.releaseHead q d r v).events := by
  unfold State.releaseHead
  extract_lets rec' forced s₁ s₂
  have h₂ : P s₂.events := L.setFlagIf s₁ h forced .frameForced
  refine L.search _ ?_ false
  exact h₂

theorem arbitrate (n : Nat) : P (State.arbitrate n s).events := by
  induction n generalizing s with
  | zero => exact h
  | succ n ih =>
    unfold State.arbitrate
    split
    · exact h
    · split
      · exact L.releaseHead _ (by exact h) _ _ _ _
      · exact ih _ h

theorem drain (q : Fin 16) : P (s.drain q).events := by
  unfold State.drain
  dsimp only
  split
  case isTrue => exact L.setFlag .drainDone (by simpa using h)
  case isFalse => simpa using h

theorem settle (e : Outstanding) : P (s.settle e).events := by
  have hhead : P ((s.unlist e).finishHead e.queue).events := by simpa [State.unlist] using h
  rcases s.settle_cases e with ⟨-, hs⟩ | ⟨_, -, -, -, hs⟩ | ⟨-, hs⟩ <;> rw [hs]
  · exact h
  · exact hhead
  · exact L.setFlag .drainDone (by exact hhead)

theorem resolveSent (acks : List Bool) (e : Outstanding) : P (s.resolveSent acks e).events :=
  L.settle _ (L.setFlagIf _ (by exact h) _ .subframeDropped) e

theorem resolveUnsent (e : Outstanding) : P (s.resolveUnsent e).events := L.settle _ (by exact h) e

theorem resolveAll : P s.resolveAll.events :=
  s.gate.table.foldlRecOn (motive := fun u : State => P u.events) _ h fun u hu e _ => L.resolveSent u hu [] e

theorem applyTxStat (x : TxStat) : P (s.applyTxStat x).events := by
  unfold State.applyTxStat
  split
  case h_1 => exact L.setFlag .strayStatus h
  case h_2 e _ =>
    cases x.result with
    | sent => exact L.resolveSent _ (L.setFlagIf s h _ .linkError) _ e
    | expired => exact L.resolveUnsent s h e
    | cancelled => exact L.resolveUnsent s h e

/-! ### The tracker, the ring and the radio -/

omit h in
theorem handOn (t : Track) (ht : P t.state.events) : P t.handOn.events := by
  have hadded : P (t.state.addBusyAll t.additions).events := by simpa using ht
  refine L.setFlags _ ?_ t.raised
  split
  case isTrue => exact L.search _ hadded _
  case isFalse => exact hadded

theorem readBeacon (payload : List Byte) : P (s.readBeacon payload).events := by
  unfold State.readBeacon
  (repeat' split)
  · exact L.handOn _ (by simpa using h)
  · exact h
  · exact h

theorem energyReport (r : EnergyReport) : P (s.energyReport r).events := by
  have hdetection (n : Nat) : P (s.detectionReport n r).events := by
    refine L.handOn _ ?_
    split <;> simpa using h
  unfold State.energyReport
  (repeat' split)
  · exact hdetection _
  · exact h
  · exact h

theorem handRing (r : Ring) : P (s.handRing r).events := by
  refine L.setFlagIf _ (L.search _ ?_ _) _ .ringStopped
  split <;> simpa using h

theorem changeRadio (radio : Radio) (last : Option Nat) (opened : Bool) : P (s.changeRadio radio last opened).events :=
  L.setFlags _ (L.search _ (by simpa using h) _) _

theorem applyRadio (r : RadioRecord) : P (s.applyRadio r).events := by
  unfold State.applyRadio
  (repeat' split)
  · exact L.changeRadio s h _ _ _
  · exact L.changeRadio s h _ _ _
  · exact h
  · exact L.changeRadio s h _ _ _
  · exact h
  · exact h

theorem southLost : P s.southLost.events := by
  unfold State.southLost
  split
  case isTrue =>
    have hresolved := L.resolveAll
      (s.withSouth { s.south with synced := false, txdata := [], cancels := [], sending := none }) h
    refine L.setFlag .radioLost ?_
    split
    · exact hresolved
    · exact L.changeRadio _ hresolved _ _ _
  case isFalse => exact h

/-! ### Frames -/

theorem takeData (f : LinkFrame) : P (s.takeData f).events := by
  have hrefused (result : DoneResult) (count : Nat) : P (s.refuse f.header result count).events := by
    rw [State.refuse_eq]
    exact L.setFlag .frameRefused h
  unfold State.takeData
  (repeat' split)
  · exact hrefused _ _
  · exact hrefused _ _
  · simpa using h
  · exact hrefused _ _

theorem takeControl (f : LinkFrame) : P (s.takeControl f).events := by
  unfold State.takeControl
  dsimp only
  (repeat' split)
  · exact L.setFlag .controlOverrun h
  · exact h
  · exact h

theorem takeRxdata (f : LinkFrame) : P (s.takeRxdata f).events := by
  refine L.readBeacon _ ?_ f.payload
  unfold State.passRxdata
  split
  · exact h
  · exact L.setFlag .rxDropped h

theorem northFrame (kind : Byte) (f : LinkFrame) (taken : State → State)
    (htaken : ∀ u : State, P u.events → P (taken u).events) : P (s.northFrame kind f taken).events := by
  refine s.northFrame_induction (P := fun u => P u.events) kind f taken h (fun _ => by simpa using h) (fun u reserved doomed hu _ => ?_)
    fun u _ hu _ _ _ => htaken _ hu
  refine L.setFlagIf _ ?_ _ .linkError
  split <;> exact hu

theorem southFrame (kind : Byte) (f : LinkFrame) (taken : State → State) (htaken : P (taken s).events) :
    P (s.southFrame kind f taken).events :=
  s.southFrame_induction (P := fun u => P u.events) kind f taken h (L.setFlag .linkError h) htaken

/-- A south frame that is read, or sets LINK_ERROR. -/
theorem discardFrame (link : Link) (f : LinkFrame) : P (s.discardFrame link f).events := by
  cases link with
  | north => exact L.northFrame s h _ f _ fun _ _ => h
  | south => exact L.southFrame s h _ f _ h

/-! ### The response and the part resets -/

omit h in
/-- A part reset keeps a law that its own effect on the event block gives or leaves. -/
theorem partReset (scope : ResetScope) (hreset : P (s.events.afterReset scope)) : P (s.partReset scope).events := by
  have hchecked : P (Track.begin (s.resetBlocks scope)).checkDeferred.state.events := by
    have hblocks : P (s.resetBlocks scope).events := hreset
    simpa using hblocks
  have hflag := L.setFlagIf _ hchecked (scope == .traffic && s.ring.running) .ringStopped
  refine L.search _ ?_ _
  split
  · simpa using hflag
  · exact hflag

/-- So does the queueing of a response but for a FULL reset. -/
theorem queueResponse (hfull : ∀ l, s.engine.executing = .holding l → l.reset ≠ some .full) : P s.queueResponse.events := by
  unfold State.queueResponse
  split
  case h_1 l hholding =>
    split
    · exact h
    · dsimp only
      split
      case h_1 scope hscope =>
        cases scope with
        | full => exact absurd hscope (hfull l hholding)
        | traffic => exact L.partReset _ .traffic (by exact h)
      case h_2 => split <;> exact h
  case h_2 => exact h

theorem statusSent (hfull : ∀ l, s.engine.executing = .holding l → l.reset ≠ some .full) : P s.statusSent.events :=
  s.statusSent_induction (P := fun u => P u.events) h h (fun hu => L.queueResponse _ hu hfull) fun hu => L.queueNotice hu

/-! ### The rows -/

/-- Every event but the two resets, and a response queued with a FULL one. -/
theorem eventOf (i : Instr) (hreset : resets i = false)
    (hfull : i = .responseQueued ∨ i = .statusFrameSent → ∀ l, s.engine.executing = .holding l → l.reset ≠ some .full) :
    P (Machine.eventOf i s).events := by
  cases i with
  | powerOnReset => cases hreset
  | resetInputAsserted => cases hreset
  | southSyncLost => exact L.southLost s h
  | dataFrame f => exact L.northFrame s h 1 f _ fun u hu => L.takeData u hu f
  | controlFrame f => exact L.northFrame s h 2 f _ fun u hu => L.takeControl u hu f
  | rxdataFrame f => exact L.southFrame s h 5 f _ (L.takeRxdata s h f)
  | energyReport f =>
    refine L.southFrame s h 6 f _ ?_
    unfold State.takeEnergy
    split
    · exact L.energyReport s h _
    · exact L.setFlag .linkError h
  | txstat f =>
    refine L.southFrame s h 7 f _ ?_
    unfold State.takeTxStat
    split
    · exact L.applyTxStat s h _
    · exact L.setFlag .linkError h
  | radioRecord f =>
    refine L.southFrame s h 8 f _ ?_
    unfold State.takeRadio
    split
    · exact L.applyRadio s h _
    · exact L.setFlag .linkError h
  | receivedFrameDiscarded link f => exact L.discardFrame s h link f
  | releaseArbiterRun ready =>
    dsimp only [Machine.eventOf]
    unfold State.runArbiter
    dsimp only
    (repeat' split)
    · exact L.arbitrate _ (by exact h) 17
    · exact h
    · exact h
  | windowTimerExpiry =>
    dsimp only [Machine.eventOf]
    unfold State.windowExpired
    split
    · exact L.search s h _
    · exact h
  | coverageAgingExpiry =>
    dsimp only [Machine.eventOf]
    unfold State.coverageExpired
    split
    · exact L.handOn _ (by simpa using h)
    · exact h
  | checkTimerExpiry j =>
    dsimp only [Machine.eventOf]
    unfold State.checkExpired
    split
    · exact L.handOn _ (by simpa using h)
    · exact h
  | ringEndTimerExpiry =>
    dsimp only [Machine.eventOf]
    unfold State.ringEndExpired
    split
    · exact L.handRing s h _
    · exact h
  | pacingTimerExpiry =>
    dsimp only [Machine.eventOf]
    unfold State.pacingExpired
    split
    · exact L.queueNotice (L.paced none h)
    · exact h
  | responseQueued => exact L.queueResponse s h (hfull (.inl rfl))
  | statusFrameSent => exact L.statusSent s h (hfull (.inr rfl))
  | airClockAdvance => exact h
  | outstandingStaleExpiry id => exact h
  | _ => simpa [Machine.eventOf] using h

/-! ### The commands -/

theorem applySettings (c : Settings) : P (s.applySettings c).events := by
  unfold State.applySettings
  extract_lets armed added
  have hadded : P added.events := by simpa [added, armed] using h
  have hset := L.setFlags _ (L.search _ hadded false) armed.raised
  unfold State.rearmPacing
  split
  case h_1 =>
    dsimp only
    split
    · exact L.queueNotice (L.paced none hset)
    · exact L.paced _ hset
  case h_2 => exact hset

omit L in
theorem forQueues (qs : List (Fin 16)) (f : State → Fin 16 → State) (hf : ∀ (u : State) (q : Fin 16), P u.events → P (f u q).events) :
    P (s.forQueues qs f).events :=
  qs.foldlRecOn (motive := fun u : State => P u.events) f h fun u hu q _ => hf u q hu

/-- Every command but the two that write the event block. -/
theorem actOf (i : Instr) (hclear : ∀ target data, i ≠ .clearEvents target data) (henable : ∀ target data, i ≠ .setEventEnables target data) :
    P (Machine.actOf i s).1.events := by
  cases i with
  | clearEvents target data => exact absurd rfl (hclear target data)
  | setEventEnables target data => exact absurd rfl (henable target data)
  | pauseQueue target _ => exact forQueues s h _ _ (by simp)
  | resumeQueue target _ => exact forQueues s h _ _ (by simp)
  | clearQueueFlags target _ => exact forQueues s h _ _ (by simp)
  | drainQueue target _ =>
    refine forQueues s h _ _ fun u q hu => ?_
    unfold State.drainOne
    split
    · exact L.drain u hu q
    · exact hu
  | takeSource target _ =>
    simp only [Machine.actOf, State.takeSlot]
    (repeat' split)
    · exact L.search _ (by exact h) _
    · exact h
    · exact h
  | writeSource target data =>
    simp only [Machine.actOf, State.writeSlot]
    split
    · exact L.search _ (by simpa using h) _
    · exact h
  | releaseSource target data =>
    simp only [Machine.actOf, State.releaseSlot]
    (repeat' split)
    · exact L.search _ (by exact h) _
    · exact h
    · exact h
  | freeSource target _ =>
    simp only [Machine.actOf, State.freeSource]
    (repeat' split)
    · exact L.search _ (by exact h) _
    · exact h
    · exact h
  | startRing target _ =>
    simp only [Machine.actOf]
    split
    · exact L.handRing s h _
    · exact h
  | stopRing target _ =>
    simp only [Machine.actOf]
    split
    · exact L.handRing s h _
    · exact h
  | loadSettings _ data =>
    cases hread : readSettingsImage data with
    | some c => simpa [Machine.actOf, hread] using L.applySettings s h c
    | none => simpa [Machine.actOf, hread] using h
  | _ => (simp only [Machine.actOf]; repeat' split) <;> simpa using h

end

end EventLaw

/-! ### Flags (R152) -/

theorem flagLaw (f : EventFlag) : EventLaw fun e => e.flags.getLsbD f.index = true where
  setFlag _ h := by simp [h]
  queueNotice h := by simpa using h
  paced _ h := h

/-- Every row but those that R152 and R153 name leaves a flag set. -/
theorem effectOf_flag (i : Instr) (s : State) (f : EventFlag) (h : s.flag f = true) (hreset : resets i = false)
    (hclear : ∀ target data, i ≠ .clearEvents target data)
    (hfull : i = .responseQueued ∨ i = .statusFrameSent → ∀ l, s.engine.executing = .holding l → l.reset ≠ some .full) :
    (effectOf i s).flag f = true := by
  by_cases henable : ∃ target data, i = .setEventEnables target data
  case pos =>
    obtain ⟨target, data, rfl⟩ := henable
    exact effectOf_invariant (P := fun u => u.flag f = true) (fun _ _ hu => hu) _ s (fun _ => h) (fun _ _ => h) h
  case neg =>
    exact effectOf_invariant (P := fun u => u.flag f = true) (fun _ _ hu => hu) i s
      (fun hs => (flagLaw f).eventOf s hs i hreset hfull)
      (fun _ hs => (flagLaw f).actOf s hs i hclear fun target data heq => henable ⟨target, data, heq⟩) h

/-- Settles O59: `effectOf_flag` for every row but the resets and those named. -/
theorem eventFlagsAreClearedOnlyByCommand : Obligations.EventFlagsAreClearedOnlyByCommand := by
  intro c s t f hexec hset hcleared
  by_contra hnot
  push Not at hnot
  obtain ⟨hpower, hreset, hclear, hfull⟩ := hnot
  have hc : resets c = false := by
    cases c with
    | powerOnReset => exact absurd rfl hpower
    | resetInputAsserted => exact absurd rfl hreset
    | _ => rfl
  have hstands : t.flag f = true := by
    rw [exec_eq, Host.Outcome.next.injEq] at hexec
    subst hexec
    split
    · exact hset
    · exact effectOf_flag c s f hset hc hclear hfull
  exact absurd (hstands.symm.trans hcleared) (by decide)

/-! ### The laws at power-on -/

/-- Settles O60: the power-on values meet each law. -/
theorem resetMeetsTheLaws : Obligations.ResetMeetsTheLaws := by
  have hsources : State.reset.sourcesKept True True := State.powerOn_sourcesKept _ rfl rfl rfl
  exact ⟨(State.storageLawful_iff _).2 storageLaw_storeLaw.reset, memoryLaw_storeLaw.reset, State.reset_slotsLawful,
    State.reset_releasesLawful, Ring.powerOn.afterReset_lawful .full, Detector.powerOn_lawful, hsources.1 trivial, hsources.2 trivial,
    State.reset_radioLawful⟩

end Sys2Proof.Machine

/-! PROOFS. The links: flags and NOTICE (R152 to R156), frames received and discarded (R5, R8, R17), the two outputs (R10 to R14), and the gains and
losses of synchronisation (R4, R16, R157). -/

namespace Sys2Proof.Machine

/-! ### Setting a flag -/

theorem Events.attention_eq (e : Events) : e.attention = decide (e.flags &&& e.enables ≠ 0) := e.withAttn_lawful

/-- A flag whose enable is set asserts ATTN (R154). -/
theorem Events.attention_of_enabled (flags enables : BitVec 14) (f : EventFlag) (h : enables.getLsbD f.index = true) :
    (flags ||| f.mask) &&& enables ≠ 0 := by
  intro hzero
  have hbit := congrArg (fun x : BitVec 14 => x.getLsbD f.index) hzero
  rw [BitVec.getLsbD_and, BitVec.getLsbD_or, h, EventFlag.mask, BitVec.getLsbD_twoPow] at hbit
  simp [f.index_lt] at hbit

/-- A flag raised, with ATTN following. -/
def Events.raised (e : Events) (f : EventFlag) : Events := ({ e with flags := e.flags ||| f.mask } : Events).withAttn

theorem Events.raised_attn (e : Events) (f : EventFlag) (h : e.enables.getLsbD f.index = true) : (e.raised f).attn = true := by
  simp only [Events.raised, Events.withAttn, Events.attention_eq]
  exact decide_eq_true (Events.attention_of_enabled e.flags e.enables f h)

section
variable (s : State) (f : EventFlag)

theorem State.setFlag_of_flag (h : s.flag f = true) : s.setFlag f = s := if_pos h

theorem State.setFlag_quiet (h : s.flag f = false) (hquiet : s.events.enables.getLsbD f.index = false ∨ s.north.noticeWaits = true) :
    s.setFlag f = { s with events := s.events.raised f } := by
  have hcond : (s.events.enables.getLsbD f.index && !s.north.noticeWaits) = false := by
    rcases hquiet with hq | hq <;> simp [hq]
  simp only [State.setFlag, h, hcond, Bool.false_eq_true, if_false]
  rfl

theorem State.setFlag_due (h : s.flag f = false) (henabled : s.events.enables.getLsbD f.index = true)
    (hwaits : s.north.noticeWaits = false) :
    s.setFlag f = State.queueNotice { s with events := { s.events.raised f with noticeDue := true } } := by
  simp only [State.setFlag, h, henabled, hwaits, Bool.false_eq_true, if_false, Bool.not_false, Bool.and_true, if_true]
  rfl

end

/-- Settles O9: the cases of setting a flag and of queueing the NOTICE that it makes due. -/
theorem settingAFlagRaisesAttnAndANotice : Obligations.SettingAFlagRaisesAttnAndANotice := by
  intro s f
  refine ⟨s.setFlag_of_flag f, fun h hquiet => ?quiet, fun h henabled hwaits hpacing hsending => ?queued,
    fun h henabled hwaits hbusy => ?due⟩
  case quiet =>
    rw [s.setFlag_quiet f h hquiet, Events.raised, Events.withAttn, Events.attention_eq]
    rfl
  case queued =>
    have hattn := s.events.raised_attn f henabled
    rw [s.setFlag_due f h henabled hwaits, State.queueNotice, if_pos (by simp [hpacing, hwaits, hsending, Events.raised, Events.withAttn])]
    simp only [Events.raised, Events.withAttn] at hattn ⊢
    rw [hattn]
    rfl
  case due =>
    have hattn := s.events.raised_attn f henabled
    have hcond : ¬ (s.events.pacing.isNone && !s.north.noticeSending) = true := by
      rcases hbusy with hb | hb
      · rw [Option.isSome_iff_ne_none] at hb
        simp [hb]
      · simp [hb]
    rw [s.setFlag_due f h henabled hwaits, State.queueNotice, if_neg ?_]
    · simp only [Events.raised, Events.withAttn] at hattn ⊢
      rw [hattn]
      rfl
    · simpa [Events.raised, Events.withAttn, hwaits] using hcond

/-! ### The north input (R8) -/

theorem needsSlot_iff (h : LaneHeader) : needsSlot h = true ↔ h.kind = 1 ∧ h.version = 1 := by simp [needsSlot]

theorem DoneFifo.free_pos_iff (f : DoneFifo) : 0 < f.free ↔ f.reserved + f.filled.length < 1280 := by
  simp only [DoneFifo.free, Config.txdoneSlots]
  omega

theorem State.northHeader_await (s : State) (h : LaneHeader) (hsynced : s.north.synced = true) (hinput : s.north.input = .awaitHeader) :
    s.northHeader h = s.laneHeader h := by
  simp [State.northHeader, hsynced, hinput]

/-- Settles O7: the lane header's three cases, and the held frame's two. -/
theorem dataHeaderReservesASlotOrWaits : Obligations.DataHeaderReservesASlotOrWaits := by
  intro s h hrunning hsynced
  refine ⟨fun hinput hkind hversion hfree => ?reserved, fun hinput hkind hversion hfull => ⟨?held, ?notReady⟩,
    fun hinput hother => ?other, fun hheld hfree => ?freed, fun hheld hfull => ?waits⟩
  case reserved =>
    rw [exec_event _ s hrunning rfl, eventOf, s.northHeader_await h hsynced hinput, State.laneHeader,
      if_pos ((needsSlot_iff h).2 ⟨hkind, hversion⟩), if_pos ((s.fifo.free_pos_iff).2 hfree)]
    rfl
  case held =>
    rw [exec_event _ s hrunning rfl, eventOf, s.northHeader_await h hsynced hinput, State.laneHeader,
      if_pos ((needsSlot_iff h).2 ⟨hkind, hversion⟩), if_neg (by rw [s.fifo.free_pos_iff]; omega)]
    rfl
  case notReady => simp [State.northInputReady]
  case other =>
    have hslot : ¬ needsSlot h = true := by
      rw [needsSlot_iff]
      rintro ⟨hkind, hversion⟩
      rcases hother with hk | hv
      · exact hk hkind
      · exact hv hversion
    rw [exec_event _ s hrunning rfl, eventOf, s.northHeader_await h hsynced hinput, State.laneHeader, if_neg hslot]
    rfl
  case freed =>
    have hpos := (s.fifo.free_pos_iff).2 hfree
    have hreserves : (s.north.synced && decide (0 < s.fifo.free)) = true := by simp [hsynced, hpos]
    rw [exec_event .dataSlotReserved s hrunning rfl, eventOf, State.reserveHeld]
    simp only [hheld, hreserves, if_true]
    rfl
  case waits =>
    have hnone : ¬ 0 < s.fifo.free := by rw [s.fifo.free_pos_iff]; omega
    rw [exec_event .dataSlotReserved s hrunning rfl, eventOf, State.reserveHeld]
    simp only [hheld, hnone, decide_false, Bool.and_false, Bool.false_eq_true, if_false]

/-! ### Frames discarded (R5, R17) -/

section
variable (s : State) (f : LinkFrame) (kind : Byte) (taken : State → State)

/-- The end of a frame doomed by a part reset, or of one that fails a check. -/
theorem State.northFrame_discarded (reserved doomed : Bool) (hsynced : s.north.synced = true)
    (hinput : s.north.input = .receiving f.header reserved doomed) (hdiscard : doomed = true ∨ passes .north f = false) :
    s.northFrame kind f taken = s.discardNorth reserved (!doomed) := by
  cases doomed with
  | true => simp [State.northFrame, hsynced, hinput]
  | false => simp [State.northFrame, hsynced, hinput, show passes .north f = false by simpa using hdiscard]

theorem State.southFrame_discarded (hsynced : s.south.synced = true) (hfails : passes .south f = false) :
    s.southFrame kind f taken = s.setFlag .linkError := by
  simp [State.southFrame, hsynced, hfails]

end

/-- Every event that can bring the end of a north frame ends it the same way. -/
theorem exec_northEnd_discarded (s : State) (f : LinkFrame) (reserved doomed : Bool) (i : Instr) (hrunning : s.inReset = false)
    (hsynced : s.north.synced = true) (hinput : s.north.input = .receiving f.header reserved doomed)
    (hdiscard : doomed = true ∨ passes .north f = false) (hi : i ∈ [Instr.receivedFrameDiscarded .north f, .dataFrame f, .controlFrame f]) :
    exec i s = .next (s.discardNorth reserved (!doomed)) := by
  have hend (kind : Byte) (taken : State → State) := s.northFrame_discarded f kind taken reserved doomed hsynced hinput hdiscard
  simp only [List.mem_cons, List.not_mem_nil, or_false] at hi
  rcases hi with rfl | rfl | rfl
  · rw [exec_event _ s hrunning rfl, eventOf, State.discardFrame, hend]
  · rw [exec_event _ s hrunning rfl, eventOf, State.dataFrame, hend]
  · rw [exec_event _ s hrunning rfl, eventOf, State.controlFrame, hend]

/-- Settles O8: the discard is the whole effect of each event that brings such a frame. -/
theorem discardedFrameOnlySetsLinkError : Obligations.DiscardedFrameOnlySetsLinkError := by
  refine ⟨fun s f reserved i hrunning hsynced hinput hfails hi => ?failed, fun s f i hrunning hsynced hinput hi => ?doomed,
    fun s f i hrunning hsynced hfails hi => ?south⟩
  case failed =>
    rw [exec_northEnd_discarded s f reserved false i hrunning hsynced hinput (.inr hfails) hi]
    cases reserved <;> rfl
  case doomed =>
    rw [exec_northEnd_discarded s f false true i hrunning hsynced hinput (.inl rfl) hi]
    rfl
  case south =>
    have hend (kind : Byte) (taken : State → State) := s.southFrame_discarded f kind taken hsynced hfails
    simp only [List.mem_cons, List.not_mem_nil, or_false] at hi
    rcases hi with rfl | rfl | rfl | rfl | rfl
    · rw [exec_event _ s hrunning rfl, eventOf, State.discardFrame, hend]
    · rw [exec_event _ s hrunning rfl, eventOf, State.rxdataFrame, hend]
    · rw [exec_event _ s hrunning rfl, eventOf, State.energyFrame, hend]
    · rw [exec_event _ s hrunning rfl, eventOf, State.txstatFrame, hend]
    · rw [exec_event _ s hrunning rfl, eventOf, State.radioFrame, hend]

/-- Settles O22: each frame is taken, and what is taken does no more than set its flag. -/
theorem unreadableAndStrayRecordsOnlySetAFlag : Obligations.UnreadableAndStrayRecordsOnlySetAFlag := by
  intro s f harrives
  refine ⟨fun hkind hread => ?energy, fun hkind hread => ?txstat, fun hkind hread => ?radio, fun x hkind hread hstray => ?stray⟩
  case energy =>
    rw [exec_event _ s harrives.1 rfl, eventOf, State.energyFrame, s.southFrame_taken 6 f _ harrives hkind, State.takeEnergy, hread]
  case txstat =>
    rw [exec_event _ s harrives.1 rfl, eventOf, State.txstatFrame, s.southFrame_taken 7 f _ harrives hkind, State.takeTxStat, hread]
  case radio =>
    rw [exec_event _ s harrives.1 rfl, eventOf, State.radioFrame, s.southFrame_taken 8 f _ harrives hkind, State.takeRadio, hread]
  case stray =>
    have hmatch : s.matchTxStat x = none := by
      unfold State.matchTxStat
      rcases hstray with hid | hunsent
      · split
        · rfl
        · exact List.find?_eq_none.2 fun e he => by simpa using hid e he
      · exact if_pos hunsent
    rw [exec_event _ s harrives.1 rfl, eventOf, State.txstatFrame, s.southFrame_taken 7 f _ harrives hkind, State.takeTxStat, hread]
    simp only [State.applyTxStat, hmatch]

/-! ### The north output (R10 to R13) -/

theorem State.northChoice_ready (s : State) (hsynced : s.north.synced = true) (hfree : s.north.sending = none) :
    s.northChoice true = (s.withNorth { s.north with partnerReady := true }).chooseNorth := by
  simp [State.northChoice, hsynced, hfree]

theorem State.northChoice_unready (s : State) (hsynced : s.north.synced = true) (hfree : s.north.sending = none) :
    s.northChoice false = s.withNorth { s.north with partnerReady := false } := by
  simp [State.northChoice, hsynced, hfree]

theorem State.beginNorth_of_frame (s : State) (item : NorthItem) (g : LinkFrame) (h : s.itemFrame item = some g) :
    s.beginNorth item = s.withNorth { s.north with sending := some { item, frame := g } } := by
  simp only [State.beginNorth, h]

theorem State.sharedChoice_txdone (s : State) (hfilled : s.fifo.filled ≠ []) (hturn : s.north.passBuffer = [] ∨ s.north.lastShared = .rxdata) :
    s.sharedChoice = some .txdone := by
  obtain ⟨r, rest, hr⟩ := List.exists_cons_of_ne_nil hfilled
  rcases hturn with hp | hl
  · simp [State.sharedChoice, hr, hp]
  · cases hp : s.north.passBuffer <;> simp [State.sharedChoice, hr, hp, hl]

theorem State.sharedChoice_rxdata (s : State) (hbuffer : s.north.passBuffer ≠ []) (hturn : s.fifo.filled = [] ∨ s.north.lastShared = .txdone) :
    s.sharedChoice = some .rxdata := by
  obtain ⟨g, rest, hg⟩ := List.exists_cons_of_ne_nil hbuffer
  rcases hturn with hf | hl
  · simp [State.sharedChoice, hg, hf]
  · cases hf : s.fifo.filled <;> simp [State.sharedChoice, hg, hf, hl]

section
variable (s : State)

theorem State.chooseNorth_resend (item : NorthItem) (h : s.north.resend = some item) :
    s.chooseNorth = (s.withNorth { s.north with resend := none }).beginNorth item := by
  simp only [State.chooseNorth, h]

variable (hresend : s.north.resend = none)
include hresend

theorem State.chooseNorth_status (f : StatusFrame) (rest : List StatusFrame) (h : s.north.status = f :: rest) :
    s.chooseNorth = (s.withNorth { s.north with status := rest }).beginNorth (.status f) := by
  simp only [State.chooseNorth, h, hresend]

variable (hstatus : s.north.status = [])
include hstatus

theorem State.chooseNorth_txdone (r : TxDone) (rest : List TxDone) (hfilled : s.fifo.filled = r :: rest)
    (hturn : s.north.passBuffer = [] ∨ s.north.lastShared = .rxdata) :
    s.chooseNorth = (s.withNorth { s.north with lastShared := .txdone }).beginNorth (.txdone r true) := by
  simp only [State.chooseNorth, hresend, hstatus, s.sharedChoice_txdone (by simp [hfilled]) hturn, hfilled]

theorem State.chooseNorth_rxdata (hbuffer : s.north.passBuffer ≠ []) (hturn : s.fifo.filled = [] ∨ s.north.lastShared = .txdone) :
    s.chooseNorth = (s.withNorth { s.north with lastShared := .rxdata }).beginNorth .rxdata := by
  simp only [State.chooseNorth, hresend, hstatus, s.sharedChoice_rxdata hbuffer hturn]

theorem State.chooseNorth_idle (hfilled : s.fifo.filled = []) (hbuffer : s.north.passBuffer = []) : s.chooseNorth = s := by
  have hchoice : s.sharedChoice = none := by simp [State.sharedChoice, hfilled, hbuffer]
  simp only [State.chooseNorth, hresend, hstatus, hchoice]

end

/-- Settles O26: the ranks of the choice in order, and what the end of each kind of frame gives up. -/
theorem northOutputChoosesByRank : Obligations.NorthOutputChoosesByRank := by
  refine ⟨fun s hrunning hsynced hfree => ?choice, fun s x hrunning hsending => ?sent⟩
  case choice =>
    extract_lets north n
    have hready : exec (.northOutputChoice true) s = .next (s.withNorth n).chooseNorth := by
      rw [exec_event _ s hrunning rfl, eventOf, s.northChoice_ready hsynced hfree]
    refine ⟨?_, fun item g hresend hframe => ?_, fun x rest hresend hstatus => ?_, fun r rest hresend hstatus hfilled hturn => ?_,
      fun g rest hresend hstatus hbuffer hturn => ?_, fun hresend hstatus hfilled hbuffer => ?_⟩
    · rw [exec_event _ s hrunning rfl, eventOf, s.northChoice_unready hsynced hfree]
      rfl
    · rw [hready, (s.withNorth n).chooseNorth_resend item hresend, State.beginNorth_of_frame _ _ g]
      · rfl
      · exact hframe
    · rw [hready, (s.withNorth n).chooseNorth_status hresend x rest hstatus, State.beginNorth_of_frame _ _ (s.statusFrame x) rfl]
      rfl
    · rw [hready, (s.withNorth n).chooseNorth_txdone hresend hstatus r rest hfilled hturn,
        State.beginNorth_of_frame _ _ (originate 4 0 r.tag 0 r.payload) rfl]
      rfl
    · have hsome : s.north.passBuffer ≠ [] := by simp [hbuffer]
      have hframe : s.itemFrame .rxdata = some g := by simp [State.itemFrame, hbuffer]
      rw [hready, (s.withNorth n).chooseNorth_rxdata hresend hstatus hsome hturn, State.beginNorth_of_frame _ _ g]
      · rfl
      · exact hframe
    · rw [hready, (s.withNorth n).chooseNorth_idle hresend hstatus hfilled hbuffer]
      rfl
  case sent =>
    obtain ⟨item, frame⟩ := x
    extract_lets north u
    refine ⟨fun r held hitem => ?_, fun hitem => ?_, fun sq p hitem => ?_, fun hitem => ?_, fun scope hitem => ?_⟩ <;>
      (dsimp only at hitem; subst hitem; rw [exec_event _ s hrunning rfl])
    · simp only [eventOf, State.txdoneSent, hsending]
      cases held <;> rfl
    · simp only [eventOf, State.rxdataSent, hsending]
      rfl
    · simp only [eventOf, State.statusSent, hsending]
      exact (exec_event .responseQueued u hrunning rfl).symm
    · simp only [eventOf, State.statusSent, hsending]
      rfl
    · simp only [eventOf, State.statusSent, hsending]
      rfl

/-! ### The south output (R10, R14) -/

theorem State.southStart_ready (s : State) (hsynced : s.south.synced = true) (hfree : s.south.sending = none) :
    s.southStart true = (s.withSouth { s.south with partnerReady := true }).startSouth := by
  simp [State.southStart, hsynced, hfree]

theorem State.southStart_unready (s : State) (hsynced : s.south.synced = true) (hfree : s.south.sending = none) :
    s.southStart false = s.withSouth { s.south with partnerReady := false } := by
  simp [State.southStart, hsynced, hfree]

section
variable (s : State)

theorem State.startSouth_cancel (c : CancelRecord) (rest : List CancelRecord) (h : s.south.cancels = c :: rest) :
    s.startSouth =
      s.withSouth
        { s.south with
          cancels := rest
          sending := some { item := .cancel c.id, frame := originate 10 0 (idSequence c.id) 0 c.payload } } := by
  simp only [State.startSouth, h]

theorem State.startSouth_txdata (r : ReleaseRecord) (rest : List ReleaseRecord) (hcancels : s.south.cancels = [])
    (h : s.south.txdata = r :: rest) :
    s.startSouth =
      s.withSouth
        { s.south with
          txdata := rest
          sending := some { item := .txdata r.id, frame := originate 9 0 (idSequence r.id) 0 (s.txdataPayload r) } } := by
  simp only [State.startSouth, hcancels, h]

theorem State.startSouth_idle (hcancels : s.south.cancels = []) (htxdata : s.south.txdata = []) : s.startSouth = s := by
  simp only [State.startSouth, hcancels, htxdata]

theorem State.txdataPayload_of_head (r : ReleaseRecord) (d : Descriptor) (h : (s.queue r.queue).head = some d) :
    s.txdataPayload r = r.bytes d.lengthOf ++ r.ordinals.flatMap fun o => subframeBytes o (s.store.body d o) := by
  simp only [State.txdataPayload, h]

end

/-- Settles O27: the oldest CANCEL, then the oldest TXDATA, whose payload is read from the head's cells. -/
theorem southOutputSendsCancelsFirst : Obligations.SouthOutputSendsCancelsFirst := by
  refine ⟨fun s hrunning hsynced hfree => ?start, fun s x hrunning hsending => ⟨fun id hitem => ?txdata, fun id hitem => ?cancel⟩⟩
  case start =>
    extract_lets south l
    have hready : exec (.southOutputStart true) s = .next (s.withSouth l).startSouth := by
      rw [exec_event _ s hrunning rfl, eventOf, s.southStart_ready hsynced hfree]
    refine ⟨?_, fun c rest hcancels => ?_, fun r rest d hcancels htxdata hhead => ?_, fun hcancels htxdata => ?_⟩
    · rw [exec_event _ s hrunning rfl, eventOf, s.southStart_unready hsynced hfree]
      rfl
    · rw [hready, (s.withSouth l).startSouth_cancel c rest hcancels]
      rfl
    · rw [hready, (s.withSouth l).startSouth_txdata r rest hcancels htxdata, (s.withSouth l).txdataPayload_of_head r d hhead]
      rfl
    · rw [hready, (s.withSouth l).startSouth_idle hcancels htxdata]
      rfl
  case txdata =>
    obtain ⟨item, frame⟩ := x
    dsimp only at hitem
    subst hitem
    rw [exec_event _ s hrunning rfl, eventOf]
    simp only [State.txdataSent, hsending]
    rfl
  case cancel =>
    obtain ⟨item, frame⟩ := x
    dsimp only at hitem
    subst hitem
    rw [exec_event _ s hrunning rfl, eventOf]
    simp only [State.cancelSent, hsending]
    rfl

/-! ### Gains and losses (R4, R16, R157) -/

/-- The count of waiting STARTED frames, with the frame that is to be sent again counted by what it is. -/
theorem NorthLink.startedWaiting_eq (n : NorthLink) :
    n.startedWaiting = (n.status.filter fun f => f == .started .powerOn || f == .started .full).length
      + if n.resend = some (.status (.started .powerOn)) ∨ n.resend = some (.status (.started .full)) then 1 else 0 := by
  unfold NorthLink.startedWaiting
  refine congrArg₂ (· + ·) rfl ?_
  split
  case h_1 f hf => simp only [hf, Option.some.injEq, NorthItem.status.injEq, StatusFrame.isStarted, Bool.or_eq_true, beq_iff_eq]
  case h_2 hnone =>
    rw [if_neg]
    rintro (h | h)
    · exact hnone _ h
    · exact hnone _ h

theorem NorthLink.abandon_other (n : NorthLink) (item : NorthItem) (h : ∀ scope, item ≠ .status (.started scope)) :
    n.abandon item = { n with resend := some item } := by
  unfold NorthLink.abandon
  split
  case h_1 scope => exact absurd rfl (h scope)
  case h_2 => rfl

/-- A STARTED of scope POWER_ON is withdrawn when one of scope FULL waits (R157). -/
theorem NorthLink.abandon_withdrawn (n : NorthLink) (h : .started .full ∈ n.status) :
    n.abandon (.status (.started .powerOn)) = { n with resend := none } := by
  simp [NorthLink.abandon, h]

/-- Any other STARTED takes the place of one that waits (R12). -/
theorem NorthLink.abandon_started (n : NorthLink) (scope : StartedScope) (h : ¬ (scope = .powerOn ∧ .started .full ∈ n.status)) :
    n.abandon (.status (.started scope)) =
      { n with resend := some (.status (.started scope)), status := n.status.filter fun f => !f.isStarted } := by
  rw [NorthLink.abandon, if_neg (by simpa using h)]

/-- Settles O5: the gains' fields, and what becomes of the frame being sent at a loss. -/
theorem syncGainsAndNorthLoss : Obligations.SyncGainsAndNorthLoss := by
  refine ⟨fun s hrunning hlost => ?north, fun s hrunning hlost => ?south, fun s hrunning hsynced => ?loss⟩
  case north =>
    rw [exec_event _ s hrunning rfl]
    simp only [eventOf, State.northGained, hlost, Bool.false_eq_true, if_false]
    cases hever : s.north.everSynced <;> rfl
  case south =>
    rw [exec_event _ s hrunning rfl]
    simp only [eventOf, State.southGained, hlost, Bool.false_eq_true, if_false]
    rfl
  case loss =>
    extract_lets started waiting lost
    have hexec : exec .northSyncLost s = .next s.northLost := exec_event _ s hrunning rfl
    have hfifo : (if s.north.input.holdsSlot then s.fifo.cancel else s.fifo) =
        { s.fifo with reserved := if s.north.input.holdsSlot then s.fifo.reserved - 1 else s.fifo.reserved } := by
      cases s.north.input.holdsSlot <;> rfl
    refine ⟨fun hidle => ?_, fun x hsending => ⟨fun hother => ?_, fun hitem hwaits => ?_, fun scope hitem hkept => ?_⟩, fun t ht hone => ?_⟩
    · simp only [hexec, State.northLost, hsynced, hidle, if_true, hfifo]
      rfl
    · simp only [hexec, State.northLost, hsynced, hsending, if_true, hfifo, NorthLink.abandon_other _ _ hother]
      rfl
    · simp only [hexec, State.northLost, hsynced, hsending, if_true, hfifo, hitem]
      rw [NorthLink.abandon_withdrawn]
      exact hwaits
    · simp only [hexec, State.northLost, hsynced, hsending, if_true, hfifo, hitem]
      rw [NorthLink.abandon_started]
      · rfl
      · exact hkept
    · have hcount (n : NorthLink) : waiting n = n.startedWaiting := (n.startedWaiting_eq).symm
      rw [hexec, Host.Outcome.next.injEq] at ht
      subst ht
      rw [hcount] at hone ⊢
      have hstatus : (s.north.status.filter StatusFrame.isStarted).length ≤ 1 := (Nat.le_add_right _ _).trans hone
      simp only [State.northLost, hsynced, if_true]
      cases hsending : s.north.sending with
      | none => exact hone
      | some x => exact NorthLink.abandon_startedWaiting _ _ hstatus

end Sys2Proof.Machine

/-! PROOFS. CONTROL frames and responses (R144, R147), the commands that write the event block or only report (R145, R151, R153, R160), and RXDATA
frames (R13). -/

namespace Sys2Proof.Machine

/-! ### The control buffers -/

theorem ControlFrame.list_buffer (f : ControlFrame) :
    f.list.buffer = if (readCommands f.payload).1 = [] ∧ (readCommands f.payload).2 = [] then .holding f.list else .executing f.list := by
  simp [ControlList.buffer, ControlFrame.list]

theorem exec_controlFrame (s : State) (f : LinkFrame) (harrives : s.northArriving f) (hkind : f.header.kind = 2) :
    exec (.controlFrame f) s = .next ((s.withInput .awaitHeader).takeControl f) := by
  rw [exec_event _ s harrives.1 rfl, eventOf, State.controlFrame, s.northFrame_taken 2 f _ harrives hkind]

/-- Settles O13: the three cases of taking a CONTROL frame. -/
theorem controlFrameTakesABuffer : Obligations.ControlFrameTakesABuffer := by
  intro s f harrives hkind
  rw [exec_controlFrame s f harrives hkind]
  refine ⟨fun hwaiting hempty => ?enters, fun hwaiting hbusy => ?waits, fun hwaiting => ?overrun⟩
  case enters =>
    extract_lets p l
    have hlist : ({ sequence := f.header.sequence, payload := f.payload } : ControlFrame).list = l := by
      simp only [ControlFrame.list, List.isEmpty_iff]
      rfl
    have hbuffer : l.buffer = if p.1 = [] ∧ p.2 = [] then .holding l else .executing l := by
      rw [← hlist, ControlFrame.list_buffer]
    simp only [State.takeControl, State.withInput_engine, hwaiting, hempty, hlist]
    rw [hbuffer]
    rfl
  case waits =>
    simp only [State.takeControl, State.withInput_engine, hwaiting]
    rfl
  case overrun =>
    obtain ⟨w, hw⟩ := Option.ne_none_iff_exists'.1 hwaiting
    simp only [State.takeControl, State.withInput_engine, hw]
    rfl

/-- Settles O14: the response joins the waiting STATUS frames, and the waiting frame's list takes the executing buffer. -/
theorem responseQueuedMovesTheNextListUp : Obligations.ResponseQueuedMovesTheNextListUp := by
  intro s l hrunning hholding
  rw [exec_event _ s hrunning rfl, eventOf]
  refine ⟨fun hwaits => ?held, fun hfree hnone => ?queued⟩
  case held => simp [State.queueResponse, hholding, hwaits]
  case queued =>
    simp only [State.queueResponse, hholding, hfree, hnone, Bool.false_eq_true, if_false]
    cases hwaiting : s.engine.waiting with
    | none => simp [hwaiting, State.withNorth, State.withExecuting]
    | some f => rfl

/-! ### Commands that report -/

/-- A flags or enables field is read when it names no bit beyond the 14 (R153). -/
theorem readEventBits_of_lt {data : List Byte} (hlength : data.length = 2) (h : field data 0 2 < 16384) :
    readEventBits data = some (BitVec.ofNat 14 (field data 0 2)) := if_pos ⟨hlength, h⟩

theorem readEventBits_of_le {data : List Byte} (h : 16384 ≤ field data 0 2) : readEventBits data = none :=
  if_neg fun hd => absurd hd.2 (Nat.not_lt.2 h)

/-- Settles O46: each field is read, and the event block written, with ATTN following. -/
theorem eventCommandsWriteEnablesAndClearFlags : Obligations.EventCommandsWriteEnablesAndClearFlags := by
  intro s l target data
  refine ⟨fun h hlength => ⟨fun hlarge => ?badEnables, fun hsmall => ?enables⟩,
    fun h => ⟨fun hzero hall => ?badTarget, fun hall hdata => ?clearAll, fun hzero hlength hlarge => ?badFlags,
      fun hzero hlength hsmall => ?clear⟩⟩
  case badEnables =>
    exact exec_refused (.setEventEnables target data) s l _ .badValue h rfl rfl
      (by simp [refusalOf, readEventBits_of_le hlarge, refuseIf])
  case enables =>
    have hread := readEventBits_of_lt hlength hsmall
    rw [exec_done (.setEventEnables target data) s l _ h rfl rfl (by simp [refusalOf, hread, refuseIf]) (Nat.zero_le _) rfl]
    simp only [actOf, hread, State.writeEnables, Events.withAttn, Events.attention_eq, Option.getD_some]
  case badTarget =>
    exact exec_refused (.clearEvents target data) s l _ .badTarget h rfl rfl (by
      simp only [refusalOf, refuseIf, bne_iff_ne.2 hall, bne_iff_ne.2 hzero, Bool.and_self, if_true])
  case clearAll =>
    subst hall hdata
    rw [exec_clearEvents_all s l h]
    simp [State.clearFlags, Events.withAttn, Events.attention]
  case badFlags =>
    subst hzero
    exact exec_refused (.clearEvents 0 data) s l _ .badValue h rfl rfl
      (by simp [refusalOf, clearMask, readEventBits_of_le hlarge, refuseIf])
  case clear =>
    subst hzero
    have hmask : clearMask 0 data = some (BitVec.ofNat 14 (field data 0 2)) :=
      (if_neg (by decide)).trans (readEventBits_of_lt hlength hsmall)
    have href : refusalOf (.clearEvents 0 data) s = none := (refuseIf_eq_none_iff _ _ _).2 ⟨rfl, rfl, by rw [hmask]; rfl⟩
    rw [exec_done (.clearEvents 0 data) s l _ h rfl rfl href (Nat.zero_le _) rfl]
    simp only [actOf, hmask, State.clearFlags, Events.withAttn, Events.attention_eq, Option.getD_some]

/-- A RESET_PART that is accepted is noted in the list and answered OK; the list goes on (R151). -/
theorem exec_resetPart_ok (s : State) (l : ControlList) (target : Byte) (data : List Byte) (scope : ResetScope)
    (h : s.executes l { code := 101, target, data }) (hread : readScope data = some scope) :
    exec (.resetPart target data) s =
      .next (s.answered { l with reset := some (ResetScope.join l.reset scope) } { code := 101, target, data } .ok []) := by
  have ⟨hat, hwhole⟩ := h
  have ⟨hrunning, hexecuting, _⟩ := hat
  have href : refusalOf (.resetPart target data) s = none := by simp [refusalOf, hread, refuseIf]
  rw [exec_command (.resetPart target data) s _ hrunning rfl rfl, commandOf, href, s.command_of_atCommand l _ _ _ _ _ _ hat,
    if_neg (by simp [hwhole])]
  simp only [sizeOf, actOf, hread, Nat.not_lt_zero, if_false, State.acceptReset, hexecuting]
  rw [State.reportResult_eq_answered _ { l with reset := some (ResetScope.join l.reset scope) } _ _ _ rfl]
  rfl

/-- Settles O47: a scope is read and noted, an unknown code refused, and leftover bytes end the list with one entry. -/
theorem resetUnknownAndBrokenCommandsAreReported : Obligations.ResetUnknownAndBrokenCommandsAreReported := by
  refine ⟨fun s l target scope h => ⟨fun hlarge => ?badScope, fun hzero => ?traffic, fun hone => ?full⟩,
    fun s l code target data h hcode => ?unknown, fun s l bytes hrunning hexecuting hcommands htail hbytes => ?tail⟩
  case badScope =>
    have hread : readScope [scope] = none := by
      have hbyte : (byteAt [scope] 0).toNat = scope.toNat := rfl
      simp only [readScope, hbyte, List.length_singleton, if_true]
      split
      · omega
      · omega
      · rfl
    exact exec_refused (.resetPart target [scope]) s l _ .badValue h rfl rfl (by simp [refusalOf, hread, refuseIf])
  case traffic =>
    subst hzero
    extract_lets l'
    rw [exec_resetPart_ok s l target [0] .traffic h rfl]
    congr 3
    show some (ResetScope.join l.reset .traffic) = _
    cases l.reset with
    | none => rfl
    | some r => cases r <;> rfl
  case full =>
    subst hone
    rw [exec_resetPart_ok s l target [1] .full h rfl]
    congr 3
    cases l.reset with
    | none => rfl
    | some r => cases r <;> rfl
  case unknown =>
    have hlisted : listedUnknown (.unknownCommand code target data) = false := by simpa [listedUnknown] using hcode
    exact exec_refused (.unknownCommand code target data) s l _ .badOp h rfl hlisted rfl
  case tail =>
    subst htail
    obtain ⟨sequence, commands, tail, results, room, truncated, reset⟩ := l
    dsimp only at hcommands hbytes ⊢
    subst hcommands
    have hmatch : (([] : List Command).isEmpty && !tail.isEmpty && tail == tail) = true := by simp [hbytes]
    rw [exec_event _ s hrunning rfl, eventOf, State.reportTail]
    simp only [hexecuting, hmatch, if_true, ControlList.buffer]
    rfl

end Sys2Proof.Machine

/-! PROOFS. What setting flags leaves of the north link, and RXDATA frames (R13). -/

namespace Sys2Proof.Machine

/-! ### The north link but for its waiting STATUS frames -/

/-- What a NOTICE queued by a flag leaves of the north link. -/
def State.still (s : State) : NorthLink := { s.north with status := [] }

theorem State.still_of_north {s t : State} (h : t.north = s.north) : t.still = s.still := by rw [State.still, State.still, h]

/-- The link is as it was but for its waiting STATUS frames. -/
theorem State.north_of_still {s t : State} (h : t.still = s.still) : t.north = { s.north with status := t.north.status } := by
  have hfields := congrArg (fun n : NorthLink => ({ n with status := t.north.status } : NorthLink)) h
  exact hfields

@[simp] theorem State.queueNotice_still (s : State) : s.queueNotice.still = s.still := by
  rcases s.queueNotice_north with h | h <;> rw [State.still, State.still, h]

@[simp] theorem State.setFlag_still (s : State) (f : EventFlag) : (s.setFlag f).still = s.still := by
  unfold State.setFlag
  split
  · rfl
  · dsimp only
    split
    · exact State.queueNotice_still _
    · rfl

@[simp] theorem State.setFlagIf_still (s : State) (c : Bool) (f : EventFlag) : (s.setFlagIf c f).still = s.still := by
  cases c with
  | false => rfl
  | true => exact s.setFlag_still f

@[simp] theorem State.setFlags_still (s : State) (fs : List EventFlag) : (s.setFlags fs).still = s.still :=
  fs.foldlRecOn (motive := fun u : State => u.still = s.still) _ rfl fun u hu f _ => (u.setFlag_still f).trans hu

@[simp] theorem State.search_still (s : State) (opened : Bool) : (s.search opened).still = s.still := by
  unfold State.search
  split
  case isTrue =>
    have hflag := State.setFlagIf_still { s with window := s.searchResult } (s.searchResult.saturated && !s.window.saturated)
      .channelSaturated
    dsimp only
    split
    · exact (State.still_of_north (by simp)).trans hflag
    · exact (State.still_of_north (by simp)).trans hflag
  case isFalse => exact State.still_of_north (by simp)

@[simp] theorem Track.handOn_still (t : Track) : t.handOn.still = t.state.still := by
  unfold Track.handOn
  extract_lets s₁ s₂
  have h₁ : s₁.still = t.state.still := State.still_of_north (by simp [s₁])
  have h₂ : s₂.still = s₁.still := by
    show (if t.trigger then s₁.search false else s₁).still = s₁.still
    split
    · exact s₁.search_still false
    · rfl
  rw [State.setFlags_still, h₂, h₁]

@[simp] theorem State.readBeacon_still (s : State) (payload : List Byte) : (s.readBeacon payload).still = s.still := by
  unfold State.readBeacon
  (repeat' split)
  · exact (Track.handOn_still _).trans (State.still_of_north (by simp))
  · rfl
  · rfl

/-! ### RXDATA frames (R13) -/

theorem State.readBeacon_of_unqualified (s : State) (payload : List Byte) (h : ∀ x, readTrailer payload = some x → x.qualifies = false) :
    s.readBeacon payload = s := by
  unfold State.readBeacon
  split
  case h_1 x hx => rw [if_neg (by simp [h x hx])]
  case h_2 => rfl

theorem exec_rxdataFrame (s : State) (f : LinkFrame) (harrives : s.southArriving f) (hkind : f.header.kind = 5) :
    exec (.rxdataFrame f) s = .next ((s.passRxdata f).readBeacon f.payload) := by
  rw [exec_event _ s harrives.1 rfl, eventOf, State.rxdataFrame, s.southFrame_taken 5 f _ harrives hkind, State.takeRxdata]

/-- Settles O16: the frame is stored or dropped, and the tracker, which reads the trailer next, touches neither the buffer nor a set flag. -/
theorem rxdataFrameIsStoredWholeOrDropped : Obligations.RxdataFrameIsStoredWholeOrDropped := by
  intro s f harrives hkind
  rw [exec_rxdataFrame s f harrives hkind]
  extract_lets fits
  have hstored (h : fits) : s.passRxdata f = s.withNorth { s.north with passBuffer := s.north.passBuffer ++ [f] } := if_pos h
  have hdropped (h : ¬ fits) : s.passRxdata f = s.setFlag .rxDropped := if_neg h
  refine ⟨fun hunread => ⟨fun h => ?_, fun h => ?_⟩, _, rfl, fun h => ?_, fun h => ⟨?_, ?_⟩⟩
  · rw [State.readBeacon_of_unqualified _ _ hunread, hstored h]
    rfl
  · rw [State.readBeacon_of_unqualified _ _ hunread, hdropped h]
  · rw [hstored h]
    exact (congrArg NorthLink.passBuffer (State.readBeacon_still _ f.payload)).trans rfl
  · rw [hdropped h]
    have hstill := (State.readBeacon_still (s.setFlag .rxDropped) f.payload).trans (s.setFlag_still .rxDropped)
    exact (congrArg NorthLink.passBuffer hstill).trans rfl
  · rw [hdropped h]
    have hset : (s.setFlag .rxDropped).flag .rxDropped = true := by simp
    exact (flagLaw .rxDropped).readBeacon _ hset f.payload

end Sys2Proof.Machine

/-! PROOFS. The commands of a CONTROL payload: how they are separated, and how each is answered (sections 10.3 and 11.5). -/

namespace Sys2Proof.Machine

/-! ### Separation (R160) -/

/-- The length of a command as a payload carries it: its header and its data. -/
theorem Command.bytes_length (c : Command) : c.bytes.length = 4 + c.data.length := by
  simp [Command.bytes]
  omega

/-- The data length that a command's header declares. -/
theorem Command.field_bytes (c : Command) (rest : List Byte) (h : c.data.length < 65536) :
    field (c.bytes ++ rest) 2 2 = c.data.length := by
  have hheader : ((c.bytes ++ rest).drop 2).take 2 = toBytes 2 c.data.length := by simp [Command.bytes]
  rw [field, hheader, ofBytes_toBytes (by simpa using h)]

theorem Command.drop_bytes (c : Command) (rest : List Byte) : (c.bytes ++ rest).drop (4 + c.data.length) = rest := by
  rw [← c.bytes_length]
  exact List.drop_left

theorem Command.data_bytes (c : Command) (rest : List Byte) :
    ((c.bytes ++ rest).drop 4).take c.data.length = c.data := by
  simp [Command.bytes]

/-- The first whole command of a payload is separated from the rest. -/
theorem splitCommands_cons (n : Nat) (c : Command) (rest : List Byte) (h : c.data.length < 65536) :
    splitCommands (n + 1) (c.bytes ++ rest) = (c :: (splitCommands n rest).1, (splitCommands n rest).2) := by
  have hlength : (c.bytes ++ rest).length = 4 + c.data.length + rest.length := by rw [List.length_append, c.bytes_length]
  rw [splitCommands, if_neg (by omega), c.field_bytes rest h, if_neg (by omega)]
  simp only [c.data_bytes, c.drop_bytes]
  rfl

/-- The two bytes of a payload's first data length, as a broken tail reads them. -/
theorem field_two_two (a b hi lo : Byte) (data : List Byte) :
    field (a :: b :: hi :: lo :: data) 2 2 = hi.toNat * 256 + lo.toNat := by
  simp [field, ofBytes]

/-- A broken tail holds no whole command. -/
theorem splitCommands_tail (n : Nat) (tail : List Byte) (h : tail = [] ∨ isBrokenTail tail = true) :
    splitCommands n tail = ([], tail) := by
  cases n with
  | zero => rfl
  | succ n =>
    match tail, h with
    | [], _ => rfl
    | [_], _ => rfl
    | [_, _], _ => rfl
    | [_, _, _], _ => rfl
    | a :: b :: hi :: lo :: data, h =>
      have hshort : data.length < hi.toNat * 256 + lo.toNat := by
        have hbroken := h.resolve_left (List.cons_ne_nil _ _)
        simp only [isBrokenTail, Bool.and_eq_true, decide_eq_true_eq] at hbroken
        exact hbroken.1
      rw [splitCommands, field_two_two]
      simp only [List.length_cons]
      rw [if_neg (by omega), if_pos (by omega)]

/-- Joined commands are separated again, whatever broken tail follows them. -/
theorem splitCommands_join (tail : List Byte) (htail : tail = [] ∨ isBrokenTail tail = true) (cs : List Command) (n : Nat)
    (hn : cs.length ≤ n) (h : ∀ c ∈ cs, c.data.length < 65536) :
    splitCommands n (cs.flatMap Command.bytes ++ tail) = (cs, tail) := by
  induction cs generalizing n with
  | nil => exact splitCommands_tail n tail htail
  | cons c cs ih =>
    obtain ⟨m, rfl⟩ := Nat.exists_eq_succ_of_ne_zero (Nat.ne_of_gt (Nat.lt_of_lt_of_le cs.length.succ_pos hn))
    rw [List.flatMap_cons, List.append_assoc, splitCommands_cons m c _ (h c List.mem_cons_self),
      ih m (Nat.le_of_succ_le_succ hn) fun d hd => h d (List.mem_cons_of_mem _ hd)]

theorem flatMap_bytes_length (cs : List Command) : 4 * cs.length ≤ (cs.flatMap Command.bytes).length := by
  induction cs with
  | nil => simp
  | cons c cs ih =>
    rw [List.flatMap_cons, List.length_append, c.bytes_length, List.length_cons]
    omega

/-- Separation loses no byte. -/
theorem splitCommands_bytes (n : Nat) (payload : List Byte) :
    (splitCommands n payload).1.flatMap Command.bytes ++ (splitCommands n payload).2 = payload := by
  induction n generalizing payload with
  | zero => rfl
  | succ n ih =>
    match payload with
    | [] | [_] | [_, _] | [_, _, _] => rfl
    | a :: b :: hi :: lo :: rest =>
      rw [splitCommands, if_neg (by simp only [List.length_cons]; omega)]
      have hheader : toBytes 2 (field (a :: b :: hi :: lo :: rest) 2 2) = [hi, lo] := toBytes_ofBytes [hi, lo]
      generalize field (a :: b :: hi :: lo :: rest) 2 2 = size at hheader
      split
      case isTrue => rfl
      case isFalse hlong =>
        simp only [List.length_cons] at hlong
        have hlength : (rest.take size).length = size := List.length_take_of_le (by omega)
        have hdrop : (a :: b :: hi :: lo :: rest).drop (4 + size) = rest.drop size := by simp [Nat.add_comm 4]
        have hcommand : (Command.mk a b (rest.take size)).bytes = a :: b :: hi :: lo :: rest.take size := by
          rw [Command.bytes, hlength, hheader]
          rfl
        show (Command.mk a b (rest.take size) :: (splitCommands n ((a :: b :: hi :: lo :: rest).drop (4 + size))).1).flatMap
          Command.bytes ++ (splitCommands n ((a :: b :: hi :: lo :: rest).drop (4 + size))).2 = _
        rw [List.flatMap_cons, List.append_assoc, ih, hdrop, hcommand]
        simp

/-- Settles O49, by induction on the commands and on the bound of their number. -/
theorem commandListsReadBack : Obligations.CommandListsReadBack := by
  refine ⟨fun cs tail hsizes htail => ?_, fun payload => splitCommands_bytes _ payload⟩
  have hcount := flatMap_bytes_length cs
  exact splitCommands_join tail htail cs _ (by rw [List.length_append]; omega) hsizes

/-! ### The answer (R145, R146) -/

theorem State.forQueues_engine (s : State) (qs : List (Fin 16)) (f : State → Fin 16 → State)
    (hf : ∀ u q, (f u q).engine = u.engine) : (s.forQueues qs f).engine = s.engine :=
  s.forQueues_keeps State.engine qs f hf

/-- A command carried out changes at most the reset that its own list notes (R151). -/
theorem actOf_executing (i : Instr) (s : State) (l : ControlList) (h : s.engine.executing = .executing l) :
    ∃ r, (actOf i s).1.engine.executing = .executing { l with reset := r } := by
  have hsame (t : State) (ht : t.engine.executing = s.engine.executing) :
      ∃ r, t.engine.executing = .executing { l with reset := r } := ⟨l.reset, ht.trans h⟩
  cases i with
  | pauseQueue => exact hsame _ (congrArg Engine.executing (s.forQueues_engine _ _ (by simp)))
  | resumeQueue => exact hsame _ (congrArg Engine.executing (s.forQueues_engine _ _ (by simp)))
  | drainQueue => exact hsame _ (congrArg Engine.executing (s.forQueues_engine _ _ (by simp)))
  | clearQueueFlags => exact hsame _ (congrArg Engine.executing (s.forQueues_engine _ _ (by simp)))
  | resetPart target data =>
    cases hscope : readScope data with
    | some scope =>
      exact ⟨some (ResetScope.join l.reset scope), by simp [actOf, hscope, State.acceptReset, h, State.withExecuting]⟩
    | none => exact hsame _ (by simp [actOf, hscope])
  | loadSettings target data =>
    refine hsame _ ?_
    cases hread : readSettingsImage data with
    | some c => simp [actOf, hread, State.applySettings]
    | none => simp [actOf, hread]
  | _ => exact hsame _ (by (simp only [actOf]; repeat' split) <;> simp)

/-- A command returns no more read data than was measured for it. -/
theorem actOf_data_length (i : Instr) (s : State) : (actOf i s).2.length ≤ sizeOf i := by
  cases i with
  | readSources target data =>
    have htaken : ((allSlots.drop target.toNat).take (field data 0 1)).length ≤ field data 0 1 := List.length_take_le _ _
    simp only [actOf, sizeOf, State.sourceImages, List.length_flatMap, sourceImage_length, List.map_const', List.sum_replicate,
      smul_eq_mul]
    omega
  | _ => (simp only [actOf, sizeOf]; repeat' split) <;> simp

theorem refuseIf_ne_ok (badTarget busy badValue : Bool) (r : Result) (h : refuseIf badTarget busy badValue = some r) :
    r ≠ .ok := by
  rintro rfl
  unfold refuseIf at h
  split_ifs at h <;> simp at h

/-- A refusal is never answered OK. -/
theorem refusalOf_ne_ok (i : Instr) (s : State) (r : Result) (h : refusalOf i s = some r) : r ≠ .ok := by
  cases i with
  | pauseQueue target data => exact refuseIf_ne_ok _ _ _ r h
  | resumeQueue target data => exact refuseIf_ne_ok _ _ _ r h
  | drainQueue target data => exact refuseIf_ne_ok _ _ _ r h
  | clearQueueFlags target data => exact refuseIf_ne_ok _ _ _ r h
  | unknownCommand code target data =>
    cases h
    decide
  | _ =>
    simp only [refusalOf, reduceCtorEq] at h
    all_goals exact refuseIf_ne_ok _ _ _ r h

/-- A well-formed UNKNOWN_COMMAND carries a code that Table 11-10 does not list. -/
theorem listedUnknown_of_wellFormed (i : Instr) (h : i.wellFormed = true) : listedUnknown i = false := by
  cases i with
  | unknownCommand code target data =>
    simp only [Instr.wellFormed, Bool.and_eq_true, Bool.not_eq_true'] at h
    exact h.1
  | _ => rfl

/-- How a command that the list stands at is answered, in the five ways it can be met. -/
theorem exec_atCommand (i : Instr) (c : Command) (s : State) (l : ControlList) (hc : i.asCommand = some c)
    (hi : i.wellFormed = true) (h : s.atCommand l c) :
    (∃ r, r ≠ .ok ∧ (l.truncated = true → r = .truncated) ∧ exec i s = .next (s.answered l c r []))
      ∨ l.truncated = false ∧ sizeOf i ≤ l.room ∧ ∃ reset,
          exec i s = .next ((actOf i s).1.answered { l with reset } c .ok (actOf i s).2) := by
  have hrunning : s.inReset = false := h.1
  rw [exec_command i s c hrunning hc (listedUnknown_of_wellFormed i hi), commandOf, s.command_of_atCommand l _ _ _ _ _ _ h]
  cases htruncated : l.truncated with
  | true => exact .inl ⟨.truncated, by decide, fun _ => rfl, by simp⟩
  | false =>
    cases href : refusalOf i s with
    | some r => exact .inl ⟨r, refusalOf_ne_ok i s r href, by simp, by simp⟩
    | none =>
      by_cases hroom : l.room < sizeOf i
      case pos => exact .inl ⟨.truncated, by decide, fun _ => rfl, by simp [hroom]⟩
      case neg =>
        obtain ⟨reset, hreset⟩ := actOf_executing i s l h.2.1
        refine .inr ⟨rfl, Nat.not_lt.1 hroom, reset, ?_⟩
        simp [hroom, htruncated, (actOf i s).1.reportResult_eq_answered { l with reset } c .ok (actOf i s).2 hreset]

/-- Settles O48: each of the ways in which a command is met reports one entry. -/
theorem eachCommandIsAnsweredOnce : Obligations.EachCommandIsAnsweredOnce := by
  intro i c s l hc hi h
  obtain ⟨r, hr, htruncated, heq⟩ | ⟨htruncated, hroom, reset, heq⟩ := exec_atCommand i c s l hc hi h
  case inl =>
    refine ⟨_, l.report { code := c.code, result := r, data := [] } (r == .truncated), r, [], heq, rfl, rfl, rfl, rfl, rfl,
      Nat.zero_le _, rfl, rfl, htruncated, fun _ => ⟨rfl, rfl⟩⟩
  case inr =>
    refine ⟨_, ControlList.report { l with reset } { code := c.code, result := .ok, data := (actOf i s).2 } false, .ok,
      (actOf i s).2, heq, rfl, rfl, rfl, rfl, rfl, (actOf_data_length i s).trans hroom, rfl, rfl, ?_, fun hok => absurd rfl hok⟩
    simp [htruncated]

end Sys2Proof.Machine

/-! PROOFS. The commands that read records, and the queue commands that change them (sections 3.3 and 10.3). -/

namespace Sys2Proof.Machine

/-! ### Commands that only read (R45, R133, R140, R149, R150) -/

/-- A read that is not refused returns its image where that fits, and is TRUNCATED where it does not (R146). -/
theorem exec_read (i : Instr) (s : State) (l : ControlList) (c : Command) (image : List Byte) (h : s.executes l c)
    (hc : i.asCommand = some c) (hl : listedUnknown i = false) (hr : refusalOf i s = none) (hact : actOf i s = (s, image))
    (hsize : sizeOf i = image.length) :
    (image.length ≤ l.room → exec i s = .next (s.answered l c .ok image))
      ∧ (l.room < image.length → exec i s = .next (s.answered l c .truncated [])) := by
  refine ⟨fun hroom => ?fits, fun hroom => exec_truncated i s l c h hc hl hr (hsize ▸ hroom)⟩
  case fits =>
    rw [exec_done i s l c h hc hl hr (hsize ▸ hroom) (by rw [hact]), hact]

theorem field_singleton (n : Byte) : field [n] 0 1 = n.toNat := by simp [field, ofBytes]

/-- A run of slots within the table has the images of its slots, 31 bytes each. -/
theorem State.sourceImages_length (s : State) (first n : Nat) (h : first + n ≤ 16) :
    (s.sourceImages first n).length = 31 * n := by
  have htaken : ((allSlots.drop first).take n).length = n := by
    rw [List.length_take, List.length_drop, show allSlots.length = 16 from rfl]
    omega
  simp only [State.sourceImages, List.length_flatMap, sourceImage_length, List.map_const', List.sum_replicate, smul_eq_mul, htaken]
  omega

theorem badSourceRun_eq_true_iff (target : Byte) (data : List Byte) :
    badSourceRun target data = true ↔ data.length ≠ 1 ∨ ∃ n : Byte, data = [n] ∧ (n = 0 ∨ 16 < target.toNat + n.toNat) := by
  rw [badSourceRun, decide_eq_true_iff]
  match data with
  | [] => simp
  | [n] =>
    have hzero : n = 0#8 ↔ n.toNat = 0 := BitVec.toNat_eq
    simp [field_singleton, hzero]
  | _ :: _ :: _ => simp

/-- Settles O44: each read returns its record in the state as it stands. -/
theorem readCommandsReturnRecordsUnchanged : Obligations.ReadCommandsReturnRecordsUnchanged := by
  refine fun s l target => ⟨fun q hq h => ?queue, fun n hn hlast h => ?sources, fun data h => ⟨fun htarget => ?badTarget, fun htarget hdata => ?badValue⟩,
    fun h => ?ring, fun h => ?settings, fun h => ?snapshot⟩
  case queue =>
    have htarget := (queueTarget_eq_some_iff target q).2 hq
    exact exec_read (.readQueue target []) s l _ _ h rfl rfl (by simp [refusalOf, htarget, refuseIf]) (by simp [actOf, htarget])
      (queueImage_length _).symm
  case sources =>
    have htarget : queueTarget target ≠ none := fun hnone => by
      have := (queueTarget_eq_none_iff target).1 hnone
      omega
    have hrun : badSourceRun target [n] = false := by
      rw [Bool.eq_false_iff, Ne, badSourceRun_eq_true_iff]
      rintro (h | ⟨m, hm, rfl | hlarge⟩)
      · exact h rfl
      · cases hm; exact absurd hn (by decide)
      · cases hm; omega
    refine exec_read (.readSources target [n]) s l _ _ h rfl rfl ?_ ?_ ?_
    · simp [refusalOf, refuseIf, Option.isNone_eq_false_iff.2 (Option.isSome_iff_ne_none.2 htarget), hrun]
    · rw [actOf, field_singleton, State.sourceImages]
    · rw [sizeOf, field_singleton, ← s.sourceImages_length target.toNat n.toNat hlast, State.sourceImages]
  case badTarget =>
    exact exec_refused (.readSources target data) s l _ .badTarget h rfl rfl
      (by simp [refusalOf, refuseIf, (queueTarget_eq_none_iff target).2 htarget])
  case badValue =>
    have hnamed : queueTarget target = some ⟨target.toNat, htarget⟩ := (queueTarget_eq_some_iff target _).2 rfl
    exact exec_refused (.readSources target data) s l _ .badValue h rfl rfl
      (by simp [refusalOf, refuseIf, hnamed, (badSourceRun_eq_true_iff target data).2 hdata])
  case ring => exact exec_read (.readRing target []) s l _ _ h rfl rfl rfl rfl (ringImage_length _).symm
  case settings => exact exec_read (.readSettings target []) s l _ _ h rfl rfl rfl rfl (settingsImage_length _).symm
  case snapshot => exact exec_read (.snapshot target []) s l _ _ h rfl rfl rfl rfl (snapshotImage_length _).symm

/-! ### The queues that a command names (R39) -/

/-- The queues that a target names: all with ALL, otherwise the one whose number it is. -/
def namesQueues (target : Byte) (qs : List (Fin 16)) : Prop := target = 255 ∧ qs = allQueues ∨ ∃ q, target.toNat = q.val ∧ qs = [q]

theorem queueTargets_of_names (target : Byte) (qs : List (Fin 16)) (h : namesQueues target qs) : queueTargets target = some qs := by
  obtain ⟨rfl, rfl⟩ | ⟨q, hq, rfl⟩ := h
  · rfl
  · have hne : target ≠ 255 := by
      rintro rfl
      exact absurd q.isLt (by rw [← hq]; decide)
    rw [queueTargets, if_neg hne, (queueTarget_eq_some_iff target q).2 hq]
    rfl

theorem queueTargets_eq_none (target : Byte) (h : 16 ≤ target.toNat) (hall : target ≠ 255) : queueTargets target = none := by
  rw [queueTargets, if_neg hall, (queueTarget_eq_none_iff target).2 h]
  rfl

theorem nodup_of_names (target : Byte) (qs : List (Fin 16)) (h : namesQueues target qs) : qs.Nodup := by
  obtain ⟨-, rfl⟩ | ⟨q, -, rfl⟩ := h
  · exact allQueues_nodup
  · exact List.nodup_singleton q

/-- A command that names queues in none of the states it is BUSY in is not refused. -/
theorem State.queueRefusal_none (s : State) (target : Byte) (qs : List (Fin 16)) (states : List QueueState)
    (h : namesQueues target qs) (hfree : target = 255 ∨ ∀ q ∈ qs, states.contains (s.queue q).state = false) :
    s.queueRefusal target [] states = none := by
  have hbusy : s.targetIn target states = false := by
    unfold State.targetIn
    cases htarget : queueTarget target with
    | none => rfl
    | some p =>
      obtain hall | hfree := hfree
      case inl =>
        subst hall
        simp [queueTarget] at htarget
      case inr =>
        obtain ⟨rfl, -⟩ | ⟨q, hq, rfl⟩ := h
        · simp [queueTarget] at htarget
        · rw [(queueTarget_eq_some_iff target q).2 hq, Option.some.injEq] at htarget
          subst htarget
          exact hfree q (List.mem_singleton_self q)
  simp [State.queueRefusal, queueTargets_of_names target qs h, hbusy, refuseIf]

theorem State.queueRefusal_busy (s : State) (target : Byte) (q : Fin 16) (data : List Byte) (states : List QueueState)
    (hq : target.toNat = q.val) (hbusy : states.contains (s.queue q).state = true) :
    s.queueRefusal target data states = some .busy := by
  have hnamed := queueTargets_of_names target [q] (.inr ⟨q, hq, rfl⟩)
  simp only [State.queueRefusal, State.targetIn, hnamed, (queueTarget_eq_some_iff target q).2 hq, hbusy]
  rfl

theorem State.queueRefusal_badTarget (s : State) (target : Byte) (data : List Byte) (states : List QueueState)
    (h : 16 ≤ target.toNat) (hall : target ≠ 255) : s.queueRefusal target data states = some .badTarget := by
  simp only [State.queueRefusal, queueTargets_eq_none target h hall]
  rfl

/-! ### An operation on each queue that a command names -/

/-- States that agree on each queue's record agree on the records. -/
theorem State.eq_of_queues (s t : State) (g : Fin 16 → Queue) (hrest : t = { s with queues := t.queues }) (h : ∀ q, t.queue q = g q) :
    t = { s with queues := Vector.ofFn g } := by
  have hqueues : t.queues = Vector.ofFn g := by rw [← t.ofFn_queue, funext h]
  rw [hrest, hqueues]

/-- Operations that change only queue records change only queue records together. -/
theorem State.forQueues_only (f : State → Fin 16 → State) (hrest : ∀ u q, f u q = { u with queues := (f u q).queues }) (s : State)
    (qs : List (Fin 16)) : s.forQueues qs f = { s with queues := (s.forQueues qs f).queues } := by
  refine qs.foldlRecOn (motive := fun u : State => u = { s with queues := u.queues }) f rfl fun u hu q _ => ?_
  rw [hrest u q]
  generalize (f u q).queues = queues
  rw [hu]

/-- An operation that rewrites the record of its queue alone, by what the record holds. -/
theorem State.forQueues_eq (f : State → Fin 16 → State) (g : Queue → Queue) (hrest : ∀ u q, f u q = { u with queues := (f u q).queues })
    (hself : ∀ u q, (f u q).queue q = g (u.queue q)) (hother : ∀ u q p, q ≠ p → (f u q).queue p = u.queue p) (s : State)
    (qs : List (Fin 16)) (hnodup : qs.Nodup) :
    s.forQueues qs f = { s with queues := Vector.ofFn fun q => if q ∈ qs then g (s.queue q) else s.queue q } := by
  refine s.eq_of_queues _ _ (State.forQueues_only f hrest s qs) fun q => ?_
  split
  case isTrue hmem =>
    obtain ⟨u, -, hsame, hresult⟩ :=
      State.queue_forQueues_of_mem f hother (I := fun _ => True) (fun _ _ _ => trivial) s trivial qs hnodup q hmem
    rw [hresult, hself, hsame]
  case isFalse hmem => exact State.queue_forQueues_of_notMem f hother s qs q hmem

theorem State.modQueue_only (s : State) (q : Fin 16) (g : Queue → Queue) :
    s.modQueue q g = { s with queues := (s.modQueue q g).queues } := rfl

/-- A queue that is not OPEN is offered no head (R77). -/
theorem State.offer_eq_none (s : State) (q : Fin 16) (h : (s.queue q).state ≠ .opened) : s.offer q = none := by
  cases hoffer : s.offer q with
  | none => rfl
  | some v =>
    obtain ⟨d, r, v⟩ := v
    exact absurd ((s.offer_eq_some_iff q d r v).1 hoffer).2.2.1 h

/-! ### Pausing, resuming, clearing flags and opening (R40 to R42, R44, R46) -/

/-- A queue as a pause leaves it (R41). -/
def Queue.pause (x : Queue) : Queue :=
  if x.state = .opened then { x with state := .paused, aging := none, request := false } else x

theorem State.queue_pauseOne_self (s : State) (q : Fin 16) : (s.pauseOne q).queue q = (s.queue q).pause := by
  unfold State.pauseOne Queue.pause
  split
  case isTrue =>
    rw [State.queue_reevaluate_self, State.offer_eq_none _ q (by simp)]
    simp
  case isFalse => rfl

theorem State.queue_pauseOne_other (s : State) (q p : Fin 16) (h : q ≠ p) : (s.pauseOne q).queue p = s.queue p := by
  unfold State.pauseOne
  split
  · rw [State.queue_reevaluate_other _ q p h, State.queue_modQueue_other _ q p _ h]
  · rfl

theorem State.pauseOne_only (s : State) (q : Fin 16) : s.pauseOne q = { s with queues := (s.pauseOne q).queues } := by
  unfold State.pauseOne
  split <;> rfl

/-- A queue as a resume leaves it, but for its request (R42, R46). -/
def Queue.resume (x : Queue) (now : Instant) : Queue :=
  Queue.startAging { (x.modHead fun d => { d with aged := false }) with state := .opened } now

theorem Queue.resume_eq (x : Queue) (now : Instant) :
    x.resume now =
      { x with
        state := .opened, descriptors := x.descriptors.modifyHead fun d => { d with aged := false }
        aging := if x.descriptors = [] then none else some (plus now (x.config.hold * 1000)) } := by
  obtain ⟨state, config, descriptors, refused, forced, dropped, aging, request⟩ := x
  cases descriptors <;> rfl

theorem State.queue_resumeOne_other (s : State) (q p : Fin 16) (h : q ≠ p) : (s.resumeOne q).queue p = s.queue p := by
  unfold State.resumeOne
  split
  · rw [State.queue_reevaluate_other _ q p h, State.queue_modQueue_other _ q p _ h]
  · rfl

theorem State.resumeOne_only (s : State) (q : Fin 16) : s.resumeOne q = { s with queues := (s.resumeOne q).queues } := by
  unfold State.resumeOne
  split <;> rfl

/-- A resumed queue's request is its head's judgement in the state that the resume leaves. -/
theorem State.queue_resumeOne_paused (s : State) (q : Fin 16) (h : (s.queue q).state = .paused) :
    (s.resumeOne q).queue q = { (s.queue q).resume s.clock.now with request := ((s.resumeOne q).offer q).isSome } := by
  have hqueue : (s.resumeOne q).queue q
      = { (s.queue q).resume s.clock.now with request := ((s.modQueue q fun x => x.resume s.clock.now).offer q).isSome } := by
    rw [State.resumeOne, if_pos h, State.queue_reevaluate_self, State.queue_modQueue_self]
    rfl
  have hoffer : (s.resumeOne q).offer q = (s.modQueue q fun x => x.resume s.clock.now).offer q :=
    State.offer_congr q (by rw [hqueue, State.queue_modQueue_self]; rfl) (by rw [hqueue, State.queue_modQueue_self])
      (by rw [hqueue, State.queue_modQueue_self]) (by simp) (by simp) (by simp) (by simp) (by simp)
  rw [hoffer]
  exact hqueue

theorem State.resumeOne_not_paused (s : State) (q : Fin 16) (h : (s.queue q).state ≠ .paused) : s.resumeOne q = s := by
  rw [State.resumeOne, if_neg h]

/-- A queue that a list of resumes names, as they leave it: its request is its head's judgement in the final state. -/
theorem State.queue_resumed (s : State) (qs : List (Fin 16)) (hnodup : qs.Nodup) (q : Fin 16) :
    (s.forQueues qs State.resumeOne).queue q =
      if q ∈ qs ∧ (s.queue q).state = .paused then
        { (s.queue q).resume s.clock.now with request := ((s.forQueues qs State.resumeOne).offer q).isSome }
      else s.queue q := by
  by_cases hmem : q ∈ qs
  case neg =>
    rw [if_neg fun h => hmem h.1]
    exact State.queue_forQueues_of_notMem State.resumeOne State.queue_resumeOne_other s qs q hmem
  case pos =>
    obtain ⟨u, ⟨hgate, hradio, hwindow, hclock, hring⟩, hsame, hresult⟩ :=
      State.queue_forQueues_of_mem State.resumeOne State.queue_resumeOne_other
        (I := fun u => u.gate = s.gate ∧ u.south = s.south ∧ u.window = s.window ∧ u.clock = s.clock ∧ u.ring = s.ring)
        (fun u p h => by simpa using h) s ⟨rfl, rfl, rfl, rfl, rfl⟩ qs hnodup q hmem
    have hkept := State.forQueues_only State.resumeOne State.resumeOne_only s qs
    by_cases hpaused : (s.queue q).state = .paused
    case neg => rw [if_neg fun h => hpaused h.2, hresult, u.resumeOne_not_paused q (by rwa [hsame]), hsame]
    case pos =>
      have hoffer : (s.forQueues qs State.resumeOne).offer q = (u.resumeOne q).offer q :=
        State.offer_congr q (by rw [hresult]) (by rw [hresult]) (by rw [hresult]) (by rw [hkept]; simp [hgate])
          (by rw [hkept]; simp [hradio]) (by rw [hkept]; simp [hwindow]) (by rw [hkept]; simp [hclock]) (by rw [hkept]; simp [hring])
      rw [if_pos ⟨hmem, hpaused⟩, hoffer, hresult, u.queue_resumeOne_paused q (by rwa [hsame]), hsame, hclock]

/-- A CLOSED and empty queue opened (R40). -/
theorem State.openOne_eq (s : State) (q : Fin 16) (c : QueueConfig) (h : (s.queue q).descriptors = []) :
    s.openOne q c = s.setQueue q { s.queue q with state := .opened, config := c, request := false } := by
  have hhead : (s.modQueue q fun x => { x with state := .opened, config := c }).offer q = none := by
    simp [State.offer, Queue.head, h]
  rw [State.openOne, State.reevaluate, hhead]
  simp [State.modQueue, State.setQueue, State.queue]

/-- Queues that are OPEN or PAUSED are in no state that makes a pause or a resume BUSY. -/
theorem notBusy {s : State} {target : Byte} {qs : List (Fin 16)}
    (h : target = 255 ∨ ∀ q ∈ qs, (s.queue q).state = .opened ∨ (s.queue q).state = .paused) :
    target = 255 ∨ ∀ q ∈ qs, [QueueState.closed, .draining].contains (s.queue q).state = false :=
  h.imp_right fun h q hq => by obtain hs | hs := h q hq <;> rw [hs] <;> rfl

/-- Settles O41: the refusals by target, state and data, and each command on the queues that it names. -/
theorem queueCommandsChangeTheirQueues : Obligations.QueueCommandsChangeTheirQueues := by
  refine fun s l target data => ⟨⟨fun htarget => ⟨fun h => ?openTarget, fun h => ?readTarget⟩,
      fun htarget hall => ⟨fun h => ?pauseTarget, fun h => ?resumeTarget, fun h => ?drainTarget, fun h => ?clearTarget⟩⟩,
    fun q hq h => ⟨fun hopen => ?openBusy, fun hclosed hdata => ?openValue, fun c hclosed hempty hdata => ?opened⟩,
    fun q hq hstate => ⟨fun h => ?pauseBusy, fun h => ?resumeBusy⟩,
    fun qs hqs => ⟨fun h => ?cleared, fun hstates => ⟨fun h => ?paused, fun h => ?resumed⟩⟩⟩
  case openTarget =>
    exact exec_refused (.openQueue target data) s l _ .badTarget h rfl rfl
      (by simp [refusalOf, refuseIf, (queueTarget_eq_none_iff target).2 htarget])
  case readTarget =>
    exact exec_refused (.readQueue target data) s l _ .badTarget h rfl rfl
      (by simp [refusalOf, refuseIf, (queueTarget_eq_none_iff target).2 htarget])
  case pauseTarget =>
    exact exec_refused (.pauseQueue target data) s l _ _ h rfl rfl (s.queueRefusal_badTarget target data _ htarget hall)
  case resumeTarget =>
    exact exec_refused (.resumeQueue target data) s l _ _ h rfl rfl (s.queueRefusal_badTarget target data _ htarget hall)
  case drainTarget =>
    exact exec_refused (.drainQueue target data) s l _ _ h rfl rfl (s.queueRefusal_badTarget target data _ htarget hall)
  case clearTarget =>
    exact exec_refused (.clearQueueFlags target data) s l _ _ h rfl rfl (s.queueRefusal_badTarget target data _ htarget hall)
  case openBusy =>
    refine exec_refused (.openQueue target data) s l _ .busy h rfl rfl ?_
    simp only [refusalOf, State.targetIn, (queueTarget_eq_some_iff target q).2 hq]
    cases hstate : (s.queue q).state with
    | closed => exact absurd hstate hopen
    | opened => rfl
    | paused => rfl
    | draining => rfl
  case openValue =>
    refine exec_refused (.openQueue target data) s l _ .badValue h rfl rfl ?_
    simp only [refusalOf, State.targetIn, (queueTarget_eq_some_iff target q).2 hq, hclosed, hdata]
    rfl
  case opened =>
    have href : refusalOf (.openQueue target data) s = none := by
      simp only [refusalOf, State.targetIn, (queueTarget_eq_some_iff target q).2 hq, hclosed, hdata]
      rfl
    have hact : actOf (.openQueue target data) s = (s.openOne q c, []) := by
      simp only [actOf, (queueTarget_eq_some_iff target q).2 hq, hdata]
    rw [exec_done (.openQueue target data) s l _ h rfl rfl href (Nat.zero_le _) (by rw [hact]; simp), hact, s.openOne_eq q c hempty]
  case pauseBusy =>
    exact exec_refused (.pauseQueue target data) s l _ _ h rfl rfl
      (s.queueRefusal_busy target q data _ hq (by obtain hs | hs := hstate <;> rw [hs] <;> rfl))
  case resumeBusy =>
    exact exec_refused (.resumeQueue target data) s l _ _ h rfl rfl
      (s.queueRefusal_busy target q data _ hq (by obtain hs | hs := hstate <;> rw [hs] <;> rfl))
  case cleared =>
    have hacts : actOf (.clearQueueFlags target []) s = (s.forQueues qs State.clearQueueFlags, []) := by
      simp only [actOf, queueTargets_of_names target qs hqs, Option.getD_some]
    have hresult := State.forQueues_eq State.clearQueueFlags
      (fun x => { x with refusedFlag := false, forcedFlag := false, droppedFlag := false }) (fun u q => u.modQueue_only q _)
      (fun u q => u.queue_modQueue_self q _) (fun u q p h => u.queue_modQueue_other q p _ h) s qs (nodup_of_names target qs hqs)
    rw [exec_done (.clearQueueFlags target []) s l _ h rfl rfl (s.queueRefusal_none target qs [] hqs (.inr fun _ _ => rfl))
      (Nat.zero_le _) (by rw [hacts, hresult]), hacts, hresult]
  case paused =>
    have hacts : actOf (.pauseQueue target []) s = (s.forQueues qs State.pauseOne, []) := by
      simp only [actOf, queueTargets_of_names target qs hqs, Option.getD_some]
    have hresult := State.forQueues_eq State.pauseOne Queue.pause State.pauseOne_only State.queue_pauseOne_self
      State.queue_pauseOne_other s qs (nodup_of_names target qs hqs)
    have hpause : (fun q => if q ∈ qs then (s.queue q).pause else s.queue q) = fun q =>
        if q ∈ qs ∧ (s.queue q).state = .opened then { s.queue q with state := .paused, aging := none, request := false }
        else s.queue q := by
      funext q
      by_cases hmem : q ∈ qs <;> simp [hmem, Queue.pause]
    rw [exec_done (.pauseQueue target []) s l _ h rfl rfl (s.queueRefusal_none target qs _ hqs (notBusy hstates))
      (Nat.zero_le _) (by rw [hacts, hresult]), hacts, hresult, hpause]
  case resumed =>
    have hacts : actOf (.resumeQueue target []) s = (s.forQueues qs State.resumeOne, []) := by
      simp only [actOf, queueTargets_of_names target qs hqs, Option.getD_some]
    have honly := State.forQueues_only State.resumeOne State.resumeOne_only s qs
    refine ⟨s.forQueues qs State.resumeOne, ?_, honly, fun q => ?_⟩
    · rw [exec_done (.resumeQueue target []) s l _ h rfl rfl (s.queueRefusal_none target qs _ hqs (notBusy hstates))
        (Nat.zero_le _) (by rw [hacts, honly]), hacts]
    · rw [s.queue_resumed qs (nodup_of_names target qs hqs) q, Queue.resume_eq]

end Sys2Proof.Machine

/-! PROOFS. Draining a queue (R43). -/

namespace Sys2Proof.Machine

/-! ### Descriptors completed one after another (R31) -/

/-- The completion of several descriptors of a queue, in order. -/
def State.finishAll (s : State) (q : Fin 16) (ds : List Descriptor) : State := ds.foldl (fun s d => s.finish q d) s

theorem State.finishAll_eq (s : State) (q : Fin 16) (ds : List Descriptor) :
    s.finishAll q ds =
      { s with
        fifo :=
          { reserved := s.fifo.reserved - ds.length
            filled := s.fifo.filled ++ ds.map fun d => doneRecord (s.queue q) d s.clock.now }
        store := ds.foldl FrameStore.free s.store } := by
  induction ds generalizing s with
  | nil => simp [State.finishAll]
  | cons d ds ih =>
    have hstep : s.finishAll q (d :: ds) = (s.finish q d).finishAll q ds := rfl
    rw [hstep, ih (s.finish q d)]
    simp only [State.finish, State.queue, DoneFifo.fill, State.now, List.length_cons, List.map_cons, List.foldl_cons,
      List.append_assoc, List.singleton_append, Nat.sub_sub, Nat.add_comm 1]

/-- Completions return numbers and leave the cells' bytes. -/
theorem FrameStore.freeAll_keeps (f : FrameStore) (ds : List Descriptor) :
    (ds.foldl FrameStore.free f).freeDescriptors = f.freeDescriptors ++ ds.map Descriptor.number
      ∧ (ds.foldl FrameStore.free f).memory = f.memory := by
  induction ds generalizing f with
  | nil => simp
  | cons d ds ih =>
    obtain ⟨hnumbers, hmemory⟩ := ih (f.free d)
    exact ⟨by rw [List.foldl_cons, hnumbers]; simp [FrameStore.free], hmemory⟩

/-- A completion leaves a chain that shares none of its cells. -/
theorem FrameStore.chain_free (f : FrameStore) (d d' : Descriptor) (h : ∀ a ∈ f.chain d', a ∉ f.chain d) :
    (f.free d).chain d' = f.chain d' :=
  chainFrom_congr _ _ _ _ fun a ha => nextOf_filter _ _ a (h a ha)

/-- Completions return the cells of their chains, in list order, where no two chains share one. -/
theorem FrameStore.freeAll_cells (f : FrameStore) (ds : List Descriptor) (h : (ds.flatMap f.chain).Nodup) :
    (ds.foldl FrameStore.free f).freeCells = f.freeCells ++ ds.flatMap f.chain := by
  induction ds generalizing f with
  | nil => simp
  | cons d ds ih =>
    rw [List.flatMap_cons] at h
    have hothers : ds.flatMap (f.free d).chain = ds.flatMap f.chain := List.flatMap_congr fun d' hd' =>
      f.chain_free d d' fun a ha hd => List.disjoint_of_nodup_append h hd (List.mem_flatMap.2 ⟨d', hd', ha⟩)
    rw [List.foldl_cons, ih _ (hothers ▸ (List.nodup_append.1 h).2.1), hothers, List.flatMap_cons, ← List.append_assoc]
    rfl

theorem State.queue_sublist_allDescriptors (s : State) (q : Fin 16) : (s.queue q).descriptors.Sublist s.allDescriptors := by
  obtain ⟨before, after, hsplit⟩ := List.append_of_mem (mem_allQueues q)
  rw [State.allDescriptors, hsplit, List.flatMap_append, List.flatMap_cons]
  exact (List.sublist_append_left _ _).trans (List.sublist_append_right _ _)

/-! ### The drain -/

/-- A queue as a drain leaves it (R43). -/
def Queue.afterDrain (x : Queue) : Queue :=
  { x with
    state := if (x.descriptors.filter fun d => d.outstanding.isSome) = [] then .closed else .draining
    descriptors := x.descriptors.filter fun d => d.outstanding.isSome, aging := none, request := false }

/-- A drained queue is offered no head, so that its request is false whatever else the part does. -/
theorem State.queue_drain_self (s : State) (q : Fin 16) : (s.drain q).queue q = (s.queue q).afterDrain := by
  obtain ⟨u, hself, -, -, hdrain⟩ := s.drain_eq q
  have hleft : (s.queue q).drained.descriptors = (s.queue q).descriptors.filter fun d => d.outstanding.isSome := rfl
  rw [hdrain, State.queue_reevaluate_self, hleft]
  split
  case isTrue hempty =>
    have hclosed : (u.closeDrained q).queue q = { (s.queue q).drained with state := .closed, aging := none } := by
      rw [State.closeDrained, State.queue_setFlag, State.queue_modQueue_self, hself]
    rw [State.offer_eq_none _ q (by rw [hclosed]; simp), hclosed, Queue.afterDrain, if_pos (List.isEmpty_iff.1 hempty)]
    rfl
  case isFalse hempty =>
    rw [State.offer_eq_none _ q (by rw [hself]; simp [Queue.drained]), hself, Queue.afterDrain, if_neg (mt List.isEmpty_iff.2 hempty)]
    rfl

theorem State.queue_drain_other (s : State) (q p : Fin 16) (h : q ≠ p) : (s.drain q).queue p = s.queue p := by
  obtain ⟨u, -, hother, -, hdrain⟩ := s.drain_eq q
  rw [hdrain, State.queue_reevaluate_other _ q p h]
  split
  · rw [State.closeDrained, State.queue_setFlag, State.queue_modQueue_other _ q p _ h, hother p h]
  · exact hother p h

/-- What a drain completes: every descriptor of the queue that is not outstanding, as one of a DRAINING queue. -/
theorem State.drain_completes (s : State) (q : Fin 16) :
    (s.drain q).fifo =
        { reserved := s.fifo.reserved - ((s.queue q).descriptors.filter fun d => d.outstanding.isNone).length
          filled := s.fifo.filled ++ ((s.queue q).descriptors.filter fun d => d.outstanding.isNone).map fun d =>
            doneRecord { s.queue q with state := .draining } d s.clock.now }
      ∧ (s.drain q).store = ((s.queue q).descriptors.filter fun d => d.outstanding.isNone).foldl FrameStore.free s.store := by
  unfold State.drain
  extract_lets s₁ s₂ s₃ s₄
  have hs₂ : s₂ = s₁.finishAll q ((s.queue q).descriptors.filter fun d => d.outstanding.isNone) := rfl
  have hqueue : s₁.queue q = { s.queue q with state := .draining, aging := none } := s.queue_modQueue_self q _
  have hs₄ : s₄.fifo = s₂.fifo ∧ s₄.store = s₂.store := by
    simp only [s₄]
    split
    · simp [State.closeDrained, s₃]
    · simp [s₃]
  rw [State.finishAll_eq, hqueue] at hs₂
  constructor
  · simp only [State.reevaluate_keeps, hs₄.1, hs₂]
    rfl
  · simp only [State.reevaluate_keeps, hs₄.2, hs₂]
    rfl

theorem State.flag_drain (s : State) (q : Fin 16) (h : ((s.queue q).descriptors.filter fun d => d.outstanding.isSome) = []) :
    (s.drain q).flag .drainDone = true := by
  obtain ⟨u, -, -, -, hdrain⟩ := s.drain_eq q
  have hempty : (s.queue q).drained.descriptors.isEmpty = true := List.isEmpty_iff.2 h
  rw [hdrain, if_pos hempty]
  simp

theorem State.queue_drainOne_self (s : State) (q : Fin 16) :
    (s.drainOne q).queue q =
      if (s.queue q).state = .opened ∨ (s.queue q).state = .paused then (s.queue q).afterDrain else s.queue q := by
  unfold State.drainOne
  split
  · exact s.queue_drain_self q
  · rfl

theorem State.queue_drainOne_other (s : State) (q p : Fin 16) (h : q ≠ p) : (s.drainOne q).queue p = s.queue p := by
  unfold State.drainOne
  split
  · exact s.queue_drain_other q p h
  · rfl

/-- A DRAIN_QUEUE that is not refused drains the queues that it names. -/
theorem exec_drainQueue (s : State) (l : ControlList) (target : Byte) (qs : List (Fin 16)) (h : s.executes l { code := 19, target, data := [] })
    (hqs : namesQueues target qs) (hfree : target = 255 ∨ ∀ q ∈ qs, (s.queue q).state ≠ .closed) :
    exec (.drainQueue target []) s = .next ((s.forQueues qs State.drainOne).answered l { code := 19, target, data := [] } .ok []) := by
  have hbusy : target = 255 ∨ ∀ q ∈ qs, [QueueState.closed].contains (s.queue q).state = false :=
    hfree.imp_right fun hopen q hq => by simpa using hopen q hq
  have hact : actOf (.drainQueue target []) s = (s.forQueues qs State.drainOne, []) := by
    simp only [actOf, queueTargets_of_names target qs hqs, Option.getD_some]
  have hengine : (s.forQueues qs State.drainOne).engine = s.engine := s.forQueues_engine qs _ (by simp)
  rw [exec_done (.drainQueue target []) s l _ h rfl rfl (s.queueRefusal_none target qs _ hqs hbusy) (Nat.zero_le _)
    (by rw [hact, hengine]), hact]

/-- Settles O42: one queue in full, from what its drain completes and leaves, and each of the sixteen by its own record. -/
theorem drainCompletesWaitingDescriptors : Obligations.DrainCompletesWaitingDescriptors := by
  refine fun s l target h => ⟨fun q hq hclosed => ?closed, fun q hq hdraining => ?draining, fun q hq hopen => ?one, fun hall => ?all⟩
  case closed =>
    exact exec_refused (.drainQueue target []) s l _ _ h rfl rfl (s.queueRefusal_busy target q [] _ hq (by rw [hclosed]; rfl))
  case draining =>
    have hfree : target = 255 ∨ ∀ p ∈ [q], (s.queue p).state ≠ .closed := .inr (by simp [hdraining])
    have hkept : s.forQueues [q] State.drainOne = s := by
      show s.drainOne q = s
      simp [State.drainOne, hdraining]
    rw [exec_drainQueue s l target [q] h (.inr ⟨q, hq, rfl⟩) hfree, hkept]
  case one =>
    extract_lets left done records
    have hfree : target = 255 ∨ ∀ p ∈ [q], (s.queue p).state ≠ .closed := .inr (by obtain ho | hp := hopen <;> simp [*])
    have hdrained : s.forQueues [q] State.drainOne = s.drain q := by
      show s.drainOne q = s.drain q
      rw [State.drainOne, if_pos hopen]
    have ⟨hfifo, hstore⟩ := s.drain_completes q
    have ⟨hnumbers, hmemory⟩ := s.store.freeAll_keeps done
    refine ⟨s.drain q, ?_, hfifo, fun r hr => ?_, ?_, fun hlawful => ?_, s.queue_drain_self q, s.flag_drain q,
      fun p hp => s.queue_drain_other q p hp.symm, by simp, by simp, ?_, by simp, by simp⟩
    · rw [exec_drainQueue s l target [q] h (.inr ⟨q, hq, rfl⟩) hfree, hdrained]
    · obtain ⟨d, -, rfl⟩ := List.mem_map.1 hr
      rfl
    · rw [hstore, hnumbers]
    · have hchains : (s.allDescriptors.flatMap s.store.chain).Nodup := (List.nodup_append.1 hlawful.1).2.1
      have hdone : done.Sublist s.allDescriptors := List.filter_sublist.trans (s.queue_sublist_allDescriptors q)
      rw [hstore, s.store.freeAll_cells done (hchains.sublist (hdone.flatMap _))]
    · rw [hstore, hmemory]
  case all =>
    subst hall
    refine ⟨s.forQueues allQueues State.drainOne, exec_drainQueue s l 255 allQueues h (.inl ⟨rfl, rfl⟩) (.inl rfl), fun q => ?_⟩
    obtain ⟨u, -, hsame, hresult⟩ :=
      State.queue_forQueues_of_mem State.drainOne State.queue_drainOne_other (I := fun _ => True) (fun _ _ _ => trivial) s trivial
        allQueues allQueues_nodup q (mem_allQueues q)
    rw [hresult, u.queue_drainOne_self, hsame]
    refine ⟨fun hopen => ?_, fun hshut => ?_⟩
    · rw [if_pos hopen]
      refine ⟨rfl, ?_⟩
      unfold Queue.afterDrain
      split
      · exact .inl rfl
      · exact .inr rfl
    · exact if_neg (by obtain hs | hs := hshut <;> simp [hs])

end Sys2Proof.Machine

/-! PROOFS. The admission of a DATA frame: the storage it takes, and its bodies read back (R20, R22, R28, R46). -/

namespace Sys2Proof.Machine

/-! ### Admission (R28) -/

theorem cellsNeeded_eq (lengths : List Nat) : cellsNeeded lengths = (lengths.sum + 127) / 128 := by
  simp only [cellsNeeded, ceilDiv, Config.cellBytes]
  omega

/-- The free cells suffice for a frame that is admitted. -/
theorem State.admitsFrame_room (s : State) (f : LinkFrame) (q : Fin 16) (b : Bundle) (h : s.admitsFrame f q b) :
    cellsNeeded b.lengths ≤ s.store.freeCells.length := by
  obtain ⟨-, -, -, -, -, -, hroom⟩ := h
  exact Nat.le_of_not_lt fun hlt => absurd ((lt_cellsNeeded_iff _ _).1 hlt) (Nat.not_lt.2 hroom)

/-- A frame that passes the five checks is taken into the store. -/
theorem State.takeData_admitted (s : State) (f : LinkFrame) (q : Fin 16) (b : Bundle) (h : s.admitsFrame f q b) :
    s.takeData f = s.takeIn f.header q b := by
  classical
  obtain ⟨hread, hlane, hopen, hdepth, hrate, hnumber, hroom⟩ := h
  have hcheck : s.admissionCheck f.header.lane b = none := by
    rw [s.admissionCheck_queue _ b q hlane, if_neg (not_not.2 hopen), if_neg (Nat.not_le.2 hdepth),
      if_neg (Option.isSome_iff_ne_none.1 hrate), if_neg (not_or.2 ⟨hnumber, Nat.not_lt.2 hroom⟩)]
  simp only [State.takeData, hread, hcheck, (queueTarget_eq_some_iff f.header.lane q).2 hlane]

/-- A frame that arrives whole and passes the five checks is taken into the store, with the input ready for the next lane header. -/
theorem exec_dataFrame_admitted (s : State) (f : LinkFrame) (q : Fin 16) (b : Bundle) (harrives : s.northArriving f)
    (hkind : f.header.kind = 1) (h : s.admitsFrame f q b) :
    exec (.dataFrame f) s = .next ((s.withInput .awaitHeader).takeIn f.header q b) := by
  rw [exec_dataFrame_of_northArriving s f harrives hkind, State.takeData_admitted (s.withInput .awaitHeader) f q b h]

/-- Settles O11: the checks admit, and the descriptor joins its queue with the cells at the head of the free list. -/
theorem admittedDataFrameJoinsItsQueue : Obligations.AdmittedDataFrameJoinsItsQueue := by
  intro s f q b harrives hkind hadmits cells x d x' u
  have hlength : (s.store.freeCells.take (cellsNeeded b.lengths)).length = cellsNeeded b.lengths :=
    List.length_take_of_le (s.admitsFrame_room f q b hadmits)
  have hd : newDescriptor (s.store.freeDescriptors.headD 0) f.header.sequence q b
      (s.store.freeCells.take (cellsNeeded b.lengths)) s.clock.now = d := by
    rw [newDescriptor, hlength]
    rfl
  refine ⟨?joined, ?freed, rfl, fun hnodup => ?taken⟩
  case joined =>
    have hx' : (if x.descriptors.isEmpty then Queue.startAging { x with descriptors := x.descriptors ++ [d] } s.clock.now
        else { x with descriptors := x.descriptors ++ [d] }) = x' := by
      cases hempty : x.descriptors with
      | nil => simp [x', hempty, Queue.startAging]
      | cons d' rest => simp [x', hempty]
    have hu : State.modQueue { s.withInput .awaitHeader with store := s.store.takeIn b } q (fun x =>
        if x.descriptors.isEmpty then Queue.startAging { x with descriptors := x.descriptors ++ [d] } s.clock.now
        else { x with descriptors := x.descriptors ++ [d] }) = u :=
      congrArg (State.setQueue { s.withInput .awaitHeader with store := s.store.takeIn b } q) hx'
    have htaken : (s.withInput .awaitHeader).takeIn f.header q b = if x.descriptors.isEmpty then u.reevaluate q else u := by
      rw [← hu, ← hd]
      rfl
    rw [exec_dataFrame_admitted s f q b harrives hkind hadmits, htaken]
    simp only [List.isEmpty_iff]
  case freed =>
    rw [← cellsNeeded_eq]
    rfl
  case taken =>
    have htaken := chainFrom_taken (s.store.freeCells.take (cellsNeeded b.lengths)) s.store.nextCell
      (hnodup.sublist (List.take_sublist _ _))
    rwa [hlength] at htaken

/-! ### Bodies in cells (R20) -/

/-- The address of a byte of a chain of cells. -/
def byteAddress (chain : List (BitVec 12)) (j : Nat) : Nat := 128 * (chain.getD (j / 128) 0).toNat + j % 128

/-- Bytes of one cell and of another have different addresses. -/
theorem cell_of_address (c c' : BitVec 12) (i i' : Nat) (hi : i < 128) (hi' : i' < 128)
    (h : 128 * c.toNat + i = 128 * c'.toNat + i') : c = c' :=
  BitVec.eq_of_toNat_eq (by omega)

theorem byteAddress_cons_lt (c : BitVec 12) (chain : List (BitVec 12)) (j : Nat) (h : j < 128) :
    byteAddress (c :: chain) j = 128 * c.toNat + j := by
  rw [byteAddress, Nat.div_eq_of_lt h, Nat.mod_eq_of_lt h]
  rfl

theorem byteAddress_cons_add (c : BitVec 12) (chain : List (BitVec 12)) (j : Nat) :
    byteAddress (c :: chain) (j + 128) = byteAddress chain j := by
  rw [byteAddress, byteAddress, Nat.add_div_right j (by decide), Nat.add_mod_right]
  rfl

theorem cell_notMem_address (c : BitVec 12) (chain : List (BitVec 12)) (i j : Nat) (h : c ∉ chain) (hi : i < 128)
    (hj : j / 128 < chain.length) : 128 * c.toNat + i ≠ byteAddress chain j := by
  intro heq
  have hcell := cell_of_address c _ i (j % 128) hi (Nat.mod_lt j (by decide)) heq
  rw [List.getD_eq_getElem _ _ hj] at hcell
  exact h (hcell ▸ List.getElem_mem hj)

/-- Bodies placed in a chain leave every byte that is none of theirs. -/
theorem read_storeBodies_other (m : Memory) (chain : List (BitVec 12)) (bytes : List Byte) (hm : m.wf = true)
    (hroom : bytes.length ≤ 128 * chain.length) (a : Nat) (h : ∀ j, j < bytes.length → a ≠ byteAddress chain j) :
    (storeBodies m chain bytes).read a = m.read a := by
  induction chain generalizing m bytes with
  | nil => rfl
  | cons c chain ih =>
    have hcell : ¬ (cellAddress c ≤ a ∧ a < cellAddress c + (bytes.take Config.cellBytes).length) := by
      rintro ⟨hlow, hhigh⟩
      rw [List.length_take, cellAddress, Config.cellBytes] at hhigh
      rw [cellAddress, Config.cellBytes] at hlow
      refine h (a - c.toNat * 128) (by omega) ?_
      rw [byteAddress_cons_lt c chain _ (by omega)]
      omega
    rw [storeBodies, ih _ _ (Memory.writeRun_wf m _ _ hm) (by simp [Config.cellBytes] at hroom ⊢; omega), Memory.read_writeRun m _ _ _ hm,
      if_neg hcell]
    intro j hj
    rw [← byteAddress_cons_add c chain j]
    exact h (j + 128) (by simp [Config.cellBytes] at hj; omega)

/-- Each byte of the bodies stands at its address in the chain. -/
theorem read_storeBodies (m : Memory) (chain : List (BitVec 12)) (bytes : List Byte) (hm : m.wf = true) (hchain : chain.Nodup)
    (hroom : bytes.length ≤ 128 * chain.length) (j : Nat) (h : j < bytes.length) :
    (storeBodies m chain bytes).read (byteAddress chain j) = bytes.getD j 0 := by
  induction chain generalizing m bytes j with
  | nil => exact absurd h (by simp at hroom; simp [hroom])
  | cons c chain ih =>
    obtain ⟨hc, hrest⟩ := List.nodup_cons.1 hchain
    have hdrop : (bytes.drop Config.cellBytes).length ≤ 128 * chain.length := by simp [Config.cellBytes] at hroom ⊢; omega
    have hm' := Memory.writeRun_wf m (cellAddress c) (bytes.take Config.cellBytes) hm
    rw [storeBodies]
    by_cases hj : j < 128
    case pos =>
      have hin : cellAddress c ≤ 128 * c.toNat + j ∧ 128 * c.toNat + j < cellAddress c + (bytes.take Config.cellBytes).length := by
        rw [List.length_take, cellAddress, Config.cellBytes]
        omega
      have hoffset : 128 * c.toNat + j - cellAddress c = j := by rw [cellAddress, Config.cellBytes]; omega
      rw [byteAddress_cons_lt c chain j hj, read_storeBodies_other _ chain _ hm' hdrop _ fun i hi =>
        cell_notMem_address c chain j i hc hj (by omega), Memory.read_writeRun m _ _ _ hm, if_pos hin, hoffset]
      simp [List.getD_eq_getElem?_getD, Config.cellBytes, hj]
    case neg =>
      obtain ⟨i, rfl⟩ : ∃ i, j = i + 128 := ⟨j - 128, by omega⟩
      have hi : i < (bytes.drop Config.cellBytes).length := by simp [Config.cellBytes]; omega
      rw [byteAddress_cons_add, ih _ _ hm' hrest hdrop i hi]
      simp [List.getD_eq_getElem?_getD, Config.cellBytes, Nat.add_comm 128]

/-- The bytes of a chain's cells, one by one. -/
theorem getElem_flatMap_readCell (m : Memory) (chain : List (BitVec 12)) (j : Nat) (h : j < 128 * chain.length) :
    (chain.flatMap (readCell m))[j]? = some (m.read (byteAddress chain j)) := by
  induction chain generalizing j with
  | nil => exact absurd h (by simp)
  | cons c chain ih =>
    have hcell : (readCell m c).length = 128 := by simp [readCell, Config.cellBytes]
    rw [List.flatMap_cons]
    by_cases hj : j < 128
    case pos =>
      rw [List.getElem?_append_left (by omega), byteAddress_cons_lt c chain j hj, readCell, List.getElem?_map,
        List.getElem?_range' hj]
      simp [cellAddress, Config.cellBytes, Nat.mul_comm]
    case neg =>
      obtain ⟨i, rfl⟩ : ∃ i, j = i + 128 := ⟨j - 128, by omega⟩
      rw [List.getElem?_append_right (by omega), hcell, Nat.add_sub_cancel, byteAddress_cons_add,
        ih i (by rw [List.length_cons] at h; omega)]

/-- The cells of a chain in which bodies were placed begin with the bodies. -/
theorem take_flatMap_storeBodies (m : Memory) (chain : List (BitVec 12)) (bytes : List Byte) (hm : m.wf = true)
    (hchain : chain.Nodup) (hroom : bytes.length ≤ 128 * chain.length) :
    (chain.flatMap (readCell (storeBodies m chain bytes))).take bytes.length = bytes := by
  refine List.ext_getElem? fun j => ?_
  by_cases hj : j < bytes.length
  case pos =>
    rw [List.getElem?_take_of_lt hj, getElem_flatMap_readCell _ chain j (by omega), read_storeBodies m chain bytes hm hchain hroom j hj,
      List.getD_eq_getElem _ _ hj, List.getElem?_eq_getElem hj]
  case neg =>
    rw [List.getElem?_eq_none (by rw [List.length_take]; omega), List.getElem?_eq_none (by omega)]

/-! ### The subframe list of a new descriptor (R20, R22) -/

/-- The entries of consecutive ordinals from one on. -/
def subframesFrom (lengths : List Nat) (k : Nat) : List Subframe :=
  (lengths.zipIdx k).map fun p => { ordinal := p.2, length := p.1, attempts := 0, state := .pending }

theorem newSubframes_eq (lengths : List Nat) : newSubframes lengths = subframesFrom lengths 0 := rfl

theorem subframesFrom_below (lengths : List Nat) (k o : Nat) :
    (((subframesFrom lengths k).filter fun e => decide (e.ordinal < k + o)).map Subframe.length) = lengths.take o := by
  induction lengths generalizing k o with
  | nil => simp [subframesFrom]
  | cons n lengths ih =>
    cases o with
    | zero =>
      have hnone : ((subframesFrom (n :: lengths) k).filter fun e => decide (e.ordinal < k + 0)) = [] := by
        rw [List.filter_eq_nil_iff]
        intro e he
        obtain ⟨p, hp, rfl⟩ := List.mem_map.1 he
        have := List.le_snd_of_mem_zipIdx hp
        simp
        omega
      rw [hnone]
      rfl
    | succ o =>
      have htail : k + (o + 1) = k + 1 + o := by omega
      have hcons : subframesFrom (n :: lengths) k
          = { ordinal := k, length := n, attempts := 0, state := .pending } :: subframesFrom lengths (k + 1) := rfl
      rw [hcons, List.filter_cons_of_pos (by simp), List.map_cons, htail, ih, List.take_succ_cons]

theorem subframesFrom_find (lengths : List Nat) (k o : Nat) (h : o < lengths.length) :
    ((subframesFrom lengths k).find? fun e => e.ordinal == k + o).map Subframe.length = some (lengths.getD o 0) := by
  induction lengths generalizing k o with
  | nil => exact absurd h (by simp)
  | cons n lengths ih =>
    have hcons : subframesFrom (n :: lengths) k
        = { ordinal := k, length := n, attempts := 0, state := .pending } :: subframesFrom lengths (k + 1) := rfl
    cases o with
    | zero => simp [hcons]
    | succ o =>
      have htail : k + (o + 1) = k + 1 + o := by omega
      rw [hcons, List.find?_cons_of_neg (by simp), htail, ih (k + 1) o (by simpa using h)]
      simp

/-- Bodies laid end to end: an ordinal's offset is the lengths before it, its size its own length (R20). -/
theorem offset_and_length (d : Descriptor) (lengths : List Nat) (o : Nat) (h : d.subframes = newSubframes lengths) (ho : o < lengths.length) :
    d.offsetOf o = (lengths.take o).sum ∧ d.lengthOf o = lengths.getD o 0 := by
  have hbelow := subframesFrom_below lengths 0 o
  have hfind := subframesFrom_find lengths 0 o ho
  rw [Nat.zero_add] at hbelow hfind
  rw [Descriptor.offsetOf, Descriptor.lengthOf, h, newSubframes_eq, hbelow, hfind]
  exact ⟨rfl, rfl⟩

/-- The bodies of a well-formed payload are as long as its header says (R24). -/
theorem readBundle_bodies (payload : List Byte) (b : Bundle) (h : readBundle payload = some b) : b.bodies.length = b.lengths.sum := by
  unfold readBundle at h
  dsimp only at h
  split_ifs at h with hrate hshape
  cases h
  obtain ⟨-, -, -, -, -, -, hlength⟩ := hshape
  show (payload.drop (2 + 2 * (byteAt payload 1).toNat)).length = (bundleLengths payload (byteAt payload 1).toNat).sum
  rw [List.length_drop]
  omega

theorem State.queue_takeIn (s : State) (h : LaneHeader) (q : Fin 16) (b : Bundle) :
    ((s.takeIn h q b).queue q).descriptors = (s.queue q).descriptors ++
      [newDescriptor (s.store.freeDescriptors.headD 0) h.sequence q b (s.store.freeCells.take (cellsNeeded b.lengths)) s.now] := by
  unfold State.takeIn
  extract_lets chain d s₁ s₂
  have hqueue : (s₂.queue q).descriptors = (s.queue q).descriptors ++ [d] := by
    rw [s₁.queue_modQueue_self]
    dsimp only
    split <;> rfl
  split
  · rw [State.queue_reevaluate_self]
    exact hqueue
  · exact hqueue

/-- Settles O12: what the placing of the bodies leaves to be read, byte by byte and body by body. -/
theorem admittedBodiesReadBack : Obligations.AdmittedBodiesReadBack := by
  intro s f q b harrives hkind hadmits hmemory hfree
  have hread : readBundle f.payload = some b := hadmits.1
  have hsize := readBundle_bodies f.payload b hread
  have hneeded := s.admitsFrame_room f q b hadmits
  generalize hchain : s.store.freeCells.take (cellsNeeded b.lengths) = chain
  have hnodup : chain.Nodup := hchain ▸ hfree.sublist (List.take_sublist _ _)
  have hlength : chain.length = cellsNeeded b.lengths := by rw [← hchain, List.length_take_of_le hneeded]
  have hroom : b.bodies.length ≤ 128 * chain.length := by
    rw [hsize, hlength, cellsNeeded_eq]
    omega
  have haddress (j : Nat) (hj : j < b.lengths.sum) :
      128 * (s.store.freeCells.getD (j / 128) 0).toNat + j % 128 = byteAddress chain j := by
    have hcell : j / 128 < cellsNeeded b.lengths := by rw [cellsNeeded_eq]; omega
    simp [byteAddress, ← hchain, List.getD_eq_getElem?_getD, hcell]
  have hstored : (s.store.takeIn b).memory = storeBodies s.store.memory chain b.bodies := by rw [← hchain]; rfl
  refine ⟨_, newDescriptor (s.store.freeDescriptors.headD 0) f.header.sequence q b chain s.now,
    exec_dataFrame_admitted s f q b harrives hkind hadmits, ?joined, fun j hj => ?body, fun a ha => ?other, fun o ho => ?back⟩
  case joined =>
    rw [State.queue_takeIn, ← hchain]
    rfl
  case body =>
    rw [State.takeIn_store, haddress j hj]
    show (s.store.takeIn b).memory.read _ = _
    rw [hstored]
    exact read_storeBodies _ chain _ hmemory hnodup hroom j (by omega)
  case other =>
    rw [State.takeIn_store]
    show (s.store.takeIn b).memory.read _ = _
    rw [hstored]
    exact read_storeBodies_other _ chain _ hmemory hroom a fun j hj => by
      rw [← haddress j (by omega)]
      exact ha j (by omega)
  case back =>
    rw [State.takeIn_store]
    show (s.store.takeIn b).body _ o = _
    obtain ⟨hoffset, hbody⟩ := offset_and_length
      (newDescriptor (s.store.freeDescriptors.headD 0) f.header.sequence q b chain s.now) b.lengths o rfl ho
    have hcells : (s.store.takeIn b).chain (newDescriptor (s.store.freeDescriptors.headD 0) f.header.sequence q b chain s.now)
        = chain := by
      have htaken := chainFrom_taken chain s.store.nextCell hnodup
      subst hchain
      exact htaken
    have hend : (b.lengths.take o).sum + b.lengths.getD o 0 ≤ b.bodies.length := by
      have hsum : (b.lengths.take (o + 1)).sum + (b.lengths.drop (o + 1)).sum = b.lengths.sum := List.sum_take_add_sum_drop _ _
      rw [List.take_succ_eq_append_getElem ho, List.sum_append, List.sum_singleton] at hsum
      rw [List.getD_eq_getElem _ _ ho]
      omega
    have hwhole := take_flatMap_storeBodies s.store.memory chain b.bodies hmemory hnodup hroom
    rw [FrameStore.body, hoffset, hbody, hcells, hstored]
    conv_rhs => rw [← hwhole]
    rw [List.drop_take, List.take_take, Nat.min_eq_left (by omega)]

end Sys2Proof.Machine

/-! PROOFS. Radio records (R15, R48, R56, R62, R110), and what energy reports count (R99, R111). -/

namespace Sys2Proof.Machine

/-! ### Busy-set additions of an event at the tracker (R128) -/

/-- An entry stored in the busy states it held before, or in none of them, is no addition. -/
theorem Track.store_additions (t : Track) (i : Fin 16) (was : Option SourceState) (e : Source) (changed : Bool)
    (h : e.state.busy = true → (was.map SourceState.busy).getD false = true) : (t.store i was e changed).additions = t.additions := by
  have hnone : (e.applicable t.state.south.radio && !(was.map SourceState.busy).getD false) = false := by
    cases hbusy : e.state.busy with
    | false => simp [Source.applicable, hbusy]
    | true => simp [h hbusy]
  simp only [Track.store, hnone]
  rfl

@[simp] theorem Track.raise_additions (t : Track) (f : EventFlag) : (t.raise f).additions = t.additions := rfl

@[simp] theorem Track.modDetector_additions (t : Track) (f : Detector → Detector) : (t.modDetector f).additions = t.additions := rfl

@[simp] theorem Track.advance_additions (t : Track) (i : Fin 16) (e : Source) : (t.advance i e).additions = t.additions := rfl

/-- Only an entry that is LOCKED or COASTING can coast after a miss (R120). -/
theorem busy_of_stateAfterMiss (st st' : SourceState) (run limit : Nat) (h : stateAfterMiss st run limit = some st') :
    st.busy = true := by
  cases st with
  | acquiring => simp [stateAfterMiss] at h
  | locked => rfl
  | coasting => rfl

@[simp] theorem Track.miss_additions (t : Track) (i : Fin 16) (e : Source) : (t.miss i e).additions = t.additions := by
  unfold Track.miss
  dsimp only
  cases hafter : stateAfterMiss e.state (e.missRun + 1) t.state.settings.missLimit with
  | none => dsimp only; split <;> rfl
  | some st =>
    rw [Track.advance_additions]
    exact Track.store_additions _ _ _ _ _ fun _ => busy_of_stateAfterMiss _ _ _ _ hafter

/-- A judgement hands on no addition: it makes no entry busy (R119, R120). -/
@[simp] theorem Track.judgeOnce_additions (t : Track) (i : Fin 16) : (t.judgeOnce i).additions = t.additions := by
  unfold Track.judgeOnce
  dsimp only
  (repeat' split) <;> simp

@[simp] theorem Track.judgePassed_additions (t : Track) (i : Fin 16) : (t.judgePassed i).additions = t.additions := by
  unfold Track.judgePassed
  split <;> simp

@[simp] theorem Track.check_additions (t : Track) (i : Fin 16) : (t.check i).additions = t.additions := by
  simp [Track.check]

@[simp] theorem Track.checkDeferred_additions (t : Track) : t.checkDeferred.additions = t.additions := by
  refine allSlots.foldlRecOn (motive := fun u : Track => u.additions = t.additions) _ rfl fun u hu i _ => ?_
  split
  · rw [Track.check_additions, hu]
  · exact hu

@[simp] theorem Track.arm_additions (t : Track) (i : Fin 16) : (t.arm i).additions = t.additions := by
  unfold Track.arm
  dsimp only
  split
  · rfl
  · simp

theorem Track.settle_additions (t : Track) (i : Fin 16) (was : Option SourceState) (e : Source) (changed : Bool)
    (h : e.state.busy = true → (was.map SourceState.busy).getD false = true) : (t.settle i was e changed).additions = t.additions := by
  unfold Track.settle
  dsimp only
  split
  · rw [Track.arm_additions, Track.raise_additions, t.store_additions i was e changed h]
  · rw [Track.arm_additions, t.store_additions i was e changed h]

/-- An end event hands on no addition: a duration moves within an entry's state, and a new entry is ACQUIRING (R123, R124). -/
@[simp] theorem Track.endEvent_additions (t : Track) (v : BurstEnd) : (t.endEvent v).additions = t.additions := by
  have hduration (i : Fin 16) (certain : Bool) (measured : Nat) : (t.updateDuration i certain measured).additions = t.additions := by
    unfold Track.updateDuration
    dsimp only
    (repeat' split)
    · exact Track.store_additions _ _ _ _ _ fun h => h
    · rfl
    · rfl
    · rfl
  have hcreate (n : Nat) (b : Instant) (measured : Nat) : (t.create (newOven t.state.settings n b measured)).additions = t.additions := by
    unfold Track.create
    split
    · rfl
    · exact Track.settle_additions _ _ _ _ _ fun h => Bool.noConfusion h
  unfold Track.endEvent
  split
  · rfl
  · split
    · dsimp only
      (repeat' split) <;> simp [hduration, hcreate]
    · rfl

@[simp] theorem Track.closeAtBreak_additions (t : Track) (n : Nat) (stop : Option Instant) :
    (t.closeAtBreak n stop).additions = t.additions := by
  unfold Track.closeAtBreak Track.endBurst
  (repeat' split) <;> simp

@[simp] theorem Track.radioChange_additions (t : Track) (old : Radio) : (t.radioChange old).additions = t.additions := by
  unfold Track.radioChange
  (repeat' split) <;> simp

/-! ### The detector at a break (R106, R110) -/

@[simp] theorem Track.modDetector_state_detector (t : Track) (f : Detector → Detector) :
    (t.modDetector f).state.detector = f t.state.detector := rfl

/-- A radio change closes the open burst and empties the coverage list. -/
theorem Track.radioChange_detector (t : Track) (old : Radio) :
    (t.radioChange old).state.detector = { t.state.detector with burst := none, spans := [], agingTimer := none } := by
  unfold Track.radioChange
  dsimp only
  rw [(Track.checkDeferred_keeps _).2.2.2.2.2.2.2.2.2.2.1, Track.modDetector_state_detector]
  split
  · rw [Track.closeAtBreak_detector]
    rfl
  · rfl

/-! ### The window unit's event (R48, R56, R60, R62) -/

/-- Off a channel the window closes and every request is lost. -/
theorem State.search_off (s : State) (opened : Bool) (h : s.south.radio.isOn = false) :
    (s.search opened).window = Window.powerOn ∧ ∀ q, (s.search opened).queue q = { s.queue q with request := false } := by
  have heq : s.search opened = State.reevaluateAll { s with window := Window.powerOn } := by rw [State.search, if_neg (by simp [h])]
  refine ⟨by simp [heq], fun q => ?_⟩
  have hoffer : (State.offer { s with window := Window.powerOn } q).isSome = false :=
    Bool.eq_false_iff.2 fun hsome => by simpa [h] using State.isOn_of_offer _ q hsome
  rw [heq, State.queue_reevaluateAll, hoffer]
  rfl

/-- A window-opened event on a channel marks the heads of the OPEN queues and re-evaluates every request. -/
theorem State.queue_search_opened (s : State) (h : s.south.radio.isOn = true) (q : Fin 16) :
    ∃ request, (s.search true).queue q = { (s.queue q).markWaited with request } := by
  rw [State.search, if_pos h]
  simp only [Bool.true_or, if_true]
  rw [State.queue_reevaluateAll, State.queue_windowOpened, State.queue_setFlagIf]
  exact ⟨_, rfl⟩

theorem Queue.markWaited_spec (x : Queue) :
    x.markWaited.state = x.state ∧ x.markWaited.config = x.config
      ∧ x.markWaited.descriptors.map Descriptor.subframes = x.descriptors.map Descriptor.subframes
      ∧ (x.state = .opened → ∀ d, x.markWaited.head = some d → d.waited = true) := by
  obtain ⟨state, config, descriptors, refused, forced, dropped, aging, request⟩ := x
  cases descriptors with
  | nil => cases state <;> simp [Queue.markWaited, Queue.modHead, Queue.head]
  | cons d rest => cases state <;> simp [Queue.markWaited, Queue.modHead, Queue.head]

/-! ### Radio records (R15) -/

/-- A radio record that is accepted moves the radio state machine. -/
theorem exec_radioRecord_of_southArriving (s : State) (f : LinkFrame) (r : RadioRecord) (h : s.southArriving f)
    (hkind : f.header.kind = 8) (hread : readRadio f.payload = some r) : exec (.radioRecord f) s = .next (s.applyRadio r) := by
  rw [exec_event (.radioRecord f) s h.1 rfl, eventOf, State.radioFrame, s.southFrame_taken 8 f _ h hkind, State.takeRadio, hread]

/-- The detector's and the tracker's part of a radio change. -/
def State.radioTrack (s : State) (radio : Radio) (last : Option Nat) : Track :=
  Track.radioChange (Track.begin (s.withSouth { s.south with radio, lastChannel := last })) s.south.radio

/-- A radio change is no busy-set addition: what it leaves of the part is the window unit's event after the detector's and the tracker's. -/
theorem State.changeRadio_eq (s : State) (radio : Radio) (last : Option Nat) (opened : Bool) :
    ∃ (t : State) (flags : List EventFlag), s.changeRadio radio last opened = (t.search opened).setFlags flags
      ∧ t.south = { s.south with radio, lastChannel := last } ∧ t.gate = s.gate ∧ t.queues = s.queues
      ∧ t.detector = { s.detector with burst := none, spans := [], agingTimer := none } := by
  refine ⟨(s.radioTrack radio last).state, (s.radioTrack radio last).raised, ?_, ?_, ?_, ?_, ?_⟩
  · rw [State.changeRadio, Track.radioChange_additions]
    rfl
  · simp [State.radioTrack, Track.begin, State.withSouth]
  · simp [State.radioTrack, Track.begin, State.withSouth]
  · simp [State.radioTrack, Track.begin, State.withSouth]
  · rw [State.radioTrack, Track.radioChange_detector]
    rfl

/-- The radio enters a channel, or its channel is set anew. -/
theorem State.changeRadio_on (s : State) (n : Nat) :
    let t := s.changeRadio (.onChannel n) (some n) true
    t.south = { s.south with radio := .onChannel n, lastChannel := some n } ∧ t.gate = s.gate
      ∧ t.detector.burst = none ∧ t.detector.spans = [] ∧ t.detector.agingTimer = none
      ∧ t.detector.survey = s.detector.survey ∧ t.window.status ≠ .closedRadio
      ∧ (∀ q, (s.queue q).state = .opened → ∀ d, (t.queue q).head = some d → d.waited = true)
      ∧ (∀ q, (t.queue q).state = (s.queue q).state ∧ (t.queue q).config = (s.queue q).config
          ∧ (t.queue q).descriptors.map Descriptor.subframes = (s.queue q).descriptors.map Descriptor.subframes)
      ∧ t.ring = s.ring ∧ t.engine = s.engine ∧ t.fifo = s.fifo ∧ t.store = s.store ∧ t.clock = s.clock := by
  obtain ⟨u, flags, heq, hsouth, hgate, hqueues, hdetector⟩ := s.changeRadio_eq (.onChannel n) (some n) true
  have hon : u.south.radio.isOn = true := by rw [hsouth]; rfl
  have hqueue (q : Fin 16) : ((u.search true).setFlags flags).queue q = (u.search true).queue q := by simp [State.queue]
  have hsame (q : Fin 16) : u.queue q = s.queue q := by rw [State.queue, hqueues, ← State.queue]
  refine ⟨?_, ?_, ?_, ?_, ?_, ?_, ?_, fun q hopen d hd => ?_, fun q => ?_, by simp, by simp, by simp, by simp, by simp⟩
  · simp [heq, hsouth]
  · simp [heq, hgate]
  · simp [heq, hdetector]
  · simp [heq, hdetector]
  · simp [heq, hdetector]
  · simp
  · rw [heq]
    simp only [State.setFlags_keeps, State.search_window, hon, if_true]
    exact u.searchResult_status
  · obtain ⟨request, hresult⟩ := u.queue_search_opened hon q
    obtain ⟨-, -, -, hwaited⟩ := (s.queue q).markWaited_spec
    rw [heq, hqueue, hresult, hsame] at hd
    exact hwaited hopen d hd
  · obtain ⟨request, hresult⟩ := u.queue_search_opened hon q
    obtain ⟨hstate, hconfig, hsubframes, -⟩ := (s.queue q).markWaited_spec
    rw [heq, hqueue, hresult, hsame]
    exact ⟨hstate, hconfig, hsubframes⟩

theorem State.applyRadio_channel (s : State) (n : Nat) :
    s.applyRadio (.channel n) = s.changeRadio (.onChannel n) (some n) true := by
  unfold State.applyRadio
  split
  case h_1 heq => cases heq; rfl
  case h_2 heq _ => cases heq
  case h_3 heq _ => cases heq
  case h_4 heq _ => cases heq
  case h_5 heq _ => cases heq

theorem State.applyRadio_back (s : State) (n : Nat) (hradio : s.south.radio = .away) (hlast : s.south.lastChannel = some n) :
    s.applyRadio .back = s.changeRadio (.onChannel n) (some n) true := by
  unfold State.applyRadio
  rw [hradio]
  dsimp only
  rw [hlast]

theorem State.applyRadio_away (s : State) (n : Nat) (hradio : s.south.radio = .onChannel n) :
    s.applyRadio .away = s.changeRadio .away s.south.lastChannel false := by
  unfold State.applyRadio
  rw [hradio]

theorem State.applyRadio_away_off (s : State) (h : ∀ n, s.south.radio ≠ .onChannel n) : s.applyRadio .away = s := by
  unfold State.applyRadio
  cases hs : s.south.radio with
  | onChannel n => exact absurd hs (h n)
  | away => rfl
  | down => rfl

theorem State.applyRadio_back_on (s : State) (h : s.south.radio ≠ .away) : s.applyRadio .back = s := by
  unfold State.applyRadio
  cases hs : s.south.radio with
  | onChannel n => rfl
  | away => exact absurd hs h
  | down => rfl

/-- Settles O25: which records change the radio, and what a change leaves. -/
theorem radioRecordMovesTheRadio : Obligations.RadioRecordMovesTheRadio := by
  refine fun s f r h hkind hread => ⟨fun n hr => ⟨s.applyRadio r, exec_radioRecord_of_southArriving s f r h hkind hread, ?on⟩,
    fun n haway hradio => ⟨s.applyRadio r, exec_radioRecord_of_southArriving s f r h hkind hread, ?away⟩, fun hstays => ?stays⟩
  case on =>
    have hchange : s.applyRadio r = s.changeRadio (.onChannel n) (some n) true := by
      obtain rfl | ⟨rfl, hradio, hlast⟩ := hr
      · exact s.applyRadio_channel n
      · exact s.applyRadio_back n hradio hlast
    rw [hchange]
    exact s.changeRadio_on n
  case away =>
    have hchange : s.applyRadio r = s.changeRadio .away s.south.lastChannel false := by rw [haway, s.applyRadio_away n hradio]
    obtain ⟨u, flags, heq, hsouth, hgate, hqueues, hdetector⟩ := s.changeRadio_eq .away s.south.lastChannel false
    obtain ⟨hwindow, hqueue⟩ := u.search_off false (by rw [hsouth]; rfl)
    have hflags (q : Fin 16) : ((u.search false).setFlags flags).queue q = (u.search false).queue q := by simp [State.queue]
    rw [hchange]
    refine ⟨?_, ?_, ?_, ?_, ?_, ?_, ?_, fun q => ?_, by simp, by simp, by simp, by simp, by simp⟩
    · simp [heq, hsouth]
    · simp [heq, hgate]
    · simp [heq, hwindow]
    · simp [heq, hdetector]
    · simp [heq, hdetector]
    · simp [heq, hdetector]
    · simp
    · rw [heq, hflags, hqueue, State.queue, hqueues, ← State.queue]
  case stays =>
    have hsame : s.applyRadio r = s := by
      obtain ⟨rfl, hoff⟩ | ⟨rfl, hradio⟩ := hstays
      · exact s.applyRadio_away_off hoff
      · exact s.applyRadio_back_on hradio
    rw [exec_radioRecord_of_southArriving s f r h hkind hread, hsame]

/-! ### Energy reports (R99, R111) -/

/-- A report that is not on the current channel counts in the survey and does nothing else. -/
theorem State.energyReport_surveyOnly (s : State) (r : EnergyReport) (h : s.south.radio ≠ .onChannel r.channel) :
    s.energyReport r = s.withDetector (s.detector.surveyReport s.settings.onLevel r) := by
  unfold State.energyReport
  split
  · next n hradio =>
    refine if_neg fun hn => h ?_
    rw [hradio, hn]
  · rfl

/-- Settles O18: the samples of a report added up in its channel's entry. -/
theorem energyReportsCountInTheSurvey : Obligations.EnergyReportsCountInTheSurvey := by
  intro s f r i harrives hkind hread hchannel hlawful
  obtain ⟨hbusy, hlisten⟩ := hlawful i
  have hsurvey : (s.energyReport r).detector.survey
      = s.detector.survey.set i
          { listen := min 4294967295 (s.detector.survey[i].listen + r.samples.length * r.interval)
            busy := min 4294967295
              (s.detector.survey[i].busy + (r.samples.filter fun x => decide (s.settings.onLevel ≤ x)).length * r.interval) } := by
    rw [s.energyReport_survey r i hchannel, Detector.surveyReport_survey _ _ r i hchannel,
      SurveyEntry.foldl_add _ _ _ _ hlisten (hbusy.trans hlisten)]
  refine ⟨s.energyReport r, exec_energyReport_of_southArriving s f r harrives hkind hread, ?_, fun j hj => ?_, fun hoff => ?_,
    by simp, by simp, by simp, by simp, by simp⟩
  · simp [hsurvey]
  · have hne : i.val ≠ j.val := fun e => hj (Fin.ext e.symm)
    simp [hsurvey, hne]
  · rw [s.energyReport_surveyOnly r hoff, State.withDetector]
    have hfields : s.detector.surveyReport s.settings.onLevel r
        = { s.detector with survey := (s.detector.surveyReport s.settings.onLevel r).survey } := by
      unfold Detector.surveyReport
      split <;> rfl
    rw [← hfields]

end Sys2Proof.Machine

/-! PROOFS. Detection reports: the coverage list and the open burst (R101 to R107). -/

namespace Sys2Proof.Machine

/-! ### A report in its three parts (R109) -/

/-- A detection report up to its samples: a break closes the open burst, and the coverage list takes the report in. -/
def State.coverTrack (s : State) (n : Nat) (r : EnergyReport) : Track :=
  (if (s.detector.continuedFrom r).isSome then Track.begin s else (Track.begin s).closeAtBreak n s.detector.newestEnd).modDetector
    fun d => d.withSpans (d.cover r (s.detector.continuedFrom r).isSome)

/-- A detection report with its samples evaluated. -/
def State.sampleTrack (s : State) (n : Nat) (r : EnergyReport) : Track :=
  Track.samples n r (s.detector.continuedFrom r) 0 r.samples (s.coverTrack n r)

theorem State.detectionReport_eq (s : State) (n : Nat) (r : EnergyReport) :
    s.detectionReport n r =
      (((s.sampleTrack n r).modDetector fun d => d.surveyReport s.settings.onLevel r).checkDeferred.ageSpans).handOn := rfl

theorem State.energyReport_on (s : State) (r : EnergyReport) (h : s.south.radio = .onChannel r.channel) :
    s.energyReport r = s.detectionReport r.channel r := by
  simp [State.energyReport, h]

/-! ### What samples do to the detector (R105, R107) -/

/-- A burst starts or a sample raises its peak; the rest of the detector stands. -/
@[simp] theorem Track.startBurst_detector (t : Track) (n : Nat) (stamp : Instant) (certain : Bool) (level : Int) :
    (t.startBurst n stamp certain level).state.detector = { t.state.detector with burst := some { start := stamp, certain, peak := level } } := by
  cases certain <;> simp [Track.startBurst]

@[simp] theorem Track.sampleIdle_detector (t : Track) (n : Nat) (stamp : Instant) (certain : Bool) (level : Int) :
    (t.sampleIdle n stamp certain level).state.detector =
      { t.state.detector with
        burst := if t.state.settings.onLevel ≤ level then some { start := stamp, certain, peak := level } else t.state.detector.burst } := by
  unfold Track.sampleIdle
  split <;> simp

@[simp] theorem Track.endBurst_settings (t : Track) (n : Nat) (stop : Instant) (certain : Bool) :
    (t.endBurst n stop certain).state.settings = t.state.settings := by
  simp [State.settings]

/-- One evaluated sample moves the open burst as R105 and R107 say, and nothing else of the detector. -/
theorem Track.sample_detector (t : Track) (n : Nat) (stamp : Instant) (certain : Bool) (level : Int) :
    (t.sample n stamp certain level).state.detector =
      { t.state.detector with burst := burstAfter t.state.settings stamp certain level t.state.detector.burst } := by
  unfold Track.sample burstAfter
  cases hburst : t.state.detector.burst with
  | none => simp [hburst]
  | some o =>
    dsimp only [Config.burstLimit]
    split
    · simp
    · split
      · simp
      · simp

theorem Track.sample_settings (t : Track) (n : Nat) (stamp : Instant) (certain : Bool) (level : Int) :
    (t.sample n stamp certain level).state.settings = t.state.settings := by
  simp [State.settings]

/-- The survey is all that the counting of a report changes (R111). -/
@[simp] theorem Detector.surveyReport_keeps (d : Detector) (onLevel : Int) (r : EnergyReport) :
    (d.surveyReport onLevel r).burst = d.burst ∧ (d.surveyReport onLevel r).spans = d.spans
      ∧ (d.surveyReport onLevel r).agingTimer = d.agingTimer := by
  unfold Detector.surveyReport
  split <;> simp

/-- The open burst after the samples of a report from one on, those before the end of a span that it continues left out. -/
def burstAfterAll (c : Settings) (r : EnergyReport) (oldEnd : Option Instant) (samples : List (Int × Nat)) (o : Option OpenBurst) :
    Option OpenBurst :=
  samples.foldl
    (fun o p =>
      if oldEnd.any (before (r.stampOf p.2)) then o else burstAfter c (r.stampOf p.2) (decide (p.2 ≠ 0) || oldEnd.isSome) p.1 o) o

theorem Track.samples_cons (n : Nat) (r : EnergyReport) (oldEnd : Option Instant) (i : Nat) (level : Int) (rest : List Int) (t : Track) :
    Track.samples n r oldEnd i (level :: rest) t =
      Track.samples n r oldEnd (i + 1) rest
        (if oldEnd.any (before (r.stampOf i)) then t else t.sample n (r.stampOf i) (decide (i ≠ 0) || oldEnd.isSome) level) := by
  cases oldEnd <;> rfl

theorem Track.samples_detector (n : Nat) (r : EnergyReport) (oldEnd : Option Instant) (i : Nat) (levels : List Int) (t : Track) :
    (Track.samples n r oldEnd i levels t).state.detector =
      { t.state.detector with burst := burstAfterAll t.state.settings r oldEnd (levels.zipIdx i) t.state.detector.burst } := by
  induction levels generalizing i t with
  | nil => rfl
  | cons level rest ih =>
    rw [Track.samples_cons, ih, List.zipIdx_cons, burstAfterAll, burstAfterAll, List.foldl_cons]
    split
    · rfl
    · rw [Track.sample_settings, Track.sample_detector]

/-- The detector when a report's samples have been evaluated. -/
theorem State.sampleTrack_detector (s : State) (n : Nat) (r : EnergyReport) :
    (s.sampleTrack n r).state.detector =
      { s.detector.withSpans (s.detector.cover r (s.detector.continuedFrom r).isSome) with
        burst := burstAfterAll s.settings r (s.detector.continuedFrom r) r.samples.zipIdx
          (if (s.detector.continuedFrom r).isSome then s.detector.burst else none) } := by
  have hsettings : (s.coverTrack n r).state.settings = s.settings := by
    simp only [State.settings, State.coverTrack]
    split <;> simp
  rw [State.sampleTrack, Track.samples_detector, hsettings, State.coverTrack]
  split
  · simp
  · simp only [Track.modDetector_detector, Track.closeAtBreak_detector]
    rfl

/-! ### Aging at the report (R103) -/

/-- The aging timer is armed for the oldest span, or cancelled (R103). -/
def Detector.timed (d : Detector) : Prop := d.agingTimer = d.spans.head?.map fun x => plus x.stop Config.staleAge

theorem Detector.withSpans_timed (d : Detector) (spans : List Span) : (d.withSpans spans).timed := rfl

theorem Track.removeSpans_timed (t : Track) (kept : List Span) : (t.removeSpans kept).state.detector.timed := by
  obtain heq | ⟨-, heq⟩ := t.removeSpans_detector kept
  · rw [heq]
    exact Detector.withSpans_timed _ _
  · rw [heq]
    exact Detector.withSpans_timed t.state.detector []

theorem Track.ageSpans_timed (t : Track) (h : t.state.detector.timed) : t.ageSpans.state.detector.timed := by
  unfold Track.ageSpans
  split
  · exact h
  · split
    · exact t.removeSpans_timed _
    · exact h

/-- The aging of spans closes the open burst when it empties the list on a channel, and leaves it otherwise. -/
theorem Track.ageSpans_burst (t : Track) (n : Nat) (hradio : t.state.south.radio = .onChannel n) (hspans : t.state.detector.spans ≠ []) :
    t.ageSpans.state.detector.burst = if t.ageSpans.state.detector.spans = [] then none else t.state.detector.burst := by
  have hremoved (kept : List Span) :
      (t.removeSpans kept).state.detector.burst = if kept = [] then none else t.state.detector.burst := by
    cases kept with
    | nil =>
      unfold Track.removeSpans
      rw [hradio]
      simp
    | cons x kept => rfl
  unfold Track.ageSpans
  split
  case h_1 hnil => exact absurd hnil hspans
  case h_2 x rest hcons =>
    split
    · rw [hremoved, Track.removeSpans_spans]
    · rfl

/-- A report's span joins the list, whatever was there before (R102). -/
theorem Detector.cover_ne_nil (d : Detector) (r : EnergyReport) : d.cover r (d.continuedFrom r).isSome ≠ [] := by
  unfold Detector.cover
  dsimp only
  split
  case isTrue hcontinued =>
    cases hlast : d.spans.getLast? with
    | none => simp [Detector.continuedFrom, Detector.newestEnd, hlast] at hcontinued
    | some x => simp [extendNewest, hlast]
  case isFalse =>
    (repeat' split) <;> simp

section
variable (s : State) (r : EnergyReport) (h : s.south.radio = .onChannel r.channel)
include h

theorem State.spans_energyReport :
    (s.energyReport r).detector.spans =
      (s.detector.cover r (s.detector.continuedFrom r).isSome).dropWhile (Span.outlived s.clock.now) := by
  have hnow : (s.sampleTrack r.channel r).state.clock = s.clock := by
    simp only [State.sampleTrack, State.coverTrack]
    split <;> simp
  rw [s.energyReport_on r h, State.detectionReport_eq]
  simp [s.sampleTrack_detector, State.now, hnow, Detector.surveyReport_keeps]

theorem State.timed_energyReport : (s.energyReport r).detector.timed := by
  rw [s.energyReport_on r h, State.detectionReport_eq, (Track.handOn_keeps _).2.2.2.2.2.1]
  refine Track.ageSpans_timed _ ?_
  simp [s.sampleTrack_detector, Detector.timed, Detector.surveyReport_keeps]

theorem State.burst_energyReport :
    (s.energyReport r).detector.burst =
      if (s.energyReport r).detector.spans = [] then none
      else burstAfterAll s.settings r (s.detector.continuedFrom r) r.samples.zipIdx
        (if (s.detector.continuedFrom r).isSome then s.detector.burst else none) := by
  have hradio : (s.sampleTrack r.channel r).state.south = s.south := by
    simp only [State.sampleTrack, State.coverTrack]
    split <;> simp
  rw [s.energyReport_on r h, State.detectionReport_eq, (Track.handOn_keeps _).2.2.2.2.2.1,
    Track.ageSpans_burst _ r.channel (by simp [hradio, h])
      (by simp [s.sampleTrack_detector, Detector.surveyReport_keeps, s.detector.cover_ne_nil r])]
  simp [s.sampleTrack_detector, Detector.surveyReport_keeps]

end

/-! ### Continuity (R101, R102) -/

theorem Detector.newestEnd_append (d : Detector) (older : List Span) (x : Span) (h : d.spans = older ++ [x]) :
    d.newestEnd = some x.stop := by
  simp [Detector.newestEnd, h]

theorem Detector.continuedFrom_nil (d : Detector) (r : EnergyReport) (h : d.spans = []) : d.continuedFrom r = none := by
  simp [Detector.continuedFrom, Detector.newestEnd, h]

/-- A report continues from the newest span's end when its flag and its first stamp say so. -/
theorem Detector.continuedFrom_append (d : Detector) (r : EnergyReport) (older : List Span) (x : Span) (h : d.spans = older ++ [x])
    [Decidable (r.continuesAt x.stop)] : d.continuedFrom r = if r.continuesAt x.stop then some x.stop else none := by
  rw [Detector.continuedFrom, d.newestEnd_append older x h]
  have hcondition : (r.continues && atOrBefore (minus x.stop r.interval) r.first && atOrBefore r.first (plus x.stop r.interval)) = true
      ↔ r.continuesAt x.stop := by simp [EnergyReport.continuesAt, and_assoc]
  by_cases hcontinues : r.continuesAt x.stop
  · rw [if_pos hcontinues]
    exact if_pos (hcondition.2 hcontinues)
  · rw [if_neg hcontinues]
    exact if_neg (mt hcondition.1 hcontinues)

/-- Settles O19: what the list takes in, by continuity and order, and what has then reached its age limit. -/
theorem detectionReportsExtendTheCoverage : Obligations.DetectionReportsExtendTheCoverage := by
  classical
  intro s f r harrives hkind hread hradio stop new young
  have hcovered := s.spans_energyReport r hradio
  refine ⟨s.energyReport r, exec_energyReport_of_southArriving s f r harrives hkind hread, fun hnil => ?_,
    fun older x hspans => ⟨fun hcontinues => ?_, fun hbreaks hafter => ?_, fun hbreaks hbefore => ?_⟩, s.timed_energyReport r hradio⟩
  · rw [hcovered, s.detector.continuedFrom_nil r hnil]
    simp [Detector.cover, Detector.newestEnd, hnil]
    rfl
  · rw [hcovered, s.detector.continuedFrom_append r older x hspans, if_pos hcontinues]
    simp [Detector.cover, extendNewest, hspans]
    rfl
  · rw [hcovered, s.detector.continuedFrom_append r older x hspans, if_neg hbreaks]
    simp only [Detector.cover, Option.isSome_none, Bool.false_eq_true, if_false, s.detector.newestEnd_append older x hspans, hafter, if_true]
    rfl
  · rw [hcovered, s.detector.continuedFrom_append r older x hspans, if_neg hbreaks]
    simp only [Detector.cover, Option.isSome_none, Bool.false_eq_true, if_false, s.detector.newestEnd_append older x hspans, hbefore]
    rfl

/-- Settles O20: the samples fold into the burst that the report finds, or into none after a break. -/
theorem detectionReportsOpenAndCloseBursts : Obligations.DetectionReportsOpenAndCloseBursts := by
  classical
  intro s f r harrives hkind hread hradio
  have hburst := s.burst_energyReport r hradio
  refine ⟨s.energyReport r, exec_energyReport_of_southArriving s f r harrives hkind hread, fun hnil => ?_,
    fun older x hspans hcontinues hkept => ?_, fun hbreaks hkept => ?_⟩
  · rw [hburst, if_pos hnil]
  · rw [hburst, if_neg hkept, s.detector.continuedFrom_append r older x hspans, if_pos hcontinues, burstAfterAll]
    simp [EnergyReport.stampOf]
  · have hnone : s.detector.continuedFrom r = none := by
      obtain hnil | ⟨older, x, hspans, hbreaks⟩ := hbreaks
      · exact s.detector.continuedFrom_nil r hnil
      · rw [s.detector.continuedFrom_append r older x hspans, if_neg hbreaks]
    rw [hburst, if_neg hkept, hnone, burstAfterAll]
    simp [EnergyReport.stampOf]

end Sys2Proof.Machine

/-! PROOFS. The check of a source occurrence (R118 to R120). -/

namespace Sys2Proof.Machine

/-! ### Timers and what an event hands on -/

/-- An instant that is not at or before now has not been reached (R3). -/
theorem reached_of_waits (timer : Option Instant) (now : Instant) (h : ∀ a, timer = some a → atOrBefore a now = false) :
    reached timer now = false := by
  cases timer with
  | none => rfl
  | some a => exact h a rfl

/-- An event that changes a state and hands nothing on leaves that state. -/
theorem Track.handOn_of_quiet (t : Track) (hadditions : t.additions = []) (htrigger : t.trigger = false) (hraised : t.raised = []) :
    t.handOn = t.state := by
  rw [Track.handOn, hadditions, hraised]
  simp [htrigger, State.addBusyAll, State.setFlags]

/-- A check time still to come is not judged (R118). -/
theorem Track.judgePassed_of_waits (t : Track) (i : Fin 16) (h : reached (t.state.slot i).timer t.state.now = false) : t.judgePassed i = t := by
  rw [Track.judgePassed, h]
  rfl

theorem State.slot_advance (t : Track) (i : Fin 16) (e : Source) :
    (t.advance i e).state =
      t.state.setSlot i
        { (t.state.slot i) with
          entry := some { e with start := plus e.start e.period }
          timer := some (plus (plus e.start e.period) (captureOf t.state.settings e.kind)), deferred := false } := rfl

/-- An occurrence moved on to one whose check time is still to come ends the check (R119). -/
theorem Track.judgePassed_advance (t : Track) (i : Fin 16) (e : Source)
    (h : atOrBefore (plus (plus e.start e.period) (captureOf t.state.settings e.kind)) t.state.clock.now = false) :
    (t.advance i e).judgePassed i = t.advance i e := by
  refine Track.judgePassed_of_waits _ i ?_
  rw [State.slot_advance, State.slot_setSlot_self]
  exact h

theorem Track.judgePassed_freeSlot (t : Track) (i : Fin 16) (u : Track) (h : u.state = t.state.freeSlot i) : u.judgePassed i = u := by
  refine Track.judgePassed_of_waits u i ?_
  rw [h, State.slot_freeSlot_self]
  rfl

/-! ### The judgement (Table 8-2) -/

section
variable (s : State) (x : Slot) (e : Source)

theorem State.judgement_host (h : x.owner = .host) : s.judgement x e = .host := by
  simp [State.judgement, h]

variable (hlearn : x.owner = .learn)
include hlearn

theorem State.judgement_matched (hmatched : e.matched = true) : s.judgement x e = .matched := by
  simp [State.judgement, hlearn, hmatched]

variable (hmatched : e.matched = false)
include hmatched

theorem State.judgement_miss (happlies : e.kind.appliesTo s.south.radio = true)
    (hcovered : s.covered (minus e.start (captureOf s.settings e.kind)) (plus e.start (captureOf s.settings e.kind)) = true) :
    s.judgement x e = .miss := by
  simp [State.judgement, hlearn, hmatched, happlies, hcovered]

theorem State.judgement_deferred (happlies : e.kind.appliesTo s.south.radio = true)
    (hcovered : s.covered (minus e.start (captureOf s.settings e.kind)) (plus e.start (captureOf s.settings e.kind)) = false)
    (older : List Span) (y : Span) (hspans : s.detector.spans = older ++ [y])
    (hafter : before (minus e.start (captureOf s.settings e.kind)) y.stop = true)
    (hbefore : before y.stop (plus e.start (captureOf s.settings e.kind)) = true)
    (hpart : s.covered (minus e.start (captureOf s.settings e.kind)) y.stop = true) : s.judgement x e = .deferred := by
  simp [State.judgement, hlearn, hmatched, happlies, hcovered, s.detector.newestEnd_append older y hspans, hafter, hbefore, hpart]

/-- An occurrence that does not apply, or whose capture range the coverage list neither covers nor defers, is unobserved. -/
theorem State.judgement_unobserved
    (h : e.kind.appliesTo s.south.radio = false
      ∨ (s.covered (minus e.start (captureOf s.settings e.kind)) (plus e.start (captureOf s.settings e.kind)) = false
        ∧ ∀ older y, s.detector.spans = older ++ [y] →
            ¬ (before (minus e.start (captureOf s.settings e.kind)) y.stop = true
              ∧ before y.stop (plus e.start (captureOf s.settings e.kind)) = true
              ∧ s.covered (minus e.start (captureOf s.settings e.kind)) y.stop = true))) :
    s.judgement x e = .unobserved := by
  obtain happlies | ⟨hcovered, hpart⟩ := h
  · simp only [State.judgement, hlearn, hmatched, happlies, Bool.false_and, Bool.false_eq_true, if_false]
    cases s.detector.newestEnd <;> rfl
  · obtain hnil | ⟨older, y, hspans⟩ := s.detector.spans.eq_nil_or_concat
    · simp [State.judgement, hlearn, hmatched, hcovered, Detector.newestEnd, hnil]
    · have hpart' := hpart older y (by simpa using hspans)
      simp only [State.judgement, hlearn, hmatched, hcovered, s.detector.newestEnd_append older y (by simpa using hspans),
        Bool.and_false, Bool.false_eq_true, if_false]
      rw [if_neg (by decide)]
      refine if_neg fun hall => hpart' ?_
      simp only [Bool.and_eq_true] at hall
      obtain ⟨⟨⟨-, hafter⟩, hbefore⟩, hcovers⟩ := hall
      exact ⟨hafter, hbefore, hcovers⟩

end

/-! ### The event CHECK_TIMER_EXPIRY -/

/-- A check timer that has reached its instant has its occurrence judged (R119). -/
theorem exec_checkTimerExpiry (s : State) (i : Fin 16) (a : Instant) (h : s.inReset = false) (htimer : (s.slot i).timer = some a)
    (hreached : atOrBefore a s.clock.now = true) : exec (.checkTimerExpiry i) s = .next ((Track.begin s).check i).handOn := by
  rw [exec_event (.checkTimerExpiry i) s h rfl, eventOf, State.checkExpired, htimer]
  exact congrArg _ (if_pos hreached)

/-- An occurrence judged on a track. -/
theorem Track.judgeOnce_eq (t : Track) (i : Fin 16) (e : Source) (h : (t.state.slot i).entry = some e) :
    t.judgeOnce i =
      match t.state.judgement (t.state.slot i) e with
      | .host => t.advance i e
      | .matched => t.advance i { e with matched := false }
      | .miss => t.miss i e
      | .deferred => { t with state := t.state.setSlot i { (t.state.slot i) with timer := none, deferred := true } }
      | .unobserved => t.advance i e := by
  unfold Track.judgeOnce
  dsimp only
  rw [h] <;> rfl

/-- A check that only moves the occurrence on leaves the state moved on. -/
theorem checked_advance (s : State) (i : Fin 16) (e : Source)
    (hwaits : atOrBefore (plus (plus e.start e.period) (captureOf s.settings e.kind)) s.clock.now = false)
    (h : (Track.begin s).judgeOnce i = (Track.begin s).advance i e) :
    ((Track.begin s).check i).handOn = ((Track.begin s).advance i e).state := by
  rw [Track.check, h, Track.judgePassed_advance (Track.begin s) i e hwaits]
  exact Track.handOn_of_quiet _ rfl rfl rfl

/-- Settles O35: the judgement of each case, and what it makes of the slot. -/
theorem checkTimerExpiryJudgesTheOccurrence : Obligations.CheckTimerExpiryJudgesTheOccurrence := by
  intro s i a e hrunning htimer hreached hentry cap next first last applies advanced hwaits
  have hexec := exec_checkTimerExpiry s i a hrunning htimer hreached
  have hjudged := (Track.begin s).judgeOnce_eq i e hentry
  refine ⟨fun hhost => ?host, fun hlearn hmatched => ?matched, fun hlearn hmatched hunseen => ?unobserved,
    fun older x hlearn hmatched happlies hcovered hspans hafter hbefore hpart => ?deferred,
    fun hlearn hmatched happlies hcovered => ⟨fun hacquiring => ?acquiring, fun hbusy hrun => ?coasting, fun hbusy hrun => ?lost⟩⟩
  case host =>
    rw [show (Track.begin s).state.judgement ((Track.begin s).state.slot i) e = .host from s.judgement_host _ e hhost] at hjudged
    rw [hexec, checked_advance s i e hwaits hjudged]
    rfl
  case matched =>
    rw [show (Track.begin s).state.judgement ((Track.begin s).state.slot i) e = .matched from
      s.judgement_matched _ e hlearn hmatched] at hjudged
    rw [hexec, checked_advance s i { e with matched := false } hwaits hjudged]
    rfl
  case unobserved =>
    rw [show (Track.begin s).state.judgement ((Track.begin s).state.slot i) e = .unobserved from
      s.judgement_unobserved _ e hlearn hmatched hunseen] at hjudged
    rw [hexec, checked_advance s i e hwaits hjudged]
    rfl
  case deferred =>
    rw [show (Track.begin s).state.judgement ((Track.begin s).state.slot i) e = .deferred from
      s.judgement_deferred _ e hlearn hmatched happlies hcovered older x hspans hafter hbefore hpart] at hjudged
    rw [hexec, Track.check, hjudged, Track.judgePassed_of_waits]
    · rw [Track.handOn_of_quiet _ rfl rfl rfl]
      rfl
    · show reached (State.slot (s.setSlot i _) i).timer _ = false
      rw [State.slot_setSlot_self]
      rfl
  case acquiring =>
    rw [show (Track.begin s).state.judgement ((Track.begin s).state.slot i) e = .miss from
      s.judgement_miss _ e hlearn hmatched happlies hcovered] at hjudged
    have hmissed : (Track.begin s).miss i e = { Track.begin s with state := s.freeSlot i } := by
      simp [Track.miss, hacquiring, stateAfterMiss, SourceState.busy, Track.begin]
    refine ⟨?_, by simp⟩
    rw [hexec, Track.check, hjudged]
    dsimp only
    rw [hmissed, Track.judgePassed_freeSlot (Track.begin s) i _ rfl, Track.handOn_of_quiet _ rfl rfl rfl]
  case coasting =>
    rw [show (Track.begin s).state.judgement ((Track.begin s).state.slot i) e = .miss from
      s.judgement_miss _ e hlearn hmatched happlies hcovered] at hjudged
    have hafter : stateAfterMiss e.state (e.missRun + 1) s.settings.missLimit = some .coasting := by
      cases hstate : e.state with
      | acquiring => exact absurd hstate hbusy
      | locked => exact if_neg (Nat.not_le.2 hrun)
      | coasting => exact if_neg (Nat.not_le.2 hrun)
    have hmissed : (Track.begin s).miss i e =
        ((Track.begin s).store i (some e.state) { e with state := .coasting, missRun := e.missRun + 1 } false).advance i
          { e with state := .coasting, missRun := e.missRun + 1 } := by
      unfold Track.miss
      dsimp only
      rw [show stateAfterMiss e.state (e.missRun + 1) (Track.begin s).state.settings.missLimit = some .coasting from hafter]
    refine ⟨_, hexec, ?_, by simp, by simp, by simp, by simp, by simp⟩
    have hstored : ((Track.begin s).store i (some e.state) { e with state := .coasting, missRun := e.missRun + 1 } false).state
        = s.setSlot i { (s.slot i) with entry := some { e with state := .coasting, missRun := e.missRun + 1 } } := rfl
    rw [(Track.handOn_keeps _).2.2.2.2.2.2.1, Track.check, hjudged]
    dsimp only
    rw [hmissed]
    generalize (Track.begin s).store i (some e.state) { e with state := .coasting, missRun := e.missRun + 1 } false = u at hstored ⊢
    have hsettings : u.state.settings = s.settings := by rw [hstored]; rfl
    have hclock : u.state.clock = s.clock := by rw [hstored]; rfl
    rw [Track.judgePassed_advance u i _ (by rw [hsettings, hclock]; exact hwaits), State.slot_advance, hsettings, hstored,
      State.slot_setSlot_self]
    simp [State.setSlot, advanced]
    rfl
  case lost =>
    rw [show (Track.begin s).state.judgement ((Track.begin s).state.slot i) e = .miss from
      s.judgement_miss _ e hlearn hmatched happlies hcovered] at hjudged
    have hafter : stateAfterMiss e.state (e.missRun + 1) s.settings.missLimit = none := by
      cases hstate : e.state with
      | acquiring => exact absurd hstate hbusy
      | locked => exact if_pos hrun
      | coasting => exact if_pos hrun
    have hstate : e.state.busy = true := by
      cases hs : e.state with
      | acquiring => exact absurd hs hbusy
      | locked => rfl
      | coasting => rfl
    have hmissed : (Track.begin s).miss i e =
        Track.raise { Track.begin s with state := s.freeSlot i, trigger := true } .sourceLost := by
      unfold Track.miss
      dsimp only
      rw [show stateAfterMiss e.state (e.missRun + 1) (Track.begin s).state.settings.missLimit = none from hafter]
      simp [hstate, Track.begin]
    have hchecked : (Track.begin s).check i = Track.raise { Track.begin s with state := s.freeSlot i, trigger := true } .sourceLost := by
      rw [Track.check, hjudged]
      dsimp only
      rw [hmissed, Track.judgePassed_freeSlot (Track.begin s) i _ rfl]
    have hsources : ((Track.begin s).check i).handOn.sources = (s.freeSlot i).sources := by
      rw [(Track.handOn_keeps _).2.2.2.2.2.2.1, hchecked]
      rfl
    refine ⟨_, hexec, hsources, ?_, ?_, ?_, by simp, by simp, by simp, by simp, by simp⟩
    · rw [State.slot_of_sources hsources, State.slot_freeSlot_self]
    · rw [State.slot_of_sources hsources, State.slot_freeSlot_self, hlearn]
    · rw [hchecked]
      simp [Track.handOn, Track.raise, Track.begin, State.setFlags]

end Sys2Proof.Machine

/-! PROOFS. The timer expiries (R47, R61, R83, R85, R103, R119, R136, R141, R156). -/

namespace Sys2Proof.Machine

/-- A timer is cancelled or armed for an instant still to come. -/
def waitsAt (now : Instant) (timer : Option Instant) : Prop := ∀ a, timer = some a → atOrBefore a now = false

theorem reached_some (a now : Instant) (h : atOrBefore a now = true) : reached (some a) now = true := h

/-! ### What a busy-set addition leaves of the release gate (R94) -/

@[simp] theorem State.addBusy_gate (s : State) (x : Addition) :
    (s.addBusy x).gate.rates = s.gate.rates ∧ (s.addBusy x).gate.committed = s.gate.committed
      ∧ (s.addBusy x).gate.nextId = s.gate.nextId := by
  unfold State.addBusy
  split <;> simp

@[simp] theorem State.addBusyAll_gate (s : State) (xs : List Addition) :
    (s.addBusyAll xs).gate.rates = s.gate.rates ∧ (s.addBusyAll xs).gate.committed = s.gate.committed
      ∧ (s.addBusyAll xs).gate.nextId = s.gate.nextId :=
  xs.foldlRecOn (motive := fun u : State => u.gate.rates = s.gate.rates ∧ u.gate.committed = s.gate.committed
    ∧ u.gate.nextId = s.gate.nextId) State.addBusy ⟨rfl, rfl, rfl⟩ fun u hu x _ => by simpa using hu

/-! ### An expiry whose instant is still to come (R3) -/

section
variable (s : State) (h : s.inReset = false)
include h

theorem exec_agingTimerExpiry_waits (q : Fin 16) (hw : waitsAt s.clock.now (s.queue q).aging) :
    exec (.agingTimerExpiry q) s = .next s := by
  rw [exec_event (.agingTimerExpiry q) s h rfl, eventOf, State.agingExpired, reached_of_waits _ s.now hw]
  rfl

theorem exec_windowTimerExpiry_waits (hw : waitsAt s.clock.now s.window.timer) : exec .windowTimerExpiry s = .next s := by
  rw [exec_event .windowTimerExpiry s h rfl, eventOf, State.windowExpired, reached_of_waits _ s.now hw]
  rfl

theorem exec_committedUntilExpiry_waits (hw : waitsAt s.clock.now s.gate.committed) : exec .committedUntilExpiry s = .next s := by
  rw [exec_event .committedUntilExpiry s h rfl, eventOf, State.committedExpired, reached_of_waits _ s.now hw]
  rfl

theorem exec_outstandingStaleExpiry_waits (id : BitVec 8)
    (hw : ∀ e ∈ s.gate.table, e.id = id → e.stale = true ∨ atOrBefore (plus e.stamp 1073741824) s.clock.now = false) :
    exec (.outstandingStaleExpiry id) s = .next s := by
  have hsame : (s.gate.table.map fun e => if e.id == id && !e.stale && atOrBefore e.staleAt s.now then { e with stale := true } else e)
      = s.gate.table := by
    refine (List.map_congr_left (g := fun e => e) fun e he => if_neg fun hall => ?_).trans (List.map_id' _)
    simp only [Bool.and_eq_true, beq_iff_eq, Bool.not_eq_true'] at hall
    obtain ⟨⟨hid, hstale⟩, hreached⟩ := hall
    obtain hs | hw := hw e he hid
    · simp [hs] at hstale
    · exact absurd hreached (by rw [Outstanding.staleAt]; simpa [Config.staleAge] using hw)
  rw [exec_event (.outstandingStaleExpiry id) s h rfl, eventOf, State.staleExpired, hsame]

theorem exec_coverageAgingExpiry_waits (hw : waitsAt s.clock.now s.detector.agingTimer) : exec .coverageAgingExpiry s = .next s := by
  rw [exec_event .coverageAgingExpiry s h rfl, eventOf, State.coverageExpired, reached_of_waits _ s.now hw]
  rfl

theorem exec_checkTimerExpiry_waits (i : Fin 16) (hw : waitsAt s.clock.now (s.slot i).timer) :
    exec (.checkTimerExpiry i) s = .next s := by
  rw [exec_event (.checkTimerExpiry i) s h rfl, eventOf, State.checkExpired, reached_of_waits _ s.now hw]
  rfl

theorem exec_ringEndTimerExpiry_waits (hw : waitsAt s.clock.now s.ring.endTimer) : exec .ringEndTimerExpiry s = .next s := by
  rw [exec_event .ringEndTimerExpiry s h rfl, eventOf, State.ringEndExpired, reached_of_waits _ s.now hw, Bool.and_false]
  rfl

theorem exec_ringLoadTimerExpiry_waits (i : Fin 32) (hw : waitsAt s.clock.now (s.ring.entry i).loadTimer) :
    exec (.ringLoadTimerExpiry i) s = .next s := by
  rw [exec_event (.ringLoadTimerExpiry i) s h rfl, eventOf, State.ringLoadExpired, reached_of_waits _ s.now hw]
  rfl

theorem exec_pacingTimerExpiry_waits (hw : waitsAt s.clock.now s.events.pacing) : exec .pacingTimerExpiry s = .next s := by
  rw [exec_event .pacingTimerExpiry s h rfl, eventOf, State.pacingExpired, reached_of_waits _ s.now hw]
  rfl

/-! ### An expiry whose instant has been reached -/

theorem exec_agingTimerExpiry_reached (q : Fin 16) (a : Instant) (d : Descriptor) (rest : List Descriptor)
    (htimer : (s.queue q).aging = some a) (hreached : atOrBefore a s.clock.now = true) (hqueue : (s.queue q).descriptors = d :: rest) :
    exec (.agingTimerExpiry q) s =
      .next ((s.setQueue q { s.queue q with descriptors := { d with aged := true } :: rest, aging := none }).reevaluate q) := by
  have hhead : (s.queue q).modHead (fun d => { d with aged := true }) = { s.queue q with descriptors := { d with aged := true } :: rest } := by
    simp [Queue.modHead, hqueue]
  rw [exec_event (.agingTimerExpiry q) s h rfl, eventOf, State.agingExpired, htimer, if_pos (reached_some a s.now hreached),
    State.modQueue, hhead]

/-- Only the release of the id, whose age limit is reached, becomes stale (R85). -/
theorem exec_outstandingStaleExpiry_reached (older newer : List Outstanding) (e : Outstanding)
    (htable : s.gate.table = older ++ e :: newer) (hothers : ∀ x ∈ older ++ newer, x.id ≠ e.id)
    (hreached : atOrBefore (plus e.stamp 1073741824) s.clock.now = true) :
    exec (.outstandingStaleExpiry e.id) s =
      .next { s with gate := { s.gate with table := older ++ { e with stale := true } :: newer } } := by
  have hother (l : List Outstanding) (hl : ∀ x ∈ l, x.id ≠ e.id) :
      (l.map fun x => if x.id == e.id && !x.stale && atOrBefore x.staleAt s.now then { x with stale := true } else x) = l :=
    (List.map_congr_left (g := fun x => x) fun x hx => if_neg (by simp [hl x hx])).trans (List.map_id' _)
  have hself : (if e.id == e.id && !e.stale && atOrBefore e.staleAt s.now then { e with stale := true } else e)
      = { e with stale := true } := by
    have hage : atOrBefore e.staleAt s.now = true := hreached
    obtain ⟨id, queue, descriptor, ordinals, kind, earliest, latest, windowEnd, airtime, cancelledSent, stamp, stale⟩ := e
    cases stale with
    | false => exact if_pos (by rw [hage]; simp)
    | true => exact if_neg (by simp)
  rw [exec_event (.outstandingStaleExpiry e.id) s h rfl, eventOf, State.staleExpired, htable, List.map_append, List.map_cons, hself,
    hother older fun x hx => hothers x (List.mem_append_left _ hx), hother newer fun x hx => hothers x (List.mem_append_right _ hx)]

/-- The spans that are left when the oldest goes, and with it each next one that has reached its age limit (R103). -/
theorem exec_coverageAgingExpiry_reached (a : Instant) (htimer : s.detector.agingTimer = some a) (hreached : atOrBefore a s.clock.now = true)
    (gone kept : List Span) (hgone : gone ≠ []) (hspans : s.detector.spans = gone ++ kept)
    (hpassed : ∀ x ∈ gone.tail, atOrBefore (plus x.stop 1073741824) s.clock.now = true)
    (hkept : ∀ y ∈ kept.head?, atOrBefore (plus y.stop 1073741824) s.clock.now = false) :
    exec .coverageAgingExpiry s = .next ((Track.begin s).removeSpans kept).handOn := by
  have hleft : s.detector.spans.tail.dropWhile (Span.outlived s.now) = kept := by
    obtain ⟨x, gone, rfl⟩ := List.exists_cons_of_ne_nil hgone
    rw [hspans, List.cons_append, List.tail_cons, List.dropWhile_append_of_pos (show ∀ y ∈ gone, Span.outlived s.now y = true from hpassed)]
    cases kept with
    | nil => rfl
    | cons y rest => exact List.dropWhile_cons_of_neg (by rw [Span.outlived]; simpa [Config.staleAge] using hkept y rfl)
  rw [exec_event .coverageAgingExpiry s h rfl, eventOf, State.coverageExpired, htimer, if_pos (reached_some a s.now hreached),
    State.ageCoverage, hleft]

end

/-- Settles O32: no effect before the instant; then each expiry's own. -/
theorem expiriesActOnceTheirInstantIsReached : Obligations.ExpiriesActOnceTheirInstantIsReached := by
  refine fun s h => ⟨⟨exec_agingTimerExpiry_waits s h, exec_windowTimerExpiry_waits s h, exec_committedUntilExpiry_waits s h,
      exec_outstandingStaleExpiry_waits s h, exec_coverageAgingExpiry_waits s h, exec_checkTimerExpiry_waits s h,
      exec_ringEndTimerExpiry_waits s h, exec_ringLoadTimerExpiry_waits s h, exec_pacingTimerExpiry_waits s h⟩,
    exec_agingTimerExpiry_reached s h, fun a htimer hreached => ?window, fun a htimer hreached => ?committed,
    exec_outstandingStaleExpiry_reached s h, fun a gone y rest htimer hreached hgone hspans hpassed hkept => ?someKept,
    fun a gone n htimer hreached hspans hgone hpassed hradio => ?noneKept, fun i a htimer hreached => ?load,
    fun a htimer hreached => ⟨fun hdue => ?pacing, fun hdue hwaits hsending => ?notice⟩⟩
  case window =>
    rw [exec_event .windowTimerExpiry s h rfl, eventOf, State.windowExpired, htimer, if_pos (reached_some a s.now hreached)]
  case committed =>
    rw [exec_event .committedUntilExpiry s h rfl, eventOf, State.committedExpired, htimer, if_pos (reached_some a s.now hreached)]
  case someKept =>
    rw [exec_coverageAgingExpiry_reached s h a htimer hreached gone (y :: rest) hgone hspans hpassed (by simpa using hkept),
      Track.handOn_of_quiet _ rfl rfl rfl]
    rfl
  case noneKept =>
    refine ⟨_, exec_coverageAgingExpiry_reached s h a htimer hreached gone [] hgone (by simpa using hspans) hpassed (by simp), ?_,
      by simp, by simp, by simp, by simp, by simp, ?_⟩
    · have hremoved : (Track.begin s).removeSpans [] =
          (((Track.begin s).modDetector fun d => d.withSpans []).closeAtBreak n s.detector.newestEnd).checkDeferred := by
        unfold Track.removeSpans
        dsimp only
        rw [show (Track.begin s).state.south.radio = .onChannel n from hradio]
        rfl
      rw [(Track.handOn_keeps _).2.2.2.2.2.1, hremoved]
      simp
    · rw [Track.handOn]
      split <;> simp
  case load =>
    rw [exec_event (.ringLoadTimerExpiry i) s h rfl, eventOf, State.ringLoadExpired, htimer, if_pos (reached_some a s.now hreached)]
    rfl
  case pacing =>
    rw [exec_event .pacingTimerExpiry s h rfl, eventOf, State.pacingExpired, htimer, if_pos (reached_some a s.now hreached)]
    simp [State.queueNotice, hdue]
  case notice =>
    rw [exec_event .pacingTimerExpiry s h rfl, eventOf, State.pacingExpired, htimer, if_pos (reached_some a s.now hreached)]
    simp [State.queueNotice, hdue, hwaits, hsending]

end Sys2Proof.Machine

/-! PROOFS. Instants: moving one and measuring how far it moved (section 4.4 of the scope file, R54). -/

namespace Sys2Proof.Machine

theorem moved_moved (x : Instant) (i j : Int) : moved (moved x i) j = moved x (i + j) := by
  simp only [moved, BitVec.ofInt_add, BitVec.add_assoc]

theorem moved_zero (x : Instant) : moved x 0 = x := by simp [moved]

theorem plus_eq_moved (x : Instant) (n : Nat) : plus x n = moved x n := by
  simp [plus, moved]

theorem minus_eq_moved (x : Instant) (n : Nat) : minus x n = moved x (-(n : Int)) := by
  simp [minus, moved, BitVec.ofInt_neg, BitVec.sub_eq_add_neg]

theorem plus_plus (x : Instant) (a b : Nat) : plus (plus x a) b = plus x (a + b) := by
  simp only [plus_eq_moved, moved_moved, Nat.cast_add]

theorem plus_minus (x : Instant) (n : Nat) : plus (minus x n) n = x := by
  rw [minus_eq_moved, plus_eq_moved, moved_moved, Int.add_left_neg, moved_zero]

/-- How far an instant has moved, counted forward. -/
theorem toNat_moved_sub (x : Instant) (i : Int) : (((moved x i) - x).toNat : Int) = i % 4294967296 := by
  have hsub : moved x i - x = BitVec.ofInt 32 i := by
    rw [moved, BitVec.add_comm, BitVec.add_sub_cancel]
  rw [hsub, BitVec.toNat_ofInt]
  omega

theorem toNat_plus_sub (x : Instant) (n : Nat) : ((plus x n) - x).toNat = n % 4294967296 := by
  have h := toNat_moved_sub x n
  rw [← plus_eq_moved] at h
  omega

/-- The distance from one instant to another leads from the one to the other. -/
theorem moved_distance (x y : Instant) : moved x (distance x y) = y := by
  have hback : BitVec.ofInt 32 ((y - x).toNat : Int) = y - x := by
    have hlt := (y - x).isLt
    refine BitVec.eq_of_toNat_eq ?_
    rw [BitVec.toNat_ofInt]
    omega
  have hwrap : BitVec.ofInt 32 (((y - x).toNat : Int) - 4294967296) = y - x := by
    rw [Int.sub_eq_add_neg, BitVec.ofInt_add, hback]
    simp
  unfold distance
  split
  · rw [moved, hback, BitVec.add_comm, BitVec.sub_add_cancel]
  · rw [moved, hwrap, BitVec.add_comm, BitVec.sub_add_cancel]

theorem atOrBefore_iff (x y : Instant) : atOrBefore x y = true ↔ 0 ≤ distance x y := by
  have hlt := (y - x).isLt
  unfold distance
  split
  next h => exact ⟨fun _ => Int.natCast_nonneg _, fun _ => h⟩
  next h =>
    simp only [atOrBefore, decide_eq_true_eq] at h ⊢
    omega

/-- The distance to a moved instant is how far it was moved, as long as that is a signed 32-bit number. -/
theorem distance_moved (x : Instant) (i : Int) (hlow : -2147483648 ≤ i) (hhigh : i < 2147483648) : distance x (moved x i) = i := by
  have h := toNat_moved_sub x i
  simp only [distance, atOrBefore, decide_eq_true_eq]
  split <;> omega

theorem distance_self (x : Instant) : distance x x = 0 := by
  have h := distance_moved x 0 (by decide) (by decide)
  rwa [moved_zero] at h

theorem eq_of_distance (x y z : Instant) (h : distance x y = distance x z) : y = z := by
  rw [← moved_distance x y, h, moved_distance]

theorem distance_eq_zero_iff (x y : Instant) : distance x y = 0 ↔ x = y :=
  ⟨fun h => eq_of_distance x x y (by rw [h, distance_self]), fun h => h ▸ distance_self x⟩

theorem before_iff (x y : Instant) : before x y = true ↔ 0 < distance x y := by
  have hzero := distance_eq_zero_iff x y
  rw [before, Bool.and_eq_true, atOrBefore_iff, bne_iff_ne]
  constructor
  · rintro ⟨hle, hne⟩
    have := mt hzero.1 hne
    omega
  · intro hlt
    exact ⟨by omega, fun e => by rw [hzero.2 e] at hlt; omega⟩

end Sys2Proof.Machine

/-! PROOFS. The source commands (R129 to R132), and LOAD_SETTINGS (R134, R149, R156). -/

namespace Sys2Proof.Machine

/-! ### TAKE_SOURCE, RELEASE_SOURCE and FREE_SOURCE (R129, R131, R132) -/

section
variable (s : State) (l : ControlList) (i : Fin 16) (target : Byte) (hi : target.toNat = i.val)
include hi

theorem exec_takeSource (h : s.executes l { code := 48, target, data := [] }) (hroom : 32 ≤ l.room) :
    exec (.takeSource target []) s =
      .next ((s.takeSlot i).answered l { code := 48, target, data := [] } .ok
        (toBytes 1 (s.slot i).owner.code ++ sourceImage (s.takeSlot i).settings i ((s.takeSlot i).slot i))) := by
  have htarget := (queueTarget_eq_some_iff target i).2 hi
  have hact : actOf (.takeSource target []) s =
      (s.takeSlot i, toBytes 1 (s.slot i).owner.code ++ sourceImage (s.takeSlot i).settings i ((s.takeSlot i).slot i)) := by
    simp only [actOf, htarget]
  rw [exec_done (.takeSource target []) s l _ h rfl rfl (by simp [refusalOf, htarget, refuseIf]) hroom (by rw [hact]; simp), hact]

theorem exec_releaseSource (h : s.executes l { code := 50, target, data := [] }) :
    exec (.releaseSource target []) s =
      .next (if s.releaseClashes i then s.answered l { code := 50, target, data := [] } .busy []
        else (s.releaseSlot i).answered l { code := 50, target, data := [] } .ok []) := by
  have htarget := (queueTarget_eq_some_iff target i).2 hi
  have hact : actOf (.releaseSource target []) s = (s.releaseSlot i, []) := by simp only [actOf, htarget]
  cases hclash : s.releaseClashes i with
  | true =>
    exact exec_refused (.releaseSource target []) s l _ .busy h rfl rfl (by simp [refusalOf, htarget, refuseIf, slotIs, hclash])
  | false =>
    rw [exec_done (.releaseSource target []) s l _ h rfl rfl (by simp [refusalOf, htarget, refuseIf, slotIs, hclash]) (Nat.zero_le _)
      (by rw [hact]; simp), hact]
    rfl

theorem exec_freeSource (h : s.executes l { code := 51, target, data := [] }) :
    exec (.freeSource target []) s = .next ((s.freeSource i).answered l { code := 51, target, data := [] } .ok []) := by
  have htarget := (queueTarget_eq_some_iff target i).2 hi
  have hact : actOf (.freeSource target []) s = (s.freeSource i, []) := by simp only [actOf, htarget]
  rw [exec_done (.freeSource target []) s l _ h rfl rfl (by simp [refusalOf, htarget, refuseIf]) (Nat.zero_le _)
    (by rw [hact]; simp), hact]

end

/-- A release clashes exactly when a host-owned BEACON entry meets a learned one of its tag and channel (R131). -/
theorem State.releaseClashes_eq_true_iff (s : State) (i : Fin 16) :
    s.releaseClashes i = true ↔
      (s.slot i).owner = .host ∧ ∃ e n tag j f, (s.slot i).entry = some e ∧ e.kind = .beacon n tag
        ∧ (s.slot j).owner = .learn ∧ (s.slot j).entry = some f ∧ f.kind = .beacon n tag := by
  have hlearned (tag : BitVec 48) (n : Nat) : (s.learnedBeacon tag n).isSome = true ↔
      ∃ j f, (s.slot j).owner = .learn ∧ (s.slot j).entry = some f ∧ f.kind = .beacon n tag := by
    rw [Option.isSome_iff_ne_none, Ne, s.learnedBeacon_eq_none_iff]
    push Not
    rfl
  unfold State.releaseClashes
  rw [Bool.and_eq_true, beq_iff_eq]
  refine and_congr_right fun _ => ?_
  cases hentry : (s.slot i).entry with
  | none => simp
  | some e =>
    cases hkind : e.kind with
    | oven low high => simp [hkind]
    | beacon n tag => simp [hkind, hlearned]

/-- Settles O36: the owner that each command finds decides what it does. -/
theorem sourceCommandsMoveOwnership : Obligations.SourceCommandsMoveOwnership := by
  refine ⟨fun s l target data htarget => ⟨fun h => ?takeTarget, fun h => ?releaseTarget, fun h => ?freeTarget⟩,
    fun s l i target hi => ⟨fun h hroom => ⟨fun hlearn => ?takeLearn, fun hhost => ?takeHost⟩,
      fun h => ⟨fun hlearn => ?releaseLearn, fun j e e' n tag hhost he hkind hj he' hkind' => ?releaseClash,
        fun hhost hfree => ?releaseHost⟩,
      fun h => ⟨fun hnone => ?freeNone, fun e he => ⟨?freed, by simp⟩⟩⟩⟩
  case takeTarget =>
    exact exec_refused (.takeSource target data) s l _ .badTarget h rfl rfl
      (by simp [refusalOf, refuseIf, (queueTarget_eq_none_iff target).2 htarget])
  case releaseTarget =>
    exact exec_refused (.releaseSource target data) s l _ .badTarget h rfl rfl
      (by simp [refusalOf, refuseIf, (queueTarget_eq_none_iff target).2 htarget])
  case freeTarget =>
    exact exec_refused (.freeSource target data) s l _ .badTarget h rfl rfl
      (by simp [refusalOf, refuseIf, (queueTarget_eq_none_iff target).2 htarget])
  case takeLearn =>
    have htaken : s.takeSlot i = (s.setSlot i { (s.slot i) with owner := .host }).search false := by rw [State.takeSlot, if_pos hlearn]
    have hslot : ((s.setSlot i { (s.slot i) with owner := .host }).search false).slot i = { (s.slot i) with owner := .host } := by
      rw [State.slot_of_sources (s := s.setSlot i { (s.slot i) with owner := .host }) (by simp), State.slot_setSlot_self]
    have hsettings : ((s.setSlot i { (s.slot i) with owner := .host }).search false).settings = s.settings := by
      simp [State.settings]
    rw [exec_takeSource s l i target hi h hroom, htaken, hslot, hsettings, hlearn]
    rfl
  case takeHost =>
    have htaken : s.takeSlot i = s := by rw [State.takeSlot, if_neg (by simp [hhost])]
    rw [exec_takeSource s l i target hi h hroom, htaken, hhost]
    rfl
  case releaseLearn =>
    have hclash : s.releaseClashes i = false := by simp [State.releaseClashes, hlearn]
    rw [exec_releaseSource s l i target hi h, hclash, State.releaseSlot, if_neg (c := (s.slot i).owner = .host) (by simp [hlearn])]
    rfl
  case releaseClash =>
    have hclash := (s.releaseClashes_eq_true_iff i).2 ⟨hhost, e, n, tag, j, e', he, hkind, hj, he', hkind'⟩
    rw [exec_releaseSource s l i target hi h, if_pos hclash]
  case releaseHost =>
    have hclash : ¬ s.releaseClashes i = true := by
      rw [s.releaseClashes_eq_true_iff i]
      rintro ⟨-, e, n, tag, j, f, he, hkind, hj, hf, hfkind⟩
      exact hfree j e f n tag he hkind hj hf hfkind
    rw [exec_releaseSource s l i target hi h, if_neg hclash, State.releaseSlot, if_pos hhost]
  case freeNone =>
    rw [exec_freeSource s l i target hi h, State.freeSource, hnone]
    rfl
  case freed =>
    rw [exec_freeSource s l i target hi h, State.freeSource, he]
    rfl

/-! ### WRITE_SOURCE (R130) -/

/-- An accepted image has a period that some duration fits, and that fits its field. -/
theorem period_of_readSourceImage {c : Settings} {now : Instant} {data : List Byte} {e : Source}
    (h : readSourceImage c now data = some e) : 0 < e.period ∧ e.period < 4294967296 := by
  unfold readSourceImage at h
  dsimp only at h
  split at h
  case isTrue hrange =>
    obtain ⟨-, hlow, hhigh, -⟩ := hrange
    split at h
    case h_1 =>
      cases h
      have hlt := field_lt data 8 4
      unfold durationBound at hhigh
      dsimp only
      omega
    case h_2 => cases h
  case isFalse => cases h

/-- S aligned to the first check after now: the check comes after now, within one period, and S has moved by whole periods (R130). -/
theorem Source.align_spec (c : Settings) (now : Instant) (e : Source) (hperiod : 0 < e.period) (hfits : e.period < 4294967296) :
    e.align c now = { e with start := (e.align c now).start }
      ∧ (∃ m : Int, (e.align c now).start = moved e.start (m * e.period))
      ∧ 1 ≤ (plus (e.align c now).start (captureOf c e.kind) - now).toNat
      ∧ (plus (e.align c now).start (captureOf c e.kind) - now).toNat ≤ e.period := by
  have hlow := Int.emod_nonneg (distance now (e.checkTime c) - 1) (b := e.period) (by omega)
  have hhigh := Int.emod_lt_of_pos (distance now (e.checkTime c) - 1) (b := e.period) (by omega)
  have hdiv := Int.emod_def (distance now (e.checkTime c) - 1) e.period
  generalize hlead : (distance now (e.checkTime c) - 1) % (e.period : Int) + 1 = lead at *
  have hstart : (e.align c now).start = minus (moved now lead) (captureOf c e.kind) := by rw [← hlead]; rfl
  have hcheck : plus (e.align c now).start (captureOf c e.kind) = moved now lead := by rw [hstart, plus_minus]
  have hforward := toNat_moved_sub now lead
  refine ⟨rfl, ⟨-((distance now (e.checkTime c) - 1) / (e.period : Int)), ?_⟩, ?_, ?_⟩
  · have hsplit : lead = distance now (e.checkTime c) + -((distance now (e.checkTime c) - 1) / (e.period : Int)) * e.period := by
      rw [← hlead, hdiv]
      ring
    rw [hstart, hsplit, ← moved_moved, moved_distance, Source.checkTime, plus_eq_moved, minus_eq_moved, moved_moved, moved_moved]
    congr 1
    ring
  · rw [hcheck]
    omega
  · rw [hcheck]
    omega

/-- Withdrawing reads and writes the record alone. -/
theorem Sources.withdraw_record_congr {x y : Sources} (h : x.record = y.record) (i : Fin 16) :
    (x.withdraw i).record = (y.withdraw i).record := by
  unfold Sources.withdraw
  rw [h]
  split
  · split
    · rfl
    · exact h
  · exact h

/-- Settles O37: the refusals, and the accepted entry aligned, written, handed on and searched for. -/
theorem writeSourceAlignsAHostEntry : Obligations.WriteSourceAlignsAHostEntry := by
  refine ⟨fun s l target data htarget h => ?target, fun s l i target data hi h =>
    ⟨fun hlearn => ?learn, fun hhost hread => ?value, fun e hhost hread => ?written⟩⟩
  case target =>
    exact exec_refused (.writeSource target data) s l _ .badTarget h rfl rfl
      (by simp [refusalOf, refuseIf, (queueTarget_eq_none_iff target).2 htarget])
  case learn =>
    exact exec_refused (.writeSource target data) s l _ .busy h rfl rfl
      (by simp [refusalOf, refuseIf, slotIs, (queueTarget_eq_some_iff target i).2 hi, hlearn])
  case value =>
    exact exec_refused (.writeSource target data) s l _ .badValue h rfl rfl
      (by simp [refusalOf, refuseIf, slotIs, (queueTarget_eq_some_iff target i).2 hi, hhost, State.now, hread])
  case written =>
    have htarget := (queueTarget_eq_some_iff target i).2 hi
    obtain ⟨hperiod, hfits⟩ := period_of_readSourceImage hread
    obtain ⟨halign, hwhole, hafter, hwithin⟩ := e.align_spec s.settings s.clock.now hperiod hfits
    have hact : actOf (.writeSource target data) s = (s.writeSlot i e, []) := by
      simp only [actOf, htarget, State.now, hread]
    have hsources : (s.writeSlot i e).sources =
        (s.setSlot i
          { owner := .host, entry := some (e.align s.settings s.clock.now)
            timer := some ((e.align s.settings s.clock.now).checkTime s.settings), deferred := false }).sources.withdraw i := by
      simp [State.writeSlot]
    have hslots (j : Fin 16) : (s.writeSlot i e).slot j =
        (s.setSlot i
          { owner := .host, entry := some (e.align s.settings s.clock.now)
            timer := some ((e.align s.settings s.clock.now).checkTime s.settings), deferred := false }).slot j := by
      rw [State.slot, hsources, Sources.withdraw_slots, ← State.slot]
    refine ⟨s.writeSlot i e, (e.align s.settings s.clock.now).start, ?_, hwhole, ⟨hafter, hwithin, ?_⟩, fun j hj => ?_, ?_, ?_⟩
    · rw [exec_done (.writeSource target data) s l _ h rfl rfl
        (by simp [refusalOf, refuseIf, slotIs, htarget, hhost, State.now, hread]) (Nat.zero_le _) (by rw [hact]; simp), hact]
    · rw [hslots, State.slot_setSlot_self]
      rfl
    · rw [hslots, State.slot_setSlot_other _ _ _ _ (Ne.symm hj)]
    · rw [hsources]
      exact Sources.withdraw_record_congr (x := State.sources (s.setSlot i _)) (y := s.sources) rfl i
    · rw [hsources]
      rfl

end Sys2Proof.Machine

/-! PROOFS. LOAD_SETTINGS: the record replaced, the entries clamped and re-armed, and the pacing timer (R134, R149, R156). -/

namespace Sys2Proof.Machine

/-! ### Owners stand at every check (R118 to R120) -/

/-- Who owns each slot. -/
def State.owners (s : State) (i : Fin 16) : Owner := (s.slot i).owner

theorem State.owners_setSlot (s : State) (i : Fin 16) (x : Slot) (h : x.owner = (s.slot i).owner) : (s.setSlot i x).owners = s.owners := by
  funext j
  by_cases hj : i = j
  case pos =>
    subst hj
    rw [State.owners, State.slot_setSlot_self, h]
    rfl
  case neg => rw [State.owners, State.slot_setSlot_other s i j x hj]; rfl

@[simp] theorem State.owners_freeSlot (s : State) (i : Fin 16) : (s.freeSlot i).owners = s.owners := by
  funext j
  by_cases hj : i = j
  case pos =>
    subst hj
    rw [State.owners, State.slot_freeSlot_self]
    rfl
  case neg => rw [State.owners, State.slot_freeSlot_other s i j hj]; rfl

@[simp] theorem Track.store_owners (t : Track) (i : Fin 16) (was : Option SourceState) (e : Source) (changed : Bool) :
    (t.store i was e changed).state.owners = t.state.owners := t.state.owners_setSlot i _ rfl

@[simp] theorem Track.advance_owners (t : Track) (i : Fin 16) (e : Source) : (t.advance i e).state.owners = t.state.owners :=
  t.state.owners_setSlot i _ rfl

@[simp] theorem Track.miss_owners (t : Track) (i : Fin 16) (e : Source) : (t.miss i e).state.owners = t.state.owners := by
  unfold Track.miss
  dsimp only
  split
  · split <;> simp [Track.raise]
  · simp

@[simp] theorem Track.judgeOnce_owners (t : Track) (i : Fin 16) : (t.judgeOnce i).state.owners = t.state.owners := by
  unfold Track.judgeOnce
  dsimp only
  split
  · rfl
  · split
    · simp
    · simp
    · simp
    · exact t.state.owners_setSlot i _ rfl
    · simp

@[simp] theorem Track.judgePassed_owners (t : Track) (i : Fin 16) : (t.judgePassed i).state.owners = t.state.owners := by
  unfold Track.judgePassed
  split <;> simp

@[simp] theorem Track.arm_owners (t : Track) (i : Fin 16) : (t.arm i).state.owners = t.state.owners := by
  unfold Track.arm
  dsimp only
  split
  · rfl
  · rw [Track.judgePassed_owners]
    exact t.state.owners_setSlot i _ rfl

@[simp] theorem Track.armAll_owners (t : Track) : t.armAll.state.owners = t.state.owners :=
  allSlots.foldlRecOn (motive := fun u : Track => u.state.owners = t.state.owners) Track.arm rfl fun u hu i _ => (u.arm_owners i).trans hu

/-! ### Check timers re-armed for instants still to come (R118, R134) -/

/-- A slot with its check timer armed for its entry, if it holds one. -/
def Slot.rearmed (c : Settings) (x : Slot) : Slot :=
  match x.entry with
  | none => x
  | some e => x.arm c e

theorem Slot.rearmed_none (c : Settings) (x : Slot) (h : x.entry = none) : x.rearmed c = x := by rw [Slot.rearmed, h]

theorem Slot.rearmed_some (c : Settings) (x : Slot) (e : Source) (h : x.entry = some e) : x.rearmed c = x.arm c e := by rw [Slot.rearmed, h]

/-- The check time of a slot's entry is still to come. -/
def Slot.checkWaits (c : Settings) (now : Instant) (x : Slot) : Prop := ∀ e, x.entry = some e → atOrBefore (e.checkTime c) now = false

theorem State.setSlot_slot (s : State) (i : Fin 16) : s.setSlot i (s.slot i) = s := by
  simp [State.setSlot, State.slot]

/-- Arming a check still to come changes the slot alone. -/
theorem Track.arm_of_waits (t : Track) (i : Fin 16) (h : (t.state.slot i).checkWaits t.state.settings t.state.clock.now) :
    t.arm i = { t with state := t.state.setSlot i ((t.state.slot i).rearmed t.state.settings) } := by
  unfold Track.arm
  dsimp only
  split
  case h_1 hnone =>
    rw [Slot.rearmed_none _ _ hnone, State.setSlot_slot]
  case h_2 e he =>
    rw [Slot.rearmed_some _ _ e he]
    refine Track.judgePassed_of_waits _ i ?_
    rw [State.slot_setSlot_self]
    exact h e he

/-- Arming the checks of several slots, each once. -/
theorem Track.foldl_arm_of_waits (l : List (Fin 16)) (hl : l.Nodup) (t : Track)
    (h : ∀ i ∈ l, (t.state.slot i).checkWaits t.state.settings t.state.clock.now) :
    ∃ sources, l.foldl Track.arm t = { t with state := { t.state with sources } } ∧ sources.record = t.state.sources.record
      ∧ ∀ i, sources.slots[i] = if i ∈ l then (t.state.slot i).rearmed t.state.settings else t.state.slot i := by
  induction l generalizing t with
  | nil => exact ⟨t.state.sources, rfl, rfl, fun i => rfl⟩
  | cons a l ih =>
    obtain ⟨ha, hl⟩ := List.nodup_cons.1 hl
    have harm := t.arm_of_waits a (h a List.mem_cons_self)
    have hslot (i : Fin 16) (hi : i ≠ a) : (t.arm a).state.slot i = t.state.slot i := by
      rw [harm, State.slot_setSlot_other _ _ _ _ hi.symm]
    have hsettings : (t.arm a).state.settings = t.state.settings := by rw [harm]; rfl
    obtain ⟨sources, heq, hrecord, hslots⟩ := ih hl (t.arm a) fun i hi => by
      have hia : i ≠ a := fun e => ha (e ▸ hi)
      rw [hslot i hia, hsettings, (t.arm_keeps a).2.1]
      exact h i (List.mem_cons_of_mem _ hi)
    refine ⟨sources, ?_, ?_, fun i => ?_⟩
    · rw [List.foldl_cons, heq, harm]
      rfl
    · rw [hrecord, harm]
      rfl
    · rw [hslots, hsettings]
      by_cases hia : i = a
      case pos =>
        subst hia
        rw [if_neg ha, if_pos List.mem_cons_self, harm, State.slot_setSlot_self]
      case neg => simp only [hslot i hia, List.mem_cons, hia, false_or]

theorem Track.armAll_of_waits (t : Track) (h : ∀ i, (t.state.slot i).checkWaits t.state.settings t.state.clock.now) :
    ∃ sources, t.armAll = { t with state := { t.state with sources } } ∧ sources.record = t.state.sources.record
      ∧ ∀ i : Fin 16, sources.slots[i] = (t.state.slot i).rearmed t.state.settings := by
  obtain ⟨sources, heq, hrecord, hslots⟩ := Track.foldl_arm_of_waits allSlots allSlots_nodup t fun i _ => h i
  exact ⟨sources, heq, hrecord, fun i => by rw [hslots, if_pos (mem_allSlots i)]⟩

/-! ### Settings applied (R134, R149) -/

theorem State.slot_clampSources (s : State) (c : Settings) (i : Fin 16) :
    ((s.withSettings c).clampSources).slot i = { (s.slot i) with entry := (s.slot i).entry.map (Source.clamp c) } := by
  simp [State.slot, State.clampSources, State.settings, State.withSettings]

/-- Sources are their sixteen slots and the record. -/
theorem Sources.ext_slots {x y : Sources} (hslots : ∀ i : Fin 16, x.slots[i] = y.slots[i]) (hrecord : x.record = y.record) : x = y := by
  obtain ⟨xs, xr⟩ := x
  obtain ⟨ys, yr⟩ := y
  dsimp only at hslots hrecord
  have hvector : xs = ys := Vector.ext fun i hi => hslots ⟨i, hi⟩
  rw [hvector, hrecord]

/-- Where no check time has passed, accepted settings leave each entry clamped and re-armed, and the whole busy set is one addition. -/
theorem State.applySettings_of_waits (s : State) (c : Settings)
    (h : ∀ i e, (s.slot i).entry = some e → atOrBefore (plus e.start (captureOf c e.kind)) s.clock.now = false) :
    (s.applySettings c).sources.record = s.sources.record
      ∧ (∀ i, (s.applySettings c).slot i = Slot.rearmed c { (s.slot i) with entry := (s.slot i).entry.map (Source.clamp c) })
      ∧ s.applySettings c =
          State.rearmPacing (State.search
            (State.addBusy { s with sources := (s.applySettings c).sources, engine := { s.engine with settings := c } } .whole) false) := by
  have hwaits (i : Fin 16) : (((Track.begin (s.withSettings c).clampSources).state).slot i).checkWaits c s.clock.now := by
    intro e he
    rw [show (Track.begin (s.withSettings c).clampSources).state = (s.withSettings c).clampSources from rfl, s.slot_clampSources c i] at he
    obtain ⟨e₀, he₀, rfl⟩ := Option.map_eq_some_iff.1 he
    exact h i e₀ he₀
  obtain ⟨sources, heq, hrecord, hslots⟩ := Track.armAll_of_waits (Track.begin (s.withSettings c).clampSources) hwaits
  have happlied : s.applySettings c =
      State.rearmPacing (State.search (State.addBusy { s with sources, engine := { s.engine with settings := c } } .whole) false) := by
    rw [State.applySettings, heq]
    rfl
  have hsources : (s.applySettings c).sources = sources := by rw [happlied]; simp
  refine ⟨by rw [hsources, hrecord]; rfl, fun i => ?_, by rw [hsources, happlied]⟩
  rw [State.slot, hsources, hslots, ← s.slot_clampSources c i]
  rfl

theorem State.rearmPacing_idle (u : State) (h : u.events.pacing = none ∨ u.events.lastNotice = none) : u.rearmPacing = u := by
  unfold State.rearmPacing
  obtain hp | hm := h
  · rw [hp]
  · rw [hm]
    cases u.events.pacing <;> rfl

/-- A running pacing timer is armed anew, and expires at once when its new instant has passed (R156). -/
theorem State.rearmPacing_running (u : State) (p m : Instant) (hp : u.events.pacing = some p) (hm : u.events.lastNotice = some m) :
    let a := plus m (u.settings.noticeGap * 1000)
    (atOrBefore a u.clock.now = false → u.rearmPacing = { u with events := { u.events with pacing := some a } })
      ∧ (atOrBefore a u.clock.now = true →
          u.rearmPacing = State.queueNotice { u with events := { u.events with pacing := none } }
          ∧ (u.events.noticeDue = false → u.rearmPacing = { u with events := { u.events with pacing := none } })) := by
  intro a
  have hrearmed : u.rearmPacing =
      if atOrBefore a u.clock.now then State.queueNotice { u with events := { u.events with pacing := none } }
      else { u with events := { u.events with pacing := some a } } := by
    unfold State.rearmPacing
    rw [hp, hm]
  refine ⟨fun hwaits => ?_, fun hpassed => ⟨?_, fun hdue => ?_⟩⟩
  · rw [hrearmed, if_neg (by simp [hwaits])]
  · rw [hrearmed, if_pos hpassed]
  · rw [hrearmed, if_pos hpassed]
    simp [State.queueNotice, hdue]

/-- A busy-set addition adds CANCEL frames to the south output, and touches nothing else of the south link (R95). -/
@[simp] theorem State.addBusy_txdata (s : State) (x : Addition) : (s.addBusy x).south.txdata = s.south.txdata := by
  unfold State.addBusy
  split <;> rfl

@[simp] theorem State.addBusyAll_txdata (s : State) (xs : List Addition) : (s.addBusyAll xs).south.txdata = s.south.txdata :=
  xs.foldlRecOn (motive := fun u : State => u.south.txdata = s.south.txdata) State.addBusy rfl
    fun u hu x _ => (u.addBusy_txdata x).trans hu

/-- Settles O45: the record replaced, the laws kept, and the exact state where no check time has passed. -/
theorem loadSettingsReplacesTheRecord : Obligations.LoadSettingsReplacesTheRecord := by
  refine fun s l target data h => ⟨fun hread => ?refused, fun c hread => ?applied⟩
  case refused =>
    exact exec_refused (.loadSettings target data) s l _ .badValue h rfl rfl (by simp [refusalOf, refuseIf, hread])
  case applied =>
    have hact : actOf (.loadSettings target data) s = (s.applySettings c, []) := by simp only [actOf, hread]
    have hengine : (s.applySettings c).engine = { s.engine with settings := c } := by simp [State.applySettings, State.withSettings]
    have howners : (s.applySettings c).owners = s.owners := by
      have hclamped : ((s.withSettings c).clampSources).owners = s.owners := by
        funext i
        rw [State.owners, s.slot_clampSources c i]
        rfl
      have harmed := (Track.begin (s.withSettings c).clampSources).armAll_owners
      rw [show (Track.begin (s.withSettings c).clampSources).state = (s.withSettings c).clampSources from rfl, hclamped] at harmed
      rw [← harmed]
      funext i
      rw [State.owners, State.slot_of_sources (s := (Track.begin (s.withSettings c).clampSources).armAll.state)
        (t := s.applySettings c) (by simp [State.applySettings]) i]
      rfl
    refine ⟨s.applySettings c, ?_, hengine, fun hlawful i e he => ?_, fun i => congrFun howners i, by simp, by simp, by simp, by simp, by simp,
      by simp [State.applySettings], by simp [State.applySettings], by simp [State.applySettings], fun hfree => ?_, ?_,
      fun u => ⟨u.rearmPacing_idle, u.rearmPacing_running⟩⟩
    · rw [exec_done (.loadSettings target data) s l _ h rfl rfl (by simp [refusalOf, refuseIf, hread]) (Nat.zero_le _)
        (by rw [hact, hengine]), hact]
    · have hkept := s.applySettings_sourcesKept (R := True) (D := False) c ⟨fun _ => hlawful, False.elim⟩ (consistent_of_readSettingsImage hread)
      obtain ⟨-, -, hentries⟩ := hkept.1 trivial
      have hsettings : (s.applySettings c).settings = c := by rw [State.settings, hengine]
      exact hsettings ▸ hentries i e he
    · obtain ⟨hrecord, hslots, -⟩ := s.applySettings_of_waits c fun i e he => by simp [hfree i] at he
      refine Sources.ext_slots (fun i => ?_) hrecord
      show (s.applySettings c).slot i = s.slot i
      rw [hslots, Slot.rearmed_none _ _ (by simp [hfree i]), hfree i]
      rw [Option.map_none, ← hfree i]
    · intro clamped check hwaits
      obtain ⟨hrecord, hslots, heq⟩ := s.applySettings_of_waits c hwaits
      refine ⟨fun i hnone => ?_, fun i e he => ?_, hrecord, heq⟩
      · rw [hslots, Slot.rearmed_none _ _ (by simp [hnone]), hnone]
        rw [Option.map_none, ← hnone]
      · rw [hslots, Slot.rearmed_some _ _ (e.clamp c) (by simp [he]), he]
        rfl

end Sys2Proof.Machine

/-! PROOFS. Which heads the release gate offers, and how (5.2 to 5.4). -/

namespace Sys2Proof.Machine

/-! ### Airtime and required time (R71, R72, R74) -/

theorem ceilDiv_mono {m n : Nat} (h : m ≤ n) (d : Nat) : ceilDiv m d ≤ ceilDiv n d :=
  Nat.div_le_div_right (Nat.sub_le_sub_right (Nat.add_le_add_right h d) 1)

theorem saturate_mono {m n : Nat} (h : m ≤ n) (limit : Nat) : saturate limit m ≤ saturate limit n := by
  unfold saturate
  split <;> split <;> omega

/-- More bits take at least as long on the air. -/
theorem airtime_mono (r : Rate) {l l' : List Nat} (h : (l.map subframeCost).sum ≤ (l'.map subframeCost).sum) : airtime r l ≤ airtime r l' :=
  saturate_mono (ceilDiv_mono (Nat.add_le_add_left (Nat.mul_le_mul_right _ (ceilDiv_mono (Nat.add_le_add_right h _) _)) _) _) _

theorem Descriptor.required_mono (d : Descriptor) (r : Rate) (ack : Nat) {j k : Nat} (h : j ≤ k) :
    d.required r ack j ≤ d.required r ack k := by
  refine Nat.add_le_add_right (airtime_mono r ?_) ack
  exact (((List.take_sublist_take_left h).map _).map _).sum_le_sum fun _ _ => Nat.zero_le _

theorem Descriptor.largestFit_le (d : Descriptor) (r : Rate) (ack W n : Nat) : d.largestFit r ack W n ≤ n := by
  induction n with
  | zero => exact Nat.le_refl 0
  | succ n ih =>
    unfold Descriptor.largestFit
    split
    · exact Nat.le_refl _
    · exact Nat.le_succ_of_le ih

theorem Descriptor.required_largestFit (d : Descriptor) (r : Rate) (ack W n : Nat) (hpos : 1 ≤ d.largestFit r ack W n) :
    d.required r ack (d.largestFit r ack W n) ≤ W := by
  induction n with
  | zero => exact absurd hpos (by simp [Descriptor.largestFit])
  | succ n ih =>
    unfold Descriptor.largestFit at hpos ⊢
    split
    case isTrue hfits => exact hfits
    case isFalse hnot =>
      rw [if_neg hnot] at hpos
      exact ih hpos

/-- No larger number of subframes fits (R74). -/
theorem Descriptor.lt_required_of_largestFit_lt (d : Descriptor) (r : Rate) (ack W n k : Nat) (hlt : d.largestFit r ack W n < k)
    (hk : k ≤ n) : W < d.required r ack k := by
  induction n with
  | zero => exact absurd (Nat.lt_of_lt_of_le hlt hk) (Nat.not_lt_zero _)
  | succ n ih =>
    unfold Descriptor.largestFit at hlt
    split at hlt
    case isTrue => exact absurd (Nat.lt_of_lt_of_le hlt hk) (Nat.lt_irrefl _)
    case isFalse hnot =>
      rcases Nat.lt_or_eq_of_le hk with hlower | rfl
      · exact ih hlt (Nat.le_of_lt_succ hlower)
      · exact Nat.lt_of_not_le hnot

/-! ### The judgement by the window status (Table 5-3) -/

/-- The ring check, spelled out (R67). -/
theorem State.reserved_iff (s : State) (u : Instant) :
    s.reserved u = true ↔ s.ring.running = true ∧ atOrBefore (s.ring.entry s.ring.current).start u = true
      ∧ before u (plus (s.ring.entry s.ring.current).start (s.ring.entry s.ring.current).duration) = true := by
  unfold State.reserved Ring.inside Ring.active
  cases s.ring.running with
  | false => simp
  | true =>
    rw [← RingEntry.stop]
    simp only [if_true, true_and]
    split
    case isTrue hin => simpa using hin
    case isFalse hout => simpa using hout

section
variable (s : State) (q : Fin 16) (d : Descriptor) (r : Rate)

/-- The head of an OPEN queue that may be offered is offered as it is judged (R49). -/
theorem State.offer_of_free (hhead : (s.queue q).head = some d) (hrate : s.rate d.rate = some r) (hopen : (s.queue q).state = .opened)
    (hfree : d.outstanding = none) (hpending : d.pendingEntries ≠ []) (hon : s.south.radio.isOn = true) :
    s.offer q = (s.judge (s.queue q) d r).map fun v => (d, r, v) := by
  ext ⟨d', r', v⟩
  rw [s.offer_eq_some_iff, hhead]
  simp only [Option.map_eq_some_iff, Option.some.injEq, Prod.mk.injEq]
  constructor
  · rintro ⟨rfl, hr, -, -, -, -, hv⟩
    obtain rfl := Option.some.inj (hrate.symm.trans hr)
    exact ⟨v, hv, rfl, rfl, rfl⟩
  · rintro ⟨v', hv, rfl, rfl, rfl⟩
    exact ⟨rfl, hrate, hopen, hfree, hon, hpending, hv⟩

theorem State.judgeUngated_reserved (h : s.reserved s.releaseStart = true) : s.judgeUngated d = none := if_pos h

theorem State.judgeUngated_unreserved (h : ¬ s.reserved s.releaseStart = true) :
    s.judgeUngated d = some { kind := .ungated, count := d.pendingEntries.length } := if_neg h

variable (x : Queue)

theorem State.judge_closed (h : s.window.status = .closedRadio) : s.judge x d r = none := by
  unfold State.judge
  rw [h]

/-- An UNGATED queue and a saturated channel release without a window (R76). -/
theorem State.judge_ungated (h : s.window.status = .saturated ∨ x.config.mode = .ungated ∧ s.window.status ≠ .closedRadio) :
    s.judge x d r = s.judgeUngated d := by
  unfold State.judge
  rcases h with hstatus | ⟨hmode, hstatus⟩
  · rw [hstatus]
  · cases hs : s.window.status with
    | closedRadio => exact absurd hs hstatus
    | saturated => rfl
    | blocked => simp [hmode]
    | opened => simp [hmode]

theorem State.judge_blocked (hmode : x.config.mode ≠ .ungated) (h : s.window.status = .blocked) : s.judge x d r = none := by
  unfold State.judge
  rw [h]
  simp [hmode]

variable (h : Instant)

/-- A GATED or FRESH head has no verdict at or after the horizon. -/
theorem State.judge_past (hmode : x.config.mode ≠ .ungated) (hstatus : s.window.status = .opened) (hhorizon : s.window.horizon = some h)
    (hpast : before s.releaseStart h = false) : s.judge x d r = none := by
  simp [State.judge, State.windowLength, hstatus, hmode, hhorizon, hpast]

/-- A GATED or FRESH head before the horizon is judged by the window that is left. -/
theorem State.judge_window (hmode : x.config.mode ≠ .ungated) (hstatus : s.window.status = .opened) (hhorizon : s.window.horizon = some h)
    (hbefore : before s.releaseStart h = true) : s.judge x d r = judgeGated x d r (h - s.releaseStart).toNat := by
  simp [State.judge, State.windowLength, hstatus, hmode, hhorizon, hbefore]

/-- A fitting verdict comes of a window before its horizon. -/
theorem State.window_of_fitting (v : Verdict) (hjudge : s.judge x d r = some v) (hfitting : v.kind = .fitting) :
    ∃ h, s.window.horizon = some h ∧ before s.releaseStart h = true
      ∧ judgeGated x d r (h - s.releaseStart).toNat = some v := by
  have hungated : s.judgeUngated d ≠ some v := by
    intro hu
    unfold State.judgeUngated at hu
    split at hu
    · exact absurd hu (by simp)
    · rw [← Option.some.inj hu] at hfitting
      exact ReleaseKind.noConfusion hfitting
  by_cases hfree : s.window.status = .saturated ∨ x.config.mode = .ungated ∧ s.window.status ≠ .closedRadio
  case pos => exact absurd (s.judge_ungated d r x hfree ▸ hjudge) hungated
  case neg =>
    obtain ⟨hsaturated, hmode⟩ := not_or.1 hfree
    cases hs : s.window.status with
    | closedRadio => exact absurd (s.judge_closed d r x hs ▸ hjudge) (by simp)
    | saturated => exact absurd hs hsaturated
    | blocked =>
      have hm : x.config.mode ≠ .ungated := fun e => hmode ⟨e, by simp [hs]⟩
      exact absurd (s.judge_blocked d r x hm hs ▸ hjudge) (by simp)
    | opened =>
      have hm : x.config.mode ≠ .ungated := fun e => hmode ⟨e, by simp [hs]⟩
      cases hh : s.window.horizon with
      | none => simp [State.judge, State.windowLength, hs, hm, hh] at hjudge
      | some h =>
        cases hb : before s.releaseStart h with
        | false => exact absurd (s.judge_past d r x h hm hs hh hb ▸ hjudge) (by simp)
        | true => exact ⟨h, rfl, hb, s.judge_window d r x h hm hs hh hb ▸ hjudge⟩

end

/-- What a fitting verdict of a window carries (R74). -/
theorem count_of_fitting (x : Queue) (d : Descriptor) (r : Rate) (W : Nat) (v : Verdict) (h : judgeGated x d r W = some v)
    (hfitting : v.kind = .fitting) :
    d.required r x.config.ack 1 ≤ W ∧ v.count = d.largestFit r x.config.ack W d.pendingEntries.length := by
  unfold judgeGated at h
  split_ifs at h with hone
  · exact ⟨hone, by rw [← Option.some.inj h]⟩
  · rw [← Option.some.inj h] at hfitting
    exact absurd hfitting (by decide)

/-- Settles O31: Table 5-3 row by row, each by the lemma for its window status. -/
theorem judgementFollowsTheReleaseMode : Obligations.JudgementFollowsTheReleaseMode := by
  intro s q d r n hhead hrate
  refine ⟨fun hnot => ?_, ?_⟩
  · refine Option.eq_none_iff_forall_ne_some.2 fun ⟨d', r', v⟩ h => hnot ?_
    obtain ⟨hd, -, hopen, hfree, -⟩ := (s.offer_eq_some_iff q d' r' v).1 h
    exact ⟨hopen, Option.some.inj (hhead.symm.trans hd) ▸ hfree⟩
  intro hopen hfree hpending hradio mode u entry covered whole required
  have hon : s.south.radio.isOn = true := (Radio.isOn_iff _).2 ⟨n, hradio⟩
  have hoffer := s.offer_of_free q d r hhead hrate hopen hfree hpending hon
  refine ⟨fun hclosed => ?_, fun hungated => ⟨fun hcovered => ?_, fun hclear => ?_⟩, fun hmode hblocked => ?_,
    fun hmode hstatus h hhorizon => ?_⟩
  · rw [hoffer, s.judge_closed d r _ hclosed]; rfl
  · rw [hoffer, s.judge_ungated d r _ hungated, s.judgeUngated_reserved d ((s.reserved_iff u).2 hcovered)]; rfl
  · rw [hoffer, s.judge_ungated d r _ hungated, s.judgeUngated_unreserved d (fun hr => hclear ((s.reserved_iff u).1 hr))]; rfl
  · rw [hoffer, s.judge_blocked d r _ hmode hblocked]; rfl
  have hpast (hb : before u h = false) : s.offer q = none := by
    rw [hoffer, s.judge_past d r _ h hmode hstatus hhorizon hb]; rfl
  have hwindow (hb : before u h = true) : s.offer q = (judgeGated (s.queue q) d r (h - u).toNat).map fun v => (d, r, v) := by
    rw [hoffer, s.judge_window d r _ h hmode hstatus hhorizon hb]
  have hlate : (d.aged || (s.queue q).config.mode == .gated || d.waited) = true ↔ d.aged = true ∨ mode = .gated ∨ d.waited = true := by
    simp [mode, or_assoc]
  refine ⟨hpast, fun hb hfits hserved => ?_, fun hb hfits hnot => ?_, fun hb hlong haged => ?_, fun hb hlong hyoung => ?_⟩
  · refine ⟨_, d.largestFit_pos r _ (h - u).toNat _ hfits (List.length_pos_iff.2 hpending), ?_⟩
    rw [hwindow hb, judgeGated, if_pos hfits, if_pos (hlate.2 hserved)]
    rfl
  · rw [hwindow hb, judgeGated, if_pos hfits, if_neg (fun e => hnot (hlate.1 e))]
    rfl
  · rw [hwindow hb, judgeGated, if_neg (Nat.not_le_of_lt hlong), if_pos haged]
    rfl
  · rw [hwindow hb, judgeGated, if_neg (Nat.not_le_of_lt hlong), if_neg (by simp [hyoung])]
    rfl

/-- A time no longer than the way from u to the horizon ends at the horizon when it begins at or after u. -/
theorem atOrBefore_minus (u h : Instant) (n : Nat) (hb : before u h = true) (hn : n ≤ (h - u).toNat) : atOrBefore u (minus h n) = true := by
  have hlt : (h - u).toNat < 2147483648 := by
    simp only [before, atOrBefore, Bool.and_eq_true, decide_eq_true_eq] at hb
    exact hb.1
  have hsub : minus h n - u = (h - u) - BitVec.ofNat 32 n := by
    unfold minus
    bv_omega
  rw [atOrBefore, decide_eq_true_iff, hsub]
  bv_omega

/-- Settles O29: required time is monotone, the fitting count is the largest fit, and the latest start lies in the window. -/
theorem fittingReleaseStaysInItsWindow : Obligations.FittingReleaseStaysInItsWindow := by
  refine ⟨fun d r ack j k hjk => d.required_mono r ack hjk, fun s q d r v hoffer hfitting => ?_⟩
  obtain ⟨-, -, -, -, -, hpending, hjudge⟩ := (s.offer_eq_some_iff q d r v).1 hoffer
  obtain ⟨h, hhorizon, hbefore, hgated⟩ := s.window_of_fitting d r _ v hjudge hfitting
  refine ⟨h, hhorizon, hbefore, ?_⟩
  intro required W
  obtain ⟨hone, hcount⟩ := count_of_fitting _ d r W v hgated hfitting
  have hpos : 1 ≤ v.count := hcount ▸ d.largestFit_pos r _ W _ hone (List.length_pos_iff.2 hpending)
  have hfits : required v.count ≤ W := by
    rw [hcount] at hpos ⊢
    exact d.required_largestFit r _ W _ hpos
  refine ⟨hpos, hcount ▸ d.largestFit_le r _ W _, fun k hk => (d.required_mono r _ hk).trans hfits, fun hless => ?_,
    atOrBefore_minus _ h _ hbefore hfits, ?_⟩
  · exact d.lt_required_of_largestFit_lt r _ W _ _ (by rw [← hcount]; exact Nat.lt_succ_self _) hless
  · simp [plus, minus]

end Sys2Proof.Machine

/-! PROOFS. The release arbiter: the choice by level and pointer, and the run (R50, R51, R78 to R84). -/

namespace Sys2Proof.Machine

/-! ### The scan (R50) -/

/-- The queue at a place of the scan. -/
theorem getElem_scanFrom (p : Fin 16) (j : Fin 16) : (scanFrom p)[j.val]'(j.isLt) = p + (j + 1) := by
  revert p j
  decide

theorem scan_place (p q : Fin 16) : p + ((q - p - 1) + 1) = q := by
  revert p q
  decide

theorem place_scan (p j : Fin 16) : p + (j + 1) - p - 1 = j := by
  revert p j
  decide

theorem mem_scanFrom (p q : Fin 16) : q ∈ scanFrom p := by
  have hplace := getElem_scanFrom p (q - p - 1)
  rw [scan_place] at hplace
  exact List.mem_iff_getElem.2 ⟨_, _, hplace⟩

section
variable (s : State) (level : Fin 4)

/-- The first requesting queue after the pointer is found (R50). -/
theorem State.firstAtLevel_eq_some (q : Fin 16) (hrequest : (s.queue q).request = true) (hlevel : (s.queue q).config.priority = level.val)
    (hfirst : ∀ p, (s.queue p).request = true → (s.queue p).config.priority = level.val →
      (q - s.pointers[level] - 1).val ≤ (p - s.pointers[level] - 1).val) :
    s.firstAtLevel level = some q := by
  refine List.find?_eq_some_iff_getElem.2 ⟨by simp [hrequest, hlevel], (q - s.pointers[level] - 1).val, (q - s.pointers[level] - 1).isLt,
    ?_, fun j hj => ?_⟩
  · rw [getElem_scanFrom, scan_place]
  · have hlt := hj.trans (q - s.pointers[level] - 1).isLt
    have hplace : (scanFrom s.pointers[level])[j]'hlt = s.pointers[level] + (⟨j, hlt⟩ + 1) := getElem_scanFrom s.pointers[level] ⟨j, hlt⟩
    rw [Bool.not_eq_true', ← Bool.not_eq_true, Bool.and_eq_true, beq_iff_eq]
    rintro ⟨hr, hl⟩
    have hle := hfirst _ hr hl
    have hback : (scanFrom s.pointers[level])[j]'hlt - s.pointers[level] - 1 = ⟨j, hlt⟩ := by rw [hplace, place_scan]
    exact absurd (hle.trans_eq (congrArg Fin.val hback)) (Nat.not_le_of_lt hj)

/-- A level without requests offers none (R50). -/
theorem State.firstAtLevel_eq_none (h : ∀ p, (s.queue p).request = true → (s.queue p).config.priority ≠ level.val) :
    s.firstAtLevel level = none := by
  refine List.find?_eq_none.2 fun p _ hp => ?_
  rw [Bool.and_eq_true, beq_iff_eq] at hp
  exact h p hp.1 hp.2

theorem State.request_of_firstAtLevel (q : Fin 16) (h : s.firstAtLevel level = some q) : (s.queue q).request = true := by
  have hp := List.find?_some h
  rw [Bool.and_eq_true] at hp
  exact hp.1

/-- The choice is the first queue of the highest level that requests (R50). -/
theorem State.chosen_eq_some (q : Fin 16) (hq : s.firstAtLevel level = some q)
    (habove : ∀ p, (s.queue p).request = true → (s.queue p).config.priority ≤ level.val) : s.chosen = some (level, q) := by
  have hnone (l : Fin 4) (hl : level < l) : s.firstAtLevel l = none :=
    s.firstAtLevel_eq_none l fun p hp he => absurd (habove p hp) (by rw [he]; exact Nat.not_le_of_lt hl)
  unfold State.chosen
  match level with
  | 0 => simp [hnone 3 (by decide), hnone 2 (by decide), hnone 1 (by decide), hq]
  | 1 => simp [hnone 3 (by decide), hnone 2 (by decide), hq]
  | 2 => simp [hnone 3 (by decide), hq]
  | 3 => simp [hq]

/-- Nothing is chosen when no queue requests. -/
theorem State.request_of_chosen_eq_none (h : s.chosen = none) (hlevel : ∀ p, (s.queue p).request = true → (s.queue p).config.priority ≤ 3)
    (p : Fin 16) : (s.queue p).request = false := by
  by_contra hp
  rw [Bool.not_eq_false] at hp
  have hlt : (s.queue p).config.priority < 4 := Nat.lt_succ_of_le (hlevel p hp)
  have hall := List.findSome?_eq_none_iff.1 h (⟨(s.queue p).config.priority, hlt⟩ : Fin 4)
    (by
      generalize (⟨_, hlt⟩ : Fin 4) = l
      revert l
      decide)
  rw [Option.map_eq_none_iff] at hall
  have hplace := mem_scanFrom s.pointers[(⟨(s.queue p).config.priority, hlt⟩ : Fin 4)] p
  exact absurd (List.find?_eq_none.1 hall p hplace) (by simp [hp])

theorem State.request_of_chosen_eq_some (q : Fin 16) (h : s.chosen = some (level, q)) : (s.queue q).request = true := by
  obtain ⟨l, -, hl⟩ := List.exists_of_findSome?_eq_some h
  rw [Option.map_eq_some_iff] at hl
  obtain ⟨q', hq', he⟩ := hl
  rw [Prod.mk.injEq] at he
  exact he.2 ▸ s.request_of_firstAtLevel l q' hq'

end

/-! ### A run without a releasable head (R51) -/

/-- How many queues request. -/
def State.requests (s : State) : Nat := (allQueues.filter fun p => (s.queue p).request).length

theorem State.requests_le (s : State) : s.requests ≤ 16 := List.length_filter_le _ _

/-- A queue whose request is lost. -/
def Queue.idle (x : Queue) : Queue := { x with request := false }

section
variable (s : State) (q : Fin 16)

theorem State.requests_idle (h : (s.queue q).request = true) : (s.modQueue q Queue.idle).requests < s.requests := by
  have hqueue (p : Fin 16) : ((s.modQueue q Queue.idle).queue p).request = (decide (p ≠ q) && (s.queue p).request) := by
    by_cases hp : q = p
    · subst hp
      simp [Queue.idle]
    · rw [s.queue_modQueue_other q p _ hp]
      simp [Ne.symm hp]
  simp only [State.requests, hqueue]
  rw [← List.filter_filter]
  refine List.length_filter_lt_length_iff_exists.2 ⟨q, List.mem_filter.2 ⟨mem_allQueues q, h⟩, by simp⟩

theorem State.offer_idle (p : Fin 16) : (s.modQueue q Queue.idle).offer p = s.offer p := by
  have hsame : ((s.modQueue q Queue.idle).queue p).head = (s.queue p).head ∧ ((s.modQueue q Queue.idle).queue p).state = (s.queue p).state
      ∧ ((s.modQueue q Queue.idle).queue p).config = (s.queue p).config := by
    by_cases hp : q = p
    · subst hp
      rw [State.queue_modQueue_self]
      exact ⟨rfl, rfl, rfl⟩
    · rw [s.queue_modQueue_other q p _ hp]
      exact ⟨rfl, rfl, rfl⟩
  obtain ⟨hhead, hstate, hconfig⟩ := hsame
  exact State.offer_congr p hhead hstate hconfig rfl rfl rfl rfl rfl

end

/-- A run in which no chosen head can be released ends with every request lost, and nothing else is changed (R51). -/
theorem State.arbitrate_idle (n : Nat) (s : State) (hcount : s.requests ≤ n)
    (h : ∀ p, (s.queue p).request = true → (s.queue p).config.priority ≤ 3 ∧ s.offer p = none) :
    State.arbitrate n s = { s with queues := Vector.ofFn fun p : Fin 16 => (s.queue p).idle } := by
  have hstays (hquiet : ∀ p, (s.queue p).request = false) : s = { s with queues := Vector.ofFn fun p : Fin 16 => (s.queue p).idle } :=
    s.eq_of_queues s (fun p => (s.queue p).idle) rfl fun p => by rw [Queue.idle, ← hquiet p]
  induction n generalizing s with
  | zero =>
    refine hstays fun p => ?_
    have hnone := List.length_eq_zero_iff.1 (Nat.le_zero.1 hcount)
    simpa using List.filter_eq_nil_iff.1 hnone p (mem_allQueues p)
  | succ n ih =>
    unfold State.arbitrate
    split
    case h_1 hnone => exact hstays fun p => s.request_of_chosen_eq_none hnone (fun p hp => (h p hp).1) p
    case h_2 level q hsome =>
      have hrequest := s.request_of_chosen_eq_some level q hsome
      rw [(h q hrequest).2]
      change State.arbitrate n (s.modQueue q Queue.idle) = _
      have hqueue (p : Fin 16) : ((s.modQueue q Queue.idle).queue p).idle = (s.queue p).idle := by
        by_cases hp : q = p
        · subst hp
          rw [State.queue_modQueue_self]
          rfl
        · rw [s.queue_modQueue_other q p _ hp]
      have hless := s.requests_idle q hrequest
      rw [ih (s.modQueue q Queue.idle) (by omega) ?asks ?quiet]
      case asks =>
        intro p hp
        rw [s.offer_idle q p]
        by_cases hpq : q = p
        · subst hpq
          rw [State.queue_modQueue_self] at hp
          exact Bool.noConfusion hp
        · rw [s.queue_modQueue_other q p _ hpq] at hp ⊢
          exact h p hp
      case quiet =>
        exact fun hquiet => State.eq_of_queues _ _ (fun p => ((s.modQueue q Queue.idle).queue p).idle) rfl
          fun p => by rw [Queue.idle, ← hquiet p]
      simp only [hqueue]
      rfl

/-! ### A release (R79 to R84) -/

/-- What a search leaves of a queue: its marks of a window-opened event, and its request judged afresh (R60). -/
theorem State.queue_search (s : State) (opened : Bool) (q : Fin 16) :
    ∃ u : State, (u.queue q = s.queue q ∨ u.queue q = (s.queue q).markWaited)
      ∧ (s.search opened).queue q = { u.queue q with request := (u.offer q).isSome } := by
  unfold State.search
  split
  case isTrue =>
    dsimp only
    refine ⟨_, ?_, State.queue_reevaluateAll _ q⟩
    split
    · exact Or.inr (by rw [State.queue_windowOpened, State.queue_setFlagIf]; rfl)
    · exact Or.inl (by rw [State.queue_setFlagIf]; rfl)
  case isFalse => exact ⟨{ s with window := Window.powerOn }, Or.inl rfl, State.queue_reevaluateAll _ q⟩

/-- What marking leaves of a queue's head. -/
theorem Queue.markWaited_cons (x : Queue) (d : Descriptor) (rest : List Descriptor) (h : x.descriptors = d :: rest) :
    ∃ waited, x.markWaited.head = some { d with waited } ∧ x.markWaited.forcedFlag = x.forcedFlag := by
  unfold Queue.markWaited
  split
  · rw [x.modHead_of_cons d rest _ h]
    exact ⟨true, rfl, rfl⟩
  · exact ⟨d.waited, x.head_of_cons d rest h, rfl⟩

/-- An outstanding head is not offered (R49). -/
theorem State.offer_of_outstanding (s : State) (q : Fin 16) (d : Descriptor) (hhead : (s.queue q).head = some d)
    (hout : d.outstanding ≠ none) : s.offer q = none := by
  refine Option.eq_none_iff_forall_ne_some.2 fun ⟨d', r', v⟩ h => hout ?_
  obtain ⟨hd, -, -, hfree, -⟩ := (s.offer_eq_some_iff q d' r' v).1 h
  exact Option.some.inj (hhead.symm.trans hd) ▸ hfree

section
variable (s : State) (q : Fin 16) (d : Descriptor) (r : Rate) (v : Verdict)

/-- What a release leaves of its queue: the head with the release on it, and no request. -/
theorem State.queue_releaseHead (hhead : (s.queue q).head = some d) :
    (∃ waited, ((s.releaseHead q d r v).queue q).head =
        some { d.release s.gate.assignId (d.included v.count) (v.kind == .forced) with waited })
      ∧ ((s.releaseHead q d r v).queue q).forcedFlag = ((s.queue q).forcedFlag || v.kind == .forced)
      ∧ ((s.releaseHead q d r v).queue q).request = false := by
  obtain ⟨rest, hlist⟩ := Queue.exists_of_head d _ hhead
  have hqueue := s.queue_withRelease q d r v rest hlist
  have hdescriptors := congrArg Queue.descriptors hqueue
  have hflag := congrArg Queue.forcedFlag hqueue
  dsimp only at hdescriptors hflag
  obtain ⟨u, hu, hresult⟩ := (s.withRelease q d r v).queue_search false q
  have hmarked : ∃ waited, (u.queue q).head = some { d.release s.gate.assignId (d.included v.count) (v.kind == .forced) with waited }
      ∧ (u.queue q).forcedFlag = ((s.queue q).forcedFlag || v.kind == .forced) := by
    rcases hu with hu | hu
    · refine ⟨d.waited, ?_, ?_⟩
      · rw [hu]; exact Queue.head_of_cons _ _ rest hdescriptors
      · rw [hu]; exact hflag
    · obtain ⟨waited, hw, hf⟩ := Queue.markWaited_cons _ _ rest hdescriptors
      exact ⟨waited, by rw [hu]; exact hw, by rw [hu, hf]; exact hflag⟩
  obtain ⟨waited, hw, hf⟩ := hmarked
  rw [State.releaseHead_eq, hresult]
  refine ⟨⟨waited, hw⟩, hf, ?_⟩
  rw [State.offer_of_outstanding u q _ hw (by simp [Descriptor.release])]
  rfl

/-- A forced release sets FRAME_FORCED (R79). -/
theorem State.flag_releaseHead_forced (hforced : v.kind = .forced) : (s.releaseHead q d r v).flag .frameForced = true := by
  rw [State.releaseHead_eq]
  refine (flagLaw .frameForced).search _ ?_ false
  change State.flag (State.setFlagIf _ (v.kind == .forced) .frameForced) .frameForced = true
  rw [State.flag_setFlagIf]
  simp [hforced]

theorem State.releaseHead_gate :
    (s.releaseHead q d r v).gate =
      { s.gate with
        table := s.gate.table ++ [(s.releaseRecord q d r v).entry d s.now]
        committed := some (plus s.releaseStart (d.required r (s.queue q).config.ack v.count))
        nextId := s.gate.assignId + 1 } := by
  rw [State.releaseHead_eq, ← State.withRelease_gate]
  simp

theorem State.releaseHead_south :
    (s.releaseHead q d r v).south = { s.south with txdata := s.south.txdata ++ [s.releaseRecord q d r v] } := by
  rw [State.releaseHead_eq]
  simp [State.withRelease]

end

/-- The record of a release, by its kind (R78). -/
theorem State.releaseRecord_eq (s : State) (q : Fin 16) (d : Descriptor) (r : Rate) (v : Verdict) :
    s.releaseRecord q d r v =
      { id := s.gate.assignId, queue := q, tag := d.tag, rate := d.rate, kind := v.kind, ordinals := d.included v.count
        earliest := s.releaseStart
        latest := (if v.kind = .fitting then s.window.horizon else none).map fun h => minus h (d.required r (s.queue q).config.ack v.count)
        windowEnd := if v.kind = .fitting then s.window.horizon else none
        airtime := d.airtime r v.count } := by
  unfold State.releaseRecord
  by_cases hfitting : v.kind = .fitting <;> simp [hfitting]

/-! ### The run (R50) -/

/-- The part with the radio MAC's ready line sampled high. -/
def State.sampled (s : State) : State := s.withSouth { s.south with partnerReady := true }

theorem State.offer_sampled (s : State) (q : Fin 16) : s.sampled.offer q = s.offer q :=
  State.offer_congr q rfl rfl rfl rfl rfl rfl rfl rfl

theorem SouthLink.freeForRelease_iff (l : SouthLink) :
    l.freeForRelease = true ↔ l.synced = true ∧ l.partnerReady = true ∧ l.txdata = []
      ∧ ∀ x id, l.sending = some x → x.item ≠ .txdata id := by
  unfold SouthLink.freeForRelease
  rw [Bool.and_eq_true, Bool.and_eq_true, Bool.and_eq_true, List.isEmpty_iff, and_assoc, and_assoc]
  refine and_congr_right fun _ => and_congr_right fun _ => and_congr_right fun _ => ?_
  cases l.sending with
  | none => simp
  | some x =>
    cases hitem : x.item with
    | txdata id => simp [hitem]
    | cancel id =>
      refine iff_of_true ?_ fun y i hy => ?_
      · dsimp only
        rw [hitem]
      · rw [← Option.some.inj hy, hitem]
        exact fun e => SouthItem.noConfusion e

section
variable (s : State) (hrunning : s.inReset = false)
include hrunning

/-- A run with a free link and a free entry chooses. -/
theorem exec_releaseArbiterRun_free (hsynced : s.south.synced = true) (htxdata : s.south.txdata = [])
    (hsending : ∀ x id, s.south.sending = some x → x.item ≠ .txdata id) (hroom : s.gate.table.length < 2) :
    exec (.releaseArbiterRun true) s = .next (State.arbitrate 17 (s.sampled)) := by
  rw [exec_event _ s hrunning rfl]
  refine congrArg Host.Outcome.next ((if_pos hroom).trans (if_pos ?_))
  exact (SouthLink.freeForRelease_iff _).2 ⟨hsynced, rfl, htxdata, hsending⟩

/-- A run without them only samples the ready line. -/
theorem exec_releaseArbiterRun_busy (ready : Bool)
    (h : ready = false ∨ s.south.synced = false ∨ s.south.txdata ≠ [] ∨ 2 ≤ s.gate.table.length) :
    exec (.releaseArbiterRun ready) s = .next (s.withSouth { s.south with partnerReady := ready }) := by
  rw [exec_event _ s hrunning rfl]
  refine congrArg Host.Outcome.next ?_
  by_cases hroom : s.gate.table.length < 2
  case neg => exact if_neg hroom
  case pos =>
    refine (if_pos hroom).trans (if_neg fun hfree => ?_)
    obtain ⟨hsynced, hready, htxdata, -⟩ := (SouthLink.freeForRelease_iff _).1 hfree
    rcases h with h | h | h | h
    · exact absurd (h.symm.trans hready) (by decide)
    · exact absurd (h.symm.trans hsynced) (by decide)
    · exact h htxdata
    · exact absurd hroom (Nat.not_lt_of_le h)

end

/-- Settles O28: the choice by level and pointer and its release, the run that finds nothing, and the run that may not choose. -/
theorem arbiterReleasesTheChosenHead : Obligations.ArbiterReleasesTheChosenHead := by
  refine ⟨fun s level q d r v hrunning hsynced htxdata hsending hroom hrequest hlevel habove hfirst hoffer => ?_,
    fun s hrunning hsynced htxdata hsending hroom hnone => ?_, fun s ready hrunning h => exec_releaseArbiterRun_busy s hrunning ready h⟩
  · intro id ordinals u required windowEnd latest
    have hhead := ((s.offer_eq_some_iff q d r v).1 hoffer).1
    have hchosen := (s.sampled).chosen_eq_some level q
      (State.firstAtLevel_eq_some _ level q hrequest hlevel hfirst) habove
    refine ⟨State.releaseHead { s.sampled with pointers := s.pointers.set level q } q d r v,
      (exec_releaseArbiterRun_free s hrunning hsynced htxdata hsending hroom).trans (congrArg Host.Outcome.next ?_), ?_⟩
    · unfold State.arbitrate
      rw [hchosen]
      dsimp only
      rw [s.offer_sampled q, hoffer]
      rfl
    generalize hw : { s.sampled with pointers := s.pointers.set level q } = w
    have hrecord := w.releaseRecord_eq q d r v
    obtain ⟨⟨waited, hreleased⟩, hforcedFlag, hrequest⟩ := w.queue_releaseHead q d r v (hw ▸ hhead)
    have hgate := w.releaseHead_gate q d r v
    have hsouth := w.releaseHead_south q d r v
    rw [hrecord] at hgate hsouth
    refine ⟨by simp [← hw], hgate.trans (by rw [← hw]; rfl), hsouth.trans ?_, ⟨_, hreleased, rfl, rfl, by rw [← hw]; rfl, ?_, ?_, rfl, rfl, rfl⟩,
      hforcedFlag.trans (by rw [← hw]; rfl), w.flag_releaseHead_forced q d r v, hrequest, ?_⟩
    · rw [← hw]
      simp only [State.sampled, State.withSouth, htxdata]
      rfl
    · refine List.map_congr_left fun e _ => ?_
      simp only [Subframe.release, List.contains_iff_mem]
      rfl
    · exact saturate_eq_min _ _
    · rw [← hw]
      simp [State.sampled]
  · rw [exec_releaseArbiterRun_free s hrunning hsynced htxdata hsending hroom,
      State.arbitrate_idle 17 s.sampled ((State.requests_le _).trans (by decide)) fun p hp => ⟨(hnone p hp).1, (s.offer_sampled p).trans (hnone p hp).2⟩]
    rfl

end Sys2Proof.Machine

/-! PROOFS. Record images read back (11.6). -/

namespace Sys2Proof.Machine

/-! ### Fields of joined bytes -/

theorem toBytes_one (v : Nat) : toBytes 1 v = [BitVec.ofNat 8 v] := by simp [toBytes]

section
variable (v : Nat) (x : Byte) (rest : List Byte) {k o : Nat} (n : Nat)

@[simp] theorem field_toBytes_append : field (toBytes k v ++ rest) 0 k = v % 256 ^ k := by
  rw [field, List.drop_zero, List.take_left' (toBytes_length k v), ofBytes_toBytes_mod]

@[simp] theorem field_toBytes : field (toBytes k v) 0 k = v % 256 ^ k := by
  rw [← List.append_nil (toBytes k v), field_toBytes_append]

@[simp] theorem field_skip_toBytes (h : k ≤ o) : field (toBytes k v ++ rest) o n = field rest (o - k) n := by
  have hsplit : o = (toBytes k v).length + (o - k) := by rw [toBytes_length]; omega
  rw [field, hsplit, List.drop_append, Nat.add_sub_cancel_left, List.drop_eq_nil_of_le (Nat.le_add_right _ _), List.nil_append]
  simp [field]

@[simp] theorem field_skip_byte (h : 1 ≤ o) : field (x :: rest) o n = field rest (o - 1) n := by
  obtain ⟨m, rfl⟩ := Nat.exists_eq_add_of_le h
  rw [Nat.add_comm 1 m, field, List.drop_succ_cons, Nat.add_sub_cancel]
  rfl

@[simp] theorem byteAt_byte : byteAt (x :: rest) 0 = x := rfl

@[simp] theorem byteAt_skip_byte (h : 1 ≤ o) : byteAt (x :: rest) o = byteAt rest (o - 1) := by
  obtain ⟨m, rfl⟩ := Nat.exists_eq_add_of_le h
  simp [byteAt, Nat.add_comm 1 m]

@[simp] theorem byteAt_toBytes_append : byteAt (toBytes 1 v ++ rest) 0 = BitVec.ofNat 8 v := by rw [toBytes_one]; rfl

@[simp] theorem byteAt_toBytes : byteAt (toBytes 1 v) 0 = BitVec.ofNat 8 v := by rw [toBytes_one]; rfl

@[simp] theorem byteAt_skip_toBytes (h : k ≤ o) : byteAt (toBytes k v ++ rest) o = byteAt rest (o - k) := by
  simp only [byteAt, List.getD_eq_getElem?_getD]
  rw [List.getElem?_append_right (by rwa [toBytes_length]), toBytes_length]

end

/-! ### Bytes of the fields read -/

section
variable {data rest : List Byte} {o k : Nat}

/-- A field's bytes, and those after it. -/
theorem toBytes_field_append (h : o + k ≤ data.length) (hrest : rest = data.drop (o + k)) :
    toBytes k (field data o k) ++ rest = data.drop o := by
  have hlength : ((data.drop o).take k).length = k := by
    rw [List.length_take, List.length_drop]
    omega
  have hbytes := toBytes_ofBytes ((data.drop o).take k)
  rw [hlength] at hbytes
  rw [field, hbytes, hrest, ← List.drop_drop, List.take_append_drop]

theorem toBytes_field_last (h : data.length = o + k) : toBytes k (field data o k) = data.drop o := by
  have happend := toBytes_field_append (rest := []) (h.symm.le) (List.drop_eq_nil_of_le h.le).symm
  rwa [List.append_nil] at happend

theorem byteAt_cons (h : o < data.length) (hrest : rest = data.drop (o + 1)) : byteAt data o :: rest = data.drop o := by
  rw [hrest, List.drop_eq_getElem_cons h, byteAt, List.getD_eq_getElem _ _ h]

/-- A signed byte's byte, and those after it. -/
theorem levelAt_cons (h : o < data.length) (hrest : rest = data.drop (o + 1)) : BitVec.ofInt 8 (levelAt data o) :: rest = data.drop o := by
  rw [levelAt, BitVec.ofInt_toInt]
  exact byteAt_cons h hrest

end

/-! ### Settings (R149) -/

theorem settingsImage_settingsOf (data : List Byte) (h : data.length = 31) : settingsImage (settingsOf data) = data := by
  have hstart : settingsImage (settingsOf data) = data.drop 0 := by
    simp only [settingsImage, List.append_assoc, List.cons_append, List.nil_append, settingsOf]
    iterate 8 refine toBytes_field_append (by omega) ?_
    iterate 2 refine levelAt_cons (by omega) ?_
    iterate 7 refine toBytes_field_append (by omega) ?_
    exact toBytes_field_last (by omega)
  rwa [List.drop_zero] at hstart

/-- A level is a signed byte. -/
theorem bmod_level (i : Int) (hlow : -95 ≤ i) (hhigh : i ≤ -30) : i.bmod 256 = i := by
  refine Int.bmod_eq_of_le ?_ ?_ <;> norm_num <;> omega

theorem settingsOf_settingsImage (c : Settings) (h : c.consistent = true) : settingsOf (settingsImage c) = c := by
  simp only [Settings.consistent, Bool.and_eq_true, decide_eq_true_eq] at h
  obtain ⟨lead, trail, ceiling, period, periodMin, periodMax, burstMin, burstMax, on, off, oven, beacon, tail, step, ovenLock, beaconLock, miss, gap⟩ := c
  simp only [settingsOf, levelAt, settingsImage, List.append_assoc, List.cons_append, List.nil_append, Settings.mk.injEq]
  dsimp only at h
  have hon : on.bmod 256 = on := bmod_level on (by omega) (by omega)
  have hoff : off.bmod 256 = off := bmod_level off (by omega) (by omega)
  simp
  omega

/-! ### Queue configurations (R40) -/

theorem toBytes_releaseMode {b : Byte} {mode : ReleaseMode} (h : releaseMode b = some mode) : toBytes 1 mode.code = [b] := by
  rw [toBytes_one]
  refine congrArg (fun x => [x]) (BitVec.eq_of_toNat_eq ?_)
  unfold releaseMode at h
  split at h <;> cases h <;> simp_all [ReleaseMode.code]

theorem toBytes_reportMode {b : Byte} {report : ReportMode} (h : reportMode b = some report) : toBytes 1 report.code = [b] := by
  rw [toBytes_one]
  refine congrArg (fun x => [x]) (BitVec.eq_of_toNat_eq ?_)
  unfold reportMode at h
  split at h <;> cases h <;> simp_all [ReportMode.code]

theorem releaseMode_code (mode : ReleaseMode) : releaseMode (BitVec.ofNat 8 mode.code) = some mode := by
  cases mode <;> rfl

theorem reportMode_code (report : ReportMode) : reportMode (BitVec.ofNat 8 report.code) = some report := by
  cases report <;> rfl

theorem configImage_of_readQueueConfig {data : List Byte} {c : QueueConfig} (h : readQueueConfig data = some c) : configImage c = data := by
  unfold readQueueConfig at h
  dsimp only at h
  split at h
  case isFalse => cases h
  case isTrue hranges =>
    have hlength := hranges.1
    split at h
    case h_2 => cases h
    case h_1 mode report hmode hreport =>
      cases h
      have hstart : configImage { priority := field data 0 1, depth := field data 1 2, hold := field data 3 2, ack := field data 5 2, retry := field data 7 1, mode, report } = data.drop 0 := by
        simp only [configImage, toBytes_releaseMode hmode, toBytes_reportMode hreport, List.append_assoc]
        iterate 5 refine toBytes_field_append (by omega) ?_
        refine byteAt_cons (by omega) (byteAt_cons (by omega) ?_)
        exact (List.drop_eq_nil_of_le hlength.le).symm
      rwa [List.drop_zero] at hstart

theorem readQueueConfig_configImage (c : QueueConfig) (hpriority : c.priority ≤ 3) (hmin : 1 ≤ c.depth) (hmax : c.depth ≤ 1024)
    (hhold : 1 ≤ c.hold) (hheld : c.hold ≤ 1000) (hack : c.ack ≤ 500) (hretry : c.retry ≤ 15) : readQueueConfig (configImage c) = some c := by
  have hlength : (configImage c).length = 10 := by simp [configImage]
  have hfields : field (configImage c) 0 1 = c.priority ∧ field (configImage c) 1 2 = c.depth ∧ field (configImage c) 3 2 = c.hold
      ∧ field (configImage c) 5 2 = c.ack ∧ field (configImage c) 7 1 = c.retry := by
    simp only [configImage, List.append_assoc]
    simp
    omega
  have hmodes : byteAt (configImage c) 8 = BitVec.ofNat 8 c.mode.code ∧ byteAt (configImage c) 9 = BitVec.ofNat 8 c.report.code := by
    simp only [configImage, List.append_assoc]
    simp
  obtain ⟨hp, hd, hh, ha, hr⟩ := hfields
  unfold readQueueConfig
  dsimp only
  rw [hp, hd, hh, ha, hr, if_pos ⟨hlength, hpriority, hmin, hmax, hhold, hheld, hack, hretry⟩, hmodes.1, hmodes.2, releaseMode_code,
    reportMode_code]

/-! ### Rates (R69) -/

theorem rateImage_of_readRateImage {data : List Byte} {r : Rate} (h : readRateImage data = some r) : rateImage (some r) = 1 :: data := by
  unfold readRateImage at h
  dsimp only at h
  split at h
  case isFalse => cases h
  case isTrue hranges =>
    have hlength := hranges.1
    cases h
    have hstart : toBytes 1 (field data 0 1) ++ (toBytes 2 (field data 1 2) ++ (toBytes 2 (field data 3 2) ++ toBytes 1 (field data 5 1)))
        = data.drop 0 := by
      iterate 3 refine toBytes_field_append (by omega) ?_
      exact toBytes_field_last (by omega)
    rw [List.drop_zero] at hstart
    simp only [rateImage, List.append_assoc, hstart]
    rfl

theorem readRateImage_rateImage (r : Rate) (hpreamble : r.preamble ≤ 100) (hmin : 1000 ≤ r.symbol) (hmax : r.symbol ≤ 16000)
    (hbits : 6 ≤ r.bits) (hbitsMax : r.bits ≤ 4000) (hfixed : r.fixedBits ≤ 64) : readRateImage ((rateImage (some r)).drop 1) = some r := by
  have himage : (rateImage (some r)).drop 1 = toBytes 1 r.preamble ++ (toBytes 2 r.symbol ++ (toBytes 2 r.bits ++ toBytes 1 r.fixedBits)) := by
    simp only [rateImage, List.append_assoc]
    exact List.drop_left' (toBytes_length 1 1)
  have hfields : field ((rateImage (some r)).drop 1) 0 1 = r.preamble ∧ field ((rateImage (some r)).drop 1) 1 2 = r.symbol
      ∧ field ((rateImage (some r)).drop 1) 3 2 = r.bits ∧ field ((rateImage (some r)).drop 1) 5 1 = r.fixedBits := by
    rw [himage]
    simp
    omega
  obtain ⟨hp, hs, hb, hf⟩ := hfields
  have hlength : ((rateImage (some r)).drop 1).length = 6 := by rw [himage]; simp
  rw [readRateImage_inRange _ hlength (by unfold rateInRange; rw [hp, hs, hb, hf]; exact ⟨hpreamble, hmin, hmax, hbits, hbitsMax, hfixed⟩),
    hp, hs, hb, hf]

/-! ### Ring entries (R139) -/

/-- The three flags of a ring entry stand in bits of their own. -/
theorem ringFlags_bits (v w l : Bool) :
    (BitVec.ofNat 8 (bit 0 v + bit 1 w + bit 2 l))[0] = v ∧ (BitVec.ofNat 8 (bit 0 v + bit 1 w + bit 2 l))[1] = w
      ∧ (BitVec.ofNat 8 (bit 0 v + bit 1 w + bit 2 l))[2] = l := by
  cases v <;> cases w <;> cases l <;> exact ⟨rfl, rfl, rfl⟩

theorem readRingEntry_ringEntryImage (e : RingEntry) (h : e.duration ≤ 65535) :
    readRingEntry (ringEntryImage e) = { e with loadTimer := none, stale := false } := by
  obtain ⟨valid, wrap, last, start, duration, label, timer, stale⟩ := e
  obtain ⟨hvalid, hwrap, hlast⟩ := ringFlags_bits valid wrap last
  have hduration : duration % 65536 = duration := Nat.mod_eq_of_lt (Nat.lt_succ_of_le h)
  have hstart : start.toNat % 4294967296 = start.toNat := Nat.mod_eq_of_lt start.isLt
  simp only [readRingEntry, ringEntryImage, instantBytes, bitAt, instantAt, List.append_assoc, List.cons_append, List.nil_append]
  simp [hvalid, hwrap, hlast, hduration, hstart]

/-! ### Source entries (R130) -/

/-- What R130 accepts of a source image's kind. -/
def sourceKindAccepted (c : Settings) (data : List Byte) : Prop :=
  (field data 0 1 = 0 ∧ c.ovenPeriodMin ≤ field data 8 4 ∧ field data 8 4 ≤ c.ovenPeriodMax ∧ 1 ≤ field data 16 1
      ∧ field data 16 1 ≤ field data 17 1 ∧ field data 17 1 ≤ 14)
    ∨ (field data 0 1 = 1 ∧ field data 8 4 % 1024 = 0 ∧ 10 ≤ field data 8 4 / 1024 ∧ field data 8 4 / 1024 ≤ 1000 ∧ 1 ≤ field data 16 1
      ∧ field data 16 1 ≤ 14)

theorem byteAt_toNat (data : List Byte) (o : Nat) : (byteAt data o).toNat = field data o 1 := by
  unfold byteAt field
  rcases Nat.lt_or_ge o data.length with hlt | hge
  · rw [List.getD_eq_getElem _ _ hlt, List.drop_eq_getElem_cons hlt, List.take_succ_cons, List.take_zero, ofBytes_singleton]
  · rw [List.getD_eq_default _ _ hge, List.drop_eq_nil_of_le hge]
    rfl

theorem readSourceKind_eq (c : Settings) (data : List Byte) :
    (sourceKindAccepted c data → readSourceKind c data (field data 8 4) =
        some (if field data 0 1 = 0 then .oven (field data 16 1) (field data 17 1)
          else .beacon (field data 16 1) (BitVec.ofNat 48 (field data 18 6))))
      ∧ (¬ sourceKindAccepted c data → readSourceKind c data (field data 8 4) = none) := by
  unfold readSourceKind
  dsimp only
  rw [byteAt_toNat]
  constructor
  · rintro (⟨hkind, hranges⟩ | ⟨hkind, hranges⟩)
    · rw [hkind]
      exact if_pos hranges
    · rw [hkind]
      exact if_pos hranges
  · intro hnot
    split
    case h_1 hkind => exact if_neg fun hranges => hnot (Or.inl ⟨hkind, hranges⟩)
    case h_2 hkind => exact if_neg fun hranges => hnot (Or.inr ⟨hkind, hranges⟩)
    case h_3 => rfl

theorem sourceState_eq (data : List Byte) :
    (1 ≤ field data 2 1 ∧ field data 2 1 ≤ 3 → sourceState (byteAt data 2) =
        some (if field data 2 1 = 1 then .acquiring else if field data 2 1 = 2 then .locked else .coasting))
      ∧ (¬ (1 ≤ field data 2 1 ∧ field data 2 1 ≤ 3) → sourceState (byteAt data 2) = none) := by
  unfold sourceState
  rw [byteAt_toNat]
  generalize field data 2 1 = n
  match n with
  | 0 | 1 | 2 | 3 => simp
  | n + 4 => exact ⟨fun h => absurd h.2 (by omega), fun _ => rfl⟩

/-- The image of a source entry, read (R130). -/
theorem readSourceImage_eq (c : Settings) (now : Instant) (data : List Byte) :
    (data.length = 30 ∧ 64 ≤ field data 12 4 ∧ field data 12 4 + (c.guardLead + c.guardTrail + 256) ≤ field data 8 4
        ∧ (distance now (BitVec.ofNat 32 (field data 4 4))).natAbs < 1073741824 ∧ 1 ≤ field data 2 1 ∧ field data 2 1 ≤ 3
        ∧ sourceKindAccepted c data →
      readSourceImage c now data = some
        { kind := if field data 0 1 = 0 then .oven (field data 16 1) (field data 17 1)
            else .beacon (field data 16 1) (BitVec.ofNat 48 (field data 18 6))
          state := if field data 2 1 = 1 then .acquiring else if field data 2 1 = 2 then .locked else .coasting
          start := BitVec.ofNat 32 (field data 4 4), period := field data 8 4, duration := field data 12 4
          matchCount := field data 24 1, missRun := 0, matched := false })
      ∧ (¬ (data.length = 30 ∧ 64 ≤ field data 12 4 ∧ field data 12 4 + (c.guardLead + c.guardTrail + 256) ≤ field data 8 4
        ∧ (distance now (BitVec.ofNat 32 (field data 4 4))).natAbs < 1073741824 ∧ 1 ≤ field data 2 1 ∧ field data 2 1 ≤ 3
        ∧ sourceKindAccepted c data) → readSourceImage c now data = none) := by
  obtain ⟨hkind, hnokind⟩ := readSourceKind_eq c data
  obtain ⟨hstate, hnostate⟩ := sourceState_eq data
  unfold readSourceImage
  dsimp only
  constructor
  · rintro ⟨hlength, hmin, hmax, hnear, hlow, hhigh, haccepted⟩
    have hbound : field data 12 4 ≤ durationBound c (field data 8 4) := by unfold durationBound; omega
    rw [if_pos ⟨hlength, hmin, hbound, hnear⟩, hkind haccepted, hstate ⟨hlow, hhigh⟩]
    rfl
  · intro hnot
    split
    case isFalse => rfl
    case isTrue hranges =>
      obtain ⟨hlength, hmin, hbound, hnear⟩ := hranges
      have hmax : field data 12 4 + (c.guardLead + c.guardTrail + 256) ≤ field data 8 4 := by unfold durationBound at hbound; omega
      by_cases haccepted : sourceKindAccepted c data
      · rw [hnostate fun hs => hnot ⟨hlength, hmin, hmax, hnear, hs.1, hs.2, haccepted⟩]
        split
        case h_1 he => cases he
        case h_2 => rfl
      · rw [hnokind haccepted]

/-- The image of an entry, behind its slot's number. -/
def entryImage (c : Settings) (owner : Owner) (e : Source) : List Byte :=
  toBytes 1 e.kind.code ++ (toBytes 1 owner.code ++ (toBytes 1 e.state.code ++ (toBytes 1 (bit 0 e.matched) ++ (instantBytes e.start
    ++ (toBytes 4 e.period ++ (toBytes 4 e.duration ++ (sourceKindBytes e.kind ++ (toBytes 1 e.matchCount ++ (toBytes 1 e.missRun
    ++ instantBytes (e.checkTime c))))))))))

theorem SourceKind.code_lt (k : SourceKind) : k.code < 256 := by cases k <;> simp [SourceKind.code]

theorem Owner.code_lt (o : Owner) : o.code < 256 := by cases o <;> decide

theorem SourceState.code_lt (st : SourceState) : st.code < 256 := by cases st <;> decide

theorem sourceImage_of_entry (c : Settings) (i : Fin 16) (x : Slot) (e : Source) (h : x.entry = some e) :
    sourceImage c i x = toBytes 1 i.val ++ entryImage c x.owner e := by
  simp only [sourceImage, h, entryImage, List.append_assoc]

section
variable (c : Settings) (owner : Owner) (e : Source)

theorem entryImage_length : (entryImage c owner e).length = 30 := by
  cases hkind : e.kind <;> simp [entryImage, hkind, sourceKindBytes, instantBytes]

/-- The fields of an entry's image that do not hang on its kind. -/
theorem field_entryImage (hperiod : e.period < 4294967296) (hduration : e.duration < 4294967296) (hcount : e.matchCount ≤ 255)
    (hmiss : e.missRun ≤ 32) :
    field (entryImage c owner e) 0 1 = e.kind.code ∧ field (entryImage c owner e) 1 1 = owner.code
      ∧ field (entryImage c owner e) 2 1 = e.state.code ∧ field (entryImage c owner e) 3 1 = (if e.matched then 1 else 0)
      ∧ field (entryImage c owner e) 4 4 = e.start.toNat ∧ field (entryImage c owner e) 8 4 = e.period
      ∧ field (entryImage c owner e) 12 4 = e.duration ∧ field (entryImage c owner e) 24 1 = e.matchCount
      ∧ field (entryImage c owner e) 25 1 = e.missRun ∧ field (entryImage c owner e) 26 4 = (plus e.start (captureOf c e.kind)).toNat := by
  have hinstant (t : Instant) : t.toNat % 4294967296 = t.toNat := Nat.mod_eq_of_lt t.isLt
  have hkind := e.kind.code_lt
  have howner := owner.code_lt
  have hstate := e.state.code_lt
  have hbit : bit 0 e.matched = if e.matched then 1 else 0 := rfl
  have hmatched : (if e.matched then 1 else 0) < 256 := by split <;> decide
  cases hk : e.kind <;> rw [hk] at hkind <;>
    simp [entryImage, hk, sourceKindBytes, instantBytes, Source.checkTime, hinstant, Nat.mod_eq_of_lt, hkind, howner, hstate, hperiod,
      hduration, Nat.lt_succ_of_le hcount, hmiss.trans_lt, hbit, hmatched]

/-- The span, or the channel and the tag. -/
theorem field_kind_entryImage :
    (∀ low high, e.kind = .oven low high → field (entryImage c owner e) 16 1 = low % 256 ∧ field (entryImage c owner e) 17 1 = high % 256)
      ∧ ∀ n tag, e.kind = .beacon n tag → field (entryImage c owner e) 16 1 = n % 256
        ∧ field (entryImage c owner e) 18 6 = tag.toNat := by
  refine ⟨fun low high hk => ?_, fun n tag hk => ?_⟩
  · simp [entryImage, hk, sourceKindBytes, instantBytes]
  · have htag : tag.toNat % 281474976710656 = tag.toNat := Nat.mod_eq_of_lt tag.isLt
    simp [entryImage, hk, sourceKindBytes, instantBytes, htag]

/-- A lawful entry's period and duration are numbers of 4 bytes. -/
theorem Source.period_lt_of_lawful (hc : c.consistent = true) (h : e.lawful c) : e.period < 4294967296 ∧ e.duration < 4294967296 := by
  obtain ⟨-, hmax, -, -, hkind⟩ := h
  have hbounds := c.consistent_bounds hc
  cases hk : e.kind with
  | oven low high => rw [hk] at hkind; dsimp only at hkind; omega
  | beacon n tag => rw [hk] at hkind; dsimp only at hkind; omega

/-- A lawful entry reads back from its image, with its miss run and its mark clear (R130). -/
theorem readSourceImage_entryImage (now : Instant) (hc : c.consistent = true) (h : e.lawful c)
    (hnear : (distance now e.start).natAbs < 1073741824) :
    readSourceImage c now (entryImage c owner e) = some { e with missRun := 0, matched := false } := by
  obtain ⟨hperiod, hduration⟩ := e.period_lt_of_lawful c hc h
  obtain ⟨hmin, hmax, hcount, hmiss, hkind⟩ := h
  obtain ⟨h0, -, h2, -, h4, h8, h12, h24, -, -⟩ := field_entryImage c owner e hperiod hduration hcount hmiss
  obtain ⟨hoven, hbeacon⟩ := field_kind_entryImage c owner e
  have hstart : (BitVec.ofNat 32 (field (entryImage c owner e) 4 4) : Instant) = e.start := by rw [h4]; simp
  have hstate : (if field (entryImage c owner e) 2 1 = 1 then SourceState.acquiring
      else if field (entryImage c owner e) 2 1 = 2 then .locked else .coasting) = e.state := by
    rw [h2]
    cases e.state <;> rfl
  have hrange : 1 ≤ field (entryImage c owner e) 2 1 ∧ field (entryImage c owner e) 2 1 ≤ 3 := by
    rw [h2]
    cases e.state <;> decide
  have hread : sourceKindAccepted c (entryImage c owner e)
      ∧ (if field (entryImage c owner e) 0 1 = 0 then SourceKind.oven (field (entryImage c owner e) 16 1) (field (entryImage c owner e) 17 1)
        else .beacon (field (entryImage c owner e) 16 1) (BitVec.ofNat 48 (field (entryImage c owner e) 18 6))) = e.kind := by
    unfold sourceKindAccepted
    rw [h0, h8]
    cases hk : e.kind with
    | oven low high =>
      obtain ⟨h16, h17⟩ := hoven low high hk
      rw [hk] at hkind
      obtain ⟨hpmin, hpmax, ⟨hl, hl'⟩, ⟨hh, hh'⟩, hle⟩ := hkind
      rw [h16, h17, Nat.mod_eq_of_lt (by omega), Nat.mod_eq_of_lt (by omega)]
      exact ⟨Or.inl ⟨rfl, hpmin, hpmax, hl, hle, hh'⟩, rfl⟩
    | beacon n tag =>
      obtain ⟨h16, h18⟩ := hbeacon n tag hk
      rw [hk] at hkind
      obtain ⟨hunit, hpmin, hpmax, hn, hn'⟩ := hkind
      rw [h16, h18, Nat.mod_eq_of_lt (by omega)]
      exact ⟨Or.inr ⟨rfl, hunit, hpmin, hpmax, hn, hn'⟩, by simp [SourceKind.code]⟩
  rw [(readSourceImage_eq c now _).1 ⟨entryImage_length c owner e, by rw [h12]; exact hmin, by rw [h12, h8]; exact hmax,
    by rw [hstart]; exact hnear, hrange.1, hrange.2, hread.1⟩, hread.2, hstate, hstart, h8, h12, h24]

end

/-- Settles O50: each image read back, and each image that is accepted written again. -/
theorem recordImagesReadBack : Obligations.RecordImagesReadBack := by
  refine ⟨fun c hc => ?_, fun data c h => ?_, readQueueConfig_configImage, fun data c h => configImage_of_readQueueConfig h,
    fun data r h => rateImage_of_readRateImage h, readRateImage_rateImage, readRingEntry_ringEntryImage,
    fun c now i x e hc he hentry => ?_, fun c i x hentry => ?_, fun c now data => ?_⟩
  · have hback := settingsOf_settingsImage c hc
    exact (if_pos ⟨settingsImage_length c, by rw [hback]; exact hc⟩).trans (congrArg some hback)
  · unfold readSettingsImage at h
    split at h
    case isTrue hall =>
      cases h
      exact settingsImage_settingsOf data hall.1
    case isFalse => cases h
  · intro image
    obtain ⟨hperiod, hduration⟩ := e.period_lt_of_lawful c hc he
    obtain ⟨-, -, hcount, hmiss, -⟩ := id he
    obtain ⟨-, h1, -, h3, -, -, -, -, h25, h26⟩ := field_entryImage c x.owner e hperiod hduration hcount hmiss
    have himage : image = toBytes 1 i.val ++ entryImage c x.owner e := sourceImage_of_entry c i x e hentry
    have hskip (o n : Nat) (ho : 1 ≤ o) : field image o n = field (entryImage c x.owner e) (o - 1) n := by
      rw [himage, field_skip_toBytes _ _ _ ho]
    refine ⟨?_, ?_, (hskip 2 1 (by decide)).trans (h1.trans ?_), (hskip 4 1 (by decide)).trans h3, (hskip 26 1 (by decide)).trans h25,
      (hskip 27 4 (by decide)).trans h26, fun hnear => ?_⟩
    · rw [himage, List.length_append, toBytes_length, entryImage_length]
    · rw [himage, field_toBytes_append]
      exact Nat.mod_eq_of_lt (i.isLt.trans (by decide))
    · cases x.owner <;> rfl
    · rw [himage, List.drop_left' (toBytes_length 1 i.val)]
      exact readSourceImage_entryImage c x.owner e now hc he hnear
  · unfold sourceImage
    rw [hentry]
    simp only [toBytes_one]
    cases x.owner <;> rfl
  · intro start period duration low high isOven isBeacon accepted
    have haccepted : accepted ↔ data.length = 30 ∧ 64 ≤ field data 12 4
        ∧ field data 12 4 + (c.guardLead + c.guardTrail + 256) ≤ field data 8 4
        ∧ (distance now (BitVec.ofNat 32 (field data 4 4))).natAbs < 1073741824 ∧ 1 ≤ field data 2 1 ∧ field data 2 1 ≤ 3
        ∧ sourceKindAccepted c data := Iff.rfl
    obtain ⟨hyes, hno⟩ := readSourceImage_eq c now data
    exact ⟨fun h => hno fun h' => h (haccepted.2 h'), fun h => hyes (haccepted.1 h)⟩

end Sys2Proof.Machine

/-! PROOFS. What the tracker learns, and what it hands on (R116, R121, R122, R127, R128). -/

namespace Sys2Proof.Machine

/-! ### The error of an observed start (R121) -/

/-- The error is the distance but for whole periods, within half a period. -/
theorem Source.error_spec (e : Source) (b : Instant) (h : 0 < e.period) :
    ∃ m : Int, distance e.start b = m * (e.period : Int) + e.error b ∧ -(e.period : Int) < 2 * e.error b ∧ 2 * e.error b ≤ (e.period : Int) := by
  have hpos : (0 : Int) < (e.period : Int) := by exact_mod_cast h
  have hdivide := Int.mul_ediv_add_emod (distance e.start b) e.period
  have hlow := Int.emod_nonneg (distance e.start b) hpos.ne'
  have hhigh := Int.emod_lt_of_pos (distance e.start b) hpos
  unfold Source.error
  dsimp only
  split
  case isTrue hnear => exact ⟨distance e.start b / e.period, by linarith, by linarith, hnear⟩
  case isFalse hfar => exact ⟨distance e.start b / e.period + 1, by linarith, by linarith, by linarith⟩

/-- The predicted start nearest to an observed one is the entry's start when the error is the whole distance. -/
theorem Source.alreadyMatched_iff (e : Source) (b : Instant) (hpos : 0 < e.period) (hperiod : e.period < 2147483648) :
    e.alreadyMatched b = true ↔ e.matched = true ∧ e.error b = distance e.start b := by
  rw [Source.alreadyMatched, Bool.and_eq_true, beq_iff_eq, Source.nearest]
  refine and_congr_right fun _ => ⟨fun hnear => ?_, fun herror => ?_⟩
  · obtain ⟨_, -, hlow, hhigh⟩ := e.error_spec b hpos
    have hb : b = moved e.start (e.error b) := by
      rw [← hnear, moved_moved, Int.add_left_neg, moved_zero]
    have hdistance := distance_moved e.start (e.error b) (by omega) (by omega)
    rw [← hb] at hdistance
    exact hdistance.symm
  · have hb := moved_distance e.start b
    rw [← herror] at hb
    conv_lhs => rw [← hb]
    rw [show e.error (moved e.start (e.error b)) = e.error b from congrArg e.error hb, moved_moved, Int.add_right_neg, moved_zero]

/-! ### A slot after a match or a creation (R118, R122) -/

theorem State.setSlot_setSlot (s : State) (i : Fin 16) (x y : Slot) : (s.setSlot i x).setSlot i y = s.setSlot i y := by
  simp [State.setSlot]

theorem matchedSlot_of_waits (c : Settings) (now : Instant) (e : Source) (h : atOrBefore (e.checkTime c) now = false) :
    matchedSlot c now e = { owner := .learn, entry := some e, timer := some (e.checkTime c), deferred := false } :=
  if_neg (by rw [← Source.checkTime, h]; exact Bool.false_ne_true)

theorem matchedSlot_of_passed (c : Settings) (now : Instant) (e : Source) (h : atOrBefore (e.checkTime c) now = true) :
    matchedSlot c now e =
      { owner := .learn, entry := some { e with start := plus e.start e.period, matched := false }
        timer := some (plus (plus e.start e.period) (captureOf c e.kind)), deferred := false } := if_pos h

/-- The entry of a matched slot keeps what a search asks of it. -/
theorem entry_matchedSlot (c : Settings) (now : Instant) (e : Source) :
    ∃ e', (matchedSlot c now e).entry = some e' ∧ e'.state = e.state ∧ e'.kind = e.kind := by
  cases hpassed : atOrBefore (e.checkTime c) now with
  | false => exact ⟨e, by rw [matchedSlot_of_waits c now e hpassed], rfl, rfl⟩
  | true => exact ⟨{ e with start := plus e.start e.period, matched := false }, by rw [matchedSlot_of_passed c now e hpassed], rfl, rfl⟩

theorem deferred_matchedSlot (c : Settings) (now : Instant) (e : Source) : (matchedSlot c now e).deferred = false := by
  unfold matchedSlot
  dsimp only
  split <;> rfl

/-- The check of a learned entry, armed: one that has passed finds a matched occurrence (R118, R119). -/
theorem Track.arm_learned (t : Track) (i : Fin 16) (e : Source) (hentry : (t.state.slot i).entry = some e)
    (howner : (t.state.slot i).owner = .learn)
    (h : e.matched = true ∨ atOrBefore (e.checkTime t.state.settings) t.state.now = false) :
    t.arm i = { t with state := t.state.setSlot i (matchedSlot t.state.settings t.state.now e) } := by
  have hslot : Slot.arm t.state.settings (t.state.slot i) e =
      { owner := .learn, entry := some e, timer := some (e.checkTime t.state.settings), deferred := false } := by
    rw [← hentry, ← howner]
    rfl
  have harm : t.arm i = Track.judgePassed
      { t with
        state := t.state.setSlot i
          { owner := .learn, entry := some e, timer := some (e.checkTime t.state.settings), deferred := false } } i := by
    rw [← hslot, Track.arm]
    rw [hentry]
  rw [harm]
  cases hpassed : atOrBefore (e.checkTime t.state.settings) t.state.now with
  | false =>
    rw [matchedSlot_of_waits _ _ _ hpassed]
    refine Track.judgePassed_of_waits _ i ?_
    rw [State.slot_setSlot_self]
    exact hpassed
  | true =>
    have hmatched : e.matched = true := h.resolve_right (by simp [hpassed])
    rw [matchedSlot_of_passed _ _ _ hpassed, Track.judgePassed, if_pos (by rw [State.slot_setSlot_self]; exact hpassed),
      Track.judgeOnce_eq _ i e (by rw [State.slot_setSlot_self]), State.judgement_matched _ _ _ (by rw [State.slot_setSlot_self]) hmatched]
    simp only [Track.advance, State.slot_setSlot_self, State.setSlot_setSlot]
    rfl

/-- What storing an entry of a learning-owned slot comes to (R122, R125, R128). -/
theorem Track.settle_learned (t : Track) (i : Fin 16) (was : Option SourceState) (e : Source) (changed : Bool)
    (howner : (t.state.slot i).owner = .learn)
    (h : e.matched = true ∨ atOrBefore (e.checkTime t.state.settings) t.state.now = false) :
    (t.settle i was e changed).state = t.state.setSlot i (matchedSlot t.state.settings t.state.now e)
      ∧ (t.settle i was e changed).additions =
          (if e.applicable t.state.south.radio && !(was.map SourceState.busy).getD false then t.additions ++ [.source i] else t.additions)
      ∧ (t.settle i was e changed).raised =
          (if e.state == .locked && was != some .locked && was != some .coasting then t.raised ++ [.sourceLocked] else t.raised) := by
  have hstored (u : Track) (hu : u.state = (t.store i was e changed).state) :
      u.arm i = { u with state := t.state.setSlot i (matchedSlot t.state.settings t.state.now e) } := by
    rw [u.arm_learned i e (by rw [hu]; simp [Track.store]) (by rw [hu]; simp [Track.store, howner]) (by rw [hu]; exact h), hu]
    simp only [Track.store, State.setSlot_setSlot]
    rfl
  unfold Track.settle
  extract_lets t₁ t₂
  have hstate : t₂.state = t₁.state := by
    show (if _ then t₁.raise .sourceLocked else t₁).state = _
    split <;> rfl
  rw [hstored t₂ hstate]
  refine ⟨rfl, ?_, ?_⟩
  · show (if _ then t₁.raise .sourceLocked else t₁).additions = _
    split <;> rfl
  · show (if _ then t₁.raise .sourceLocked else t₁).raised = _
    split <;> rfl

/-! ### What an event hands on (R65, R128) -/

theorem Track.handOn_gate (t : Track) : t.handOn.gate = (t.state.addBusyAll t.additions).gate ∧ t.handOn.south = (t.state.addBusyAll t.additions).south := by
  unfold Track.handOn
  dsimp only
  split <;> simp

theorem Track.flag_handOn (t : Track) (f : EventFlag) (h : f ∈ t.raised) : t.handOn.flag f = true := by
  have hset (l : List EventFlag) (s : State) (hs : f ∈ l ∨ s.flag f = true) : (s.setFlags l).flag f = true := by
    induction l generalizing s with
    | nil => exact hs.resolve_left (by simp)
    | cons g l ih =>
      refine ih (s.setFlag g) ?_
      rcases hs with hmem | hflag
      · rcases List.mem_cons.1 hmem with rfl | hmem
        · exact Or.inr (by simp)
        · exact Or.inl hmem
      · exact Or.inr (by simp [hflag])
  exact hset _ _ (Or.inl h)

/-- Two states agree in what the test of an addition reads and moves, the source table left out. -/
def State.gatesAs (s t : State) : Prop :=
  t.gate = s.gate ∧ t.south = s.south ∧ t.queues = s.queues ∧ t.ring = s.ring ∧ t.engine = s.engine ∧ t.clock = s.clock

theorem State.addBusy_congr (s t : State) (h : s.gatesAs t) (x : Addition) :
    (t.addBusy x).gate = (State.addBusy { s with sources := t.sources } x).gate
      ∧ (t.addBusy x).south = (State.addBusy { s with sources := t.sources } x).south := by
  obtain ⟨hgate, hsouth, hqueues, hring, hengine, hclock⟩ := h
  have hcancels : t.cancels x = State.cancels { s with sources := t.sources } x := by
    funext e
    cases x <;> simp [State.cancels, State.meets, State.applicableSlot, State.applicable, State.slot, State.settings, State.now, hring, hengine, hclock, hsouth]
  have hrecord : t.cancelRecord = State.cancelRecord { s with sources := t.sources } := by
    funext e
    simp [State.cancelRecord, State.queue, State.now, hqueues, hclock]
  unfold State.addBusy
  rw [hcancels, hrecord, hgate, hsouth]
  dsimp only
  split
  · exact ⟨rfl, rfl⟩
  · exact ⟨hgate, hsouth⟩

/-- An addition that meets nothing cancels nothing (R94). -/
theorem State.addBusy_of_meets (s : State) (x : Addition) (h : ∀ a b, s.meets x a b = false) : s.addBusy x = s := by
  have hcancels : s.cancels x = fun _ => false := by
    funext e
    unfold State.cancels
    split
    · exact h _ _
    · rfl
  unfold State.addBusy
  split
  · rw [hcancels]
    simp
  · rfl

/-- An entry that no search looks at is no addition (R53). -/
theorem State.addBusy_inapplicable (s : State) (i : Fin 16) (e : Source) (hentry : (s.slot i).entry = some e)
    (h : e.applicable s.south.radio = false) : s.addBusy (.source i) = s := by
  refine s.addBusy_of_meets _ fun a b => ?_
  rw [State.meets, State.applicableSlot, hentry, Option.filter_some, if_neg (by simp [h])]
  rfl

/-- What an event that settles one slot hands on: nothing when the entry took part in searches before or does not now, and otherwise the
entry as an addition (R128). -/
theorem Track.handOn_settled (s : State) (u : Track) (i : Fin 16) (was : Option SourceState) (c : Settings) (now : Instant) (e : Source)
    (hsame : s.gatesAs u.state) (hslot : u.state.slot i = matchedSlot c now e)
    (hadditions : u.additions = if e.applicable s.south.radio && !(was.map SourceState.busy).getD false then [.source i] else []) :
    ((was.map SourceState.busy).getD false = true ∨ e.state.busy = false → u.handOn.gate = s.gate ∧ u.handOn.south = s.south)
      ∧ ((was.map SourceState.busy).getD false = false →
          u.handOn.gate = (State.addBusy { s with sources := u.handOn.sources } (.source i)).gate
            ∧ u.handOn.south = (State.addBusy { s with sources := u.handOn.sources } (.source i)).south) := by
  have hsources : u.handOn.sources = u.state.sources := by simp
  obtain ⟨hgate, hsouth, -⟩ := id hsame
  obtain ⟨hhanded, hhandedSouth⟩ := u.handOn_gate
  refine ⟨fun hquiet => ?_, fun hfresh => ?_⟩
  · have hnone : (e.applicable s.south.radio && !(was.map SourceState.busy).getD false) = false := by
      rcases hquiet with hbusy | hidle
      · rw [hbusy]; simp
      · simp [Source.applicable, hidle]
    rw [hhanded, hhandedSouth, hadditions, hnone]
    exact ⟨hgate, hsouth⟩
  · obtain ⟨e', hentry, hstate, hkind⟩ := entry_matchedSlot c now e
    have happlies : e'.applicable u.state.south.radio = e.applicable s.south.radio := by
      rw [Source.applicable, Source.applicable, hstate, hkind, hsouth]
    have hall : u.state.addBusyAll u.additions = u.state.addBusy (.source i) := by
      rw [hadditions, hfresh, Bool.not_false, Bool.and_true]
      split
      · rfl
      case isFalse hnot =>
        exact (u.state.addBusy_inapplicable i e' (hslot ▸ hentry) (happlies.trans (Bool.eq_false_iff.2 hnot))).symm
    rw [hhanded, hhandedSouth, hall, hsources]
    exact s.addBusy_congr u.state hsame _

end Sys2Proof.Machine

/-! PROOFS. What beacon trailers teach: a re-anchored entry that is missed at once (R118, R120, R121, R127). -/

namespace Sys2Proof.Machine

/-- The trailer of a good beacon of another network on channel 6, received at 999 000, its interval 100 time units. -/
def lateTrailer : Trailer :=
  { channel := 6, beacon := true, good := true, own := false, level := -40, start := 999000, airtime := 700, interval := 100
    tag := 0x000102030405 }

/-- An RXDATA frame of that trailer alone. -/
def lateFrame : LinkFrame :=
  originate 5 0 0 0 ([6, 1, 1, 0xD8] ++ toBytes 4 999000 ++ toBytes 2 700 ++ toBytes 2 100 ++ [0, 1, 2, 3, 4, 5])

/-- The learned entry of the trailer's tag and channel, of twice its period. -/
def lateBeacon : Source :=
  { kind := .beacon 6 0x000102030405, state := .locked, start := 999000, period := 204800, duration := 1200, matchCount := 2, missRun := 0
    matched := false }

/-- The part on channel 6 at 1 200 000, every instant from 1 000 000 to 1 150 000 listened to; slot 0 holds the entry, and the matched burst
record names slot 0. -/
def lateState : State :=
  { State.reset with
    clock := { State.reset.clock with now := 1200000 }
    south := { State.reset.south with synced := true, radio := .onChannel 6, lastChannel := some 6 }
    detector := { State.reset.detector with spans := [{ start := 1000000, stop := 1150000 }] }
    sources :=
      { slots := State.reset.sources.slots.set 0 { owner := .learn, entry := some lateBeacon, timer := some 1204824, deferred := false }
        record := some { start := 500000, result := .slot 0 } } }

theorem lateState_others (j : Fin 16) (h : j ≠ 0) : (lateState.slot j).entry = none := by
  have hempty : ∀ j : Fin 16, j ≠ 0 → (State.reset.slot j).entry = none := by decide +kernel
  rw [← hempty j h]
  exact congrArg Slot.entry (Vector.getElem_set_ne (by decide) j.isLt (fun he => h (Fin.ext he.symm)))

theorem lateState_entry (j : Fin 16) (e : Source) (h : (lateState.slot j).entry = some e) : j = 0 ∧ e = lateBeacon := by
  by_cases hj : j = 0
  · subst hj
    exact ⟨rfl, (Option.some.inj h).symm⟩
  · rw [lateState_others j hj] at h
    cases h

theorem lateState_sourcesLawful : lateState.sourcesLawful := by
  refine ⟨by show Settings.default.consistent = true; decide, ⟨?_, ?_⟩, fun j e he => ?_⟩
  · intro n h
    cases h
    simp [isChannel]
  · intro n h
    cases h
    simp [isChannel]
  · rw [(lateState_entry j e he).2]
    show lateBeacon.lawful Settings.default
    simp [Source.lawful, lateBeacon, Settings.default, isChannel]

theorem lateState_beaconsDistinct : lateState.beaconsDistinct := fun i j _ _ e f _ hi _ _ hj _ =>
  (lateState_entry i e hi).1.trans (lateState_entry j f hj).1.symm

/-- The record is withdrawn. -/
theorem record_lateState :
    ((lateState.passRxdata lateFrame).readBeacon lateFrame.payload).sources.record = some { start := 500000, result := .withdrawn } := by
  decide +kernel

/-- Refutes O17: the statement keeps the matched burst record for every entry of the trailer's tag and channel, but an entry re-anchored
to an occurrence whose check time has passed is judged within the event; missed while ACQUIRING it becomes FREE, and a record that names its
slot is withdrawn. -/
theorem not_beaconTrailersTeachTheTable : ¬ Obligations.BeaconTrailersTeachTheTable := by
  rintro ⟨-, hteach⟩
  have harrives : lateState.southArriving lateFrame := ⟨rfl, rfl, by decide +kernel⟩
  have hread : readTrailer lateFrame.payload = some lateTrailer := by decide +kernel
  obtain ⟨-, hlearned, -⟩ := hteach lateState lateFrame lateTrailer harrives rfl hread (by decide)
  obtain ⟨t, hexec, -, hrecord, -⟩ := hlearned 0 lateBeacon lateState_sourcesLawful lateState_beaconsDistinct rfl rfl rfl
  rw [exec_rxdataFrame lateState lateFrame harrives rfl] at hexec
  have ht : t = (lateState.passRxdata lateFrame).readBeacon lateFrame.payload := by injection hexec with he; exact he.symm
  rw [ht, record_lateState] at hrecord
  exact absurd hrecord (by decide)

end Sys2Proof.Machine

/-! PROOFS. What bursts teach about ovens (R105, R106, R121 to R125). -/

namespace Sys2Proof.Machine

theorem Track.slot_handOn (t : Track) (j : Fin 16) : t.handOn.slot j = t.state.slot j := State.slot_of_sources (by simp) j

/-! ### Tracks that differ in the detector alone -/

/-- An event under way with another detector. -/
def Track.heard (t : Track) (d : Detector) : Track := { t with state := t.state.withDetector d }

theorem Track.heard_heard (t : Track) (d d' : Detector) : (t.heard d).heard d' = t.heard d' := rfl

theorem Track.modDetector_eq_heard (t : Track) (f : Detector → Detector) : t.modDetector f = t.heard (f t.state.detector) := rfl

theorem Track.modDetector_heard (t : Track) (d : Detector) (f : Detector → Detector) : (t.heard d).modDetector f = t.heard (f d) := rfl

theorem Track.slot_heard (t : Track) (d : Detector) (i : Fin 16) : (t.heard d).state.slot i = t.state.slot i := rfl

/-! ### Samples that no event follows (R105) -/

section
variable (n : Nat) (r : EnergyReport) (oldEnd : Option Instant)

theorem Track.samples_append (l l' : List Int) (i : Nat) (t : Track) :
    Track.samples n r oldEnd i (l ++ l') t = Track.samples n r oldEnd (i + l.length) l' (Track.samples n r oldEnd i l t) := by
  induction l generalizing i t with
  | nil => rfl
  | cons x l ih =>
    rw [List.cons_append, Track.samples_cons, Track.samples_cons, ih, List.length_cons, Nat.add_right_comm, ← Nat.add_assoc]

/-- Samples below the on level start no burst. -/
theorem Track.samples_idle (l : List Int) (i : Nat) (t : Track) (hburst : t.state.detector.burst = none)
    (h : ∀ j x, l[j]? = some x → oldEnd.any (before (r.stampOf (i + j))) = false → x < t.state.settings.onLevel) :
    Track.samples n r oldEnd i l t = t := by
  induction l generalizing i with
  | nil => rfl
  | cons x l ih =>
    have hfirst : (if oldEnd.any (before (r.stampOf i)) then t else t.sample n (r.stampOf i) (decide (i ≠ 0) || oldEnd.isSome) x) = t := by
      split
      case isTrue => rfl
      case isFalse hheard =>
        have hlow := h 0 x rfl (by simpa using hheard)
        rw [Track.sample, hburst]
        exact if_neg (by omega)
    rw [Track.samples_cons, hfirst]
    refine ih (i + 1) fun j y hy hheard => h (j + 1) y (by simpa using hy) ?_
    rwa [Nat.add_right_comm, Nat.add_assoc] at hheard

/-- Samples at the off level or above raise the open burst's peak at most. -/
theorem Track.samples_open (l : List Int) (i : Nat) (t : Track) (o : OpenBurst) (hburst : t.state.detector.burst = some o)
    (h : ∀ j x, l[j]? = some x → oldEnd.any (before (r.stampOf (i + j))) = false →
      t.state.settings.offLevel ≤ x ∧ (r.stampOf (i + j) - o.start).toNat < 1048576) :
    ∃ d peak, Track.samples n r oldEnd i l t = t.heard d ∧ d.burst = some { o with peak } := by
  induction l generalizing i t o with
  | nil => exact ⟨t.state.detector, o.peak, rfl, hburst⟩
  | cons x l ih =>
    have hrest (j : Nat) (y : Int) (hy : l[j]? = some y) (hheard : oldEnd.any (before (r.stampOf (i + 1 + j))) = false) :
        t.state.settings.offLevel ≤ y ∧ (r.stampOf (i + 1 + j) - o.start).toNat < 1048576 := by
      have hnext := h (j + 1) y (by simpa using hy)
      rw [← Nat.add_assoc, Nat.add_right_comm] at hnext
      exact hnext hheard
    rw [Track.samples_cons]
    split
    case isTrue => exact ih (i + 1) t o hburst hrest
    case isFalse hheard =>
      obtain ⟨hlevel, hshort⟩ := h 0 x rfl (by simpa using hheard)
      have hsample : t.sample n (r.stampOf i) (decide (i ≠ 0) || oldEnd.isSome) x =
          t.heard { t.state.detector with burst := some { o with peak := max o.peak x } } := by
        rw [Track.sample, hburst]
        exact (if_neg (Nat.not_le_of_lt hshort)).trans (if_neg (by omega))
      rw [hsample]
      obtain ⟨d, peak, hd, hopen⟩ := ih (i + 1) (t.heard { t.state.detector with burst := some { o with peak := max o.peak x } })
        { o with peak := max o.peak x } rfl hrest
      exact ⟨d, peak, hd, hopen⟩

end

/-! ### What a report hears (R101, R105) -/

section
variable (s : State) (r : EnergyReport)

theorem State.reportContinues_iff : s.reportContinues r ↔ (s.detector.continuedFrom r).isSome = true := by
  classical
  rcases List.eq_nil_or_concat s.detector.spans with hnil | ⟨older, x, hspans⟩
  · rw [s.detector.continuedFrom_nil r hnil]
    refine iff_of_false (fun ⟨older, x, h, _⟩ => ?_) (by simp)
    rw [hnil] at h
    exact absurd h.symm (by simp)
  · rw [List.concat_eq_append] at hspans
    rw [s.detector.continuedFrom_append r older x hspans]
    constructor
    · rintro ⟨older', x', h, hcontinues⟩
      obtain ⟨-, hx⟩ := List.append_inj' (hspans.symm.trans h) rfl
      rw [List.cons.injEq] at hx
      rw [if_pos (hx.1 ▸ hcontinues)]
      rfl
    · intro hsome
      by_cases hcontinues : r.continuesAt x.stop
      · exact ⟨older, x, hspans, hcontinues⟩
      · rw [if_neg hcontinues] at hsome
        cases hsome

theorem State.hearsSample_iff (k : Nat) : s.hearsSample r k ↔ (s.detector.continuedFrom r).any (before (r.stampOf k)) = false := by
  classical
  rcases List.eq_nil_or_concat s.detector.spans with hnil | ⟨older, x, hspans⟩
  · rw [s.detector.continuedFrom_nil r hnil]
    refine iff_of_true (fun older x h _ => ?_) rfl
    rw [hnil] at h
    exact absurd h.symm (by simp)
  · rw [List.concat_eq_append] at hspans
    rw [s.detector.continuedFrom_append r older x hspans]
    constructor
    · intro h
      by_cases hcontinues : r.continuesAt x.stop
      · rw [if_pos hcontinues]
        exact h older x hspans hcontinues
      · rw [if_neg hcontinues]
        rfl
    · intro h older' x' hspans' hcontinues
      obtain ⟨-, hx⟩ := List.append_inj' (hspans.symm.trans hspans') rfl
      rw [List.cons.injEq] at hx
      rw [if_pos (hx.1 ▸ hcontinues)] at h
      exact hx.1 ▸ h

/-- A later sample's stamp lies the samples between further on. -/
theorem EnergyReport.stampOf_add (k m : Nat) : r.stampOf (k + m) = plus (r.stampOf k) (m * r.interval) := by
  rw [EnergyReport.stampOf, EnergyReport.stampOf, plus_plus, Nat.add_mul]

/-- A report's samples lie within 2^15 µs. -/
theorem EnergyReport.stampOf_sub (hlength : r.samples.length ≤ 128) (hinterval : r.interval ≤ 256) (k m : Nat) (hm : m ≤ r.samples.length) :
    (r.stampOf (k + m) - r.stampOf k).toNat < 1048576 := by
  have hspan : m * r.interval ≤ 128 * 256 := Nat.mul_le_mul (hm.trans hlength) hinterval
  rw [r.stampOf_add, toNat_plus_sub]
  omega

/-! ### Reports that only their samples make teach (R103, R119) -/

/-- No span of the list has reached its age limit when the report has joined it. -/
theorem State.cover_young (h : s.onlySamplesTeach r) (x : Span) (hx : x ∈ s.detector.cover r (s.detector.continuedFrom r).isSome) :
    x.outlived s.clock.now = false := by
  obtain ⟨-, hspans, hown⟩ := h
  have hnew (y : Span) (hy : y.stop = r.stop) : y.outlived s.clock.now = false := by
    rw [Span.outlived, hy]
    exact hown
  unfold Detector.cover at hx
  dsimp only at hx
  split at hx
  case isTrue =>
    unfold extendNewest at hx
    split at hx
    case h_1 y _ =>
      rcases List.mem_append.1 hx with hold | hlast
      · exact hspans x (List.dropLast_subset _ hold)
      · exact hnew x (by rw [List.mem_singleton.1 hlast])
    case h_2 => exact hspans x hx
  case isFalse =>
    have happended (l : List Span) (hl : ∀ y ∈ l, y ∈ s.detector.spans) (hmem : x ∈ l ++ [{ start := r.first, stop := r.stop }]) :
        x.outlived s.clock.now = false := by
      rcases List.mem_append.1 hmem with hold | hlast
      · exact hspans x (hl x hold)
      · exact hnew x (by rw [List.mem_singleton.1 hlast])
    split at hx
    · split at hx
      · refine happended _ (fun y hy => ?_) hx
        split at hy
        · exact List.mem_of_mem_tail hy
        · exact hy
      · exact happended [] (by simp) hx
    · exact happended [] (by simp) hx

/-- A report whose samples have led to a track ends with the deferred checks, none of its spans aged (R103, R109). -/
theorem State.detectionReport_of_samples (h : s.onlySamplesTeach r) (n : Nat) (u : Track) (d : Detector)
    (hsamples : s.sampleTrack n r = u.heard d) : ∃ d', s.detectionReport n r = (u.heard d').checkDeferred.handOn := by
  have hclock : (u.heard d).state.clock = s.clock := by
    rw [← hsamples, State.sampleTrack, State.coverTrack]
    split <;> simp
  have hspans : d.spans = s.detector.cover r (s.detector.continuedFrom r).isSome := by
    have hdetector := congrArg (fun v : Track => v.state.detector.spans) hsamples
    exact hdetector.symm.trans (by simp only [s.sampleTrack_detector]; rfl)
  refine ⟨d.surveyReport s.settings.onLevel r, ?_⟩
  rw [State.detectionReport_eq, hsamples, Track.modDetector_heard]
  generalize hv : (u.heard (d.surveyReport s.settings.onLevel r)).checkDeferred = v
  have hvspans : v.state.detector.spans = s.detector.cover r (s.detector.continuedFrom r).isSome := by
    rw [← hv, (Track.checkDeferred_keeps _).2.2.2.2.2.2.2.2.2.2.1]
    exact (Detector.surveyReport_keeps d _ r).2.1.trans hspans
  have hvclock : v.state.clock = s.clock := by
    rw [← hv, (Track.checkDeferred_keeps _).2.1]
    exact hclock
  refine congrArg Track.handOn ?_
  unfold Track.ageSpans
  split
  case h_1 => rfl
  case h_2 x rest hcons =>
    have hmem : x ∈ s.detector.cover r (s.detector.continuedFrom r).isSome := by rw [← hvspans, hcons]; exact List.mem_cons_self
    refine if_neg ?_
    rw [State.now, hvclock, s.cover_young r h x hmem]
    exact Bool.false_ne_true

end

/-- Without a deferred slot no check is judged again (R119). -/
theorem Track.checkDeferred_of_none (t : Track) (h : ∀ i, (t.state.slot i).deferred = false) : t.checkDeferred = t := by
  unfold Track.checkDeferred
  refine allSlots.foldlRecOn (motive := fun u : Track => u = t) _ rfl fun u hu i _ => ?_
  rw [hu, h i]
  rfl

end Sys2Proof.Machine

/-! PROOFS. Start and end events at the tracker, and a report with one burst edge (R121 to R125). -/

namespace Sys2Proof.Machine

/-! ### Matches (R122) -/

/-- A matched entry's next state: only an ACQUIRING one below the lock count is not LOCKED (R122 step 6). -/
theorem Source.countMatch_eq (e : Source) (lockCount : Nat) :
    e.countMatch lockCount =
      { e with
        state := if e.state = .acquiring ∧ min 255 (e.matchCount + 1) < lockCount then .acquiring else .locked
        matchCount := min 255 (e.matchCount + 1), missRun := 0, matched := true } := by
  unfold Source.countMatch
  rw [saturate_eq_min]
  cases hstate : e.state with
  | acquiring =>
    by_cases hcount : lockCount ≤ min 255 (e.matchCount + 1)
    · simp [hcount, Nat.not_lt_of_le hcount]
    · simp [hcount, Nat.lt_of_not_le hcount]
  | locked => simp
  | coasting => simp

/-- What a match makes of an OVEN entry. -/
def Source.ovenMatched (c : Settings) (e : Source) (n : Nat) (b : Instant) : Source :=
  let e₁ : Source :=
    Source.clamp c
      { e with
        start := moved (e.nearest b) (phaseCorrection c (e.error b)), period := ((e.period : Int) + periodCorrection (e.error b)).toNat }
  ({ e₁ with kind := e₁.kind.widen n } : Source).countMatch c.ovenLockCount

theorem Source.ovenMatched_eq (c : Settings) (e : Source) (n : Nat) (b : Instant) (low high : Nat) (h : e.kind = .oven low high) :
    e.ovenMatched c n b =
      { kind := .oven (min low n) (max high n)
        state := if e.state = .acquiring ∧ min 255 (e.matchCount + 1) < c.ovenLockCount then .acquiring else .locked
        start := moved (moved b (-(e.error b))) (clampInt (-(c.phaseStepMax : Int)) c.phaseStepMax ((e.error b).tdiv 4))
        period := clampNat c.ovenPeriodMin c.ovenPeriodMax ((e.period : Int) + clampInt (-8) 8 ((e.error b).tdiv 16)).toNat
        duration := clampNat 64
          (clampNat c.ovenPeriodMin c.ovenPeriodMax ((e.period : Int) + clampInt (-8) 8 ((e.error b).tdiv 16)).toNat - c.guardLead - c.guardTrail
            - 256) e.duration
        matchCount := min 255 (e.matchCount + 1), missRun := 0, matched := true } := by
  simp only [Source.ovenMatched, Source.countMatch_eq, Source.clamp, h, SourceKind.widen]
  rfl

theorem Track.matchOven_eq (t : Track) (i : Fin 16) (e : Source) (n : Nat) (b : Instant) :
    ∃ changed, t.matchOven i e n b = t.settle i (some e.state) (e.ovenMatched t.state.settings n b) changed := ⟨_, rfl⟩

/-! ### Start events (R121) -/

section
variable (t : Track) (v : BurstStart)

theorem Track.startEvent_unmatched (h : t.state.bestMatch v.start = none) :
    t.startEvent v = { t with state := t.state.withRecord (some { start := v.start, result := .unmatched }) } := by
  rw [Track.startEvent, h]

variable (i : Fin 16) (e : Source) (h : t.state.bestMatch v.start = some (i, e))
include h

theorem Track.startEvent_held (hheld : (t.state.slot i).owner = .host ∨ e.alreadyMatched v.start = true) :
    t.startEvent v = { t with state := t.state.withRecord (some { start := v.start, result := .slot i }) } := by
  rw [Track.startEvent, h]
  exact if_pos (by rcases hheld with h | h <;> simp [h])

theorem Track.startEvent_learned (howner : (t.state.slot i).owner = .learn) (hnew : ¬ e.alreadyMatched v.start = true) :
    t.startEvent v =
      Track.matchOven { t with state := t.state.withRecord (some { start := v.start, result := .slot i }) } i e v.channel v.start := by
  rw [Track.startEvent, h]
  exact if_neg (by simp [howner, hnew])

end

/-! ### End events (R121, R123, R124) -/

section
variable (t : Track) (v : BurstEnd)

theorem Track.endEvent_stranger (h : ∀ m, t.state.sources.record = some m → m.start ≠ v.start) : t.endEvent v = t := by
  unfold Track.endEvent
  split
  case h_1 => rfl
  case h_2 m hm => exact if_neg (h m hm)

theorem Track.endEvent_withdrawn (h : t.state.sources.record = some { start := v.start, result := .withdrawn }) :
    t.endEvent v = { t with state := t.state.withRecord none } := by
  rw [Track.endEvent, h]
  exact if_pos rfl

theorem Track.endEvent_slot (i : Fin 16) (h : t.state.sources.record = some { start := v.start, result := .slot i }) :
    t.endEvent v =
      { (t.updateDuration i v.stopCertain v.measured) with
        state := (t.updateDuration i v.stopCertain v.measured).state.withRecord none } := by
  rw [Track.endEvent, h]
  exact if_pos rfl

theorem inBurstBand_iff (c : Settings) (measured : Nat) : inBurstBand c measured = true ↔ c.ovenBurstMin ≤ measured ∧ measured ≤ c.ovenBurstMax := by
  simp [inBurstBand]

variable (h : t.state.sources.record = some { start := v.start, result := .unmatched })
include h

theorem Track.endEvent_short (hband : ¬ inBurstBand t.state.settings v.measured = true) :
    t.endEvent v = { t with state := t.state.withRecord none } := by
  rw [Track.endEvent, h]
  refine (if_pos rfl).trans ?_
  dsimp only
  rw [if_neg hband]

theorem Track.endEvent_founds (hband : inBurstBand t.state.settings v.measured = true) :
    t.endEvent v =
      { (t.create (newOven t.state.settings v.channel v.start v.measured)) with
        state := (t.create (newOven t.state.settings v.channel v.start v.measured)).state.withRecord none } := by
  rw [Track.endEvent, h]
  refine (if_pos rfl).trans ?_
  dsimp only
  rw [if_pos hband]

end

/-- A new learned entry in the slot that R125 chooses. -/
theorem Track.create_eq (t : Track) (e : Source) (i : Fin 16) (h : t.state.newSlotIs i) :
    t.create e = Track.settle { t with state := { t.state with sources := t.state.sources.withdraw i } } i none e false := by
  rw [Track.create, (t.state.slotForNew_eq_some_iff i).2 h]

theorem Track.create_full (t : Track) (e : Source) (h : t.state.noNewSlot) : t.create e = t.raise .sourceTableFull := by
  rw [Track.create, t.state.slotForNew_eq_none_iff.2 h]

/-- A duration is measured only by a certain end of a learning-owned OVEN entry, within the burst band (R123). -/
theorem Track.updateDuration_idle (t : Track) (i : Fin 16) (certain : Bool) (measured : Nat)
    (h : (t.state.slot i).owner = .host ∨ certain = false ∨ ¬ inBurstBand t.state.settings measured = true) :
    t.updateDuration i certain measured = t := by
  unfold Track.updateDuration
  dsimp only
  split
  case h_1 e howner hentry =>
    split
    case h_1 =>
      refine if_neg fun hall => ?_
      rw [Bool.and_eq_true] at hall
      rcases h with h | h | h
      · exact absurd (howner.symm.trans h) (by decide)
      · exact absurd (h.symm.trans hall.1) (by decide)
      · exact h hall.2
    case h_2 => rfl
  case h_2 => rfl

/-- The other slots stand, and a deferral. -/
theorem Track.updateDuration_slots (t : Track) (i : Fin 16) (certain : Bool) (measured : Nat) :
    (∀ j, j ≠ i → (t.updateDuration i certain measured).state.slot j = t.state.slot j)
      ∧ ((t.updateDuration i certain measured).state.slot i).deferred = (t.state.slot i).deferred := by
  unfold Track.updateDuration
  dsimp only
  split
  · split
    · split
      · exact ⟨fun j hj => State.slot_setSlot_other _ i j _ (Ne.symm hj), by simp [Track.store]⟩
      · exact ⟨fun _ _ => rfl, rfl⟩
    · exact ⟨fun _ _ => rfl, rfl⟩
  · exact ⟨fun _ _ => rfl, rfl⟩

/-- An OVEN entry whose period lies in the band is clamped in its duration alone (R116). -/
theorem Source.clamp_oven (c : Settings) (e : Source) (low high : Nat) (hkind : e.kind = .oven low high) (hmin : c.ovenPeriodMin ≤ e.period)
    (hmax : e.period ≤ c.ovenPeriodMax) : e.clamp c = { e with duration := clampNat 64 (durationBound c e.period) e.duration } := by
  have hperiod : clampNat c.ovenPeriodMin c.ovenPeriodMax e.period = e.period := by
    unfold clampNat
    rw [if_neg (Nat.not_lt_of_le hmin), if_neg (Nat.not_lt_of_le hmax)]
  simp only [Source.clamp, hkind, hperiod]

theorem Track.updateDuration_slot (t : Track) (i : Fin 16) (measured : Nat) (e : Source) (low high : Nat)
    (howner : (t.state.slot i).owner = .learn) (hentry : (t.state.slot i).entry = some e) (hkind : e.kind = .oven low high)
    (hband : inBurstBand t.state.settings measured = true) (hmin : t.state.settings.ovenPeriodMin ≤ e.period)
    (hmax : e.period ≤ t.state.settings.ovenPeriodMax) :
    (t.updateDuration i true measured).state.slot i =
      { (t.state.slot i) with
        entry := some
          { e with
            duration := clampNat 64 (e.period - t.state.settings.guardLead - t.state.settings.guardTrail - 256)
              ((e.duration : Int) + ((measured : Int) - e.duration).tdiv 8).toNat } } := by
  obtain ⟨kind, state, start, period, duration, matchCount, missRun, matched⟩ := e
  dsimp only at hkind hmin hmax
  subst hkind
  have hclamped := Source.clamp_oven t.state.settings
    { kind := .oven low high, state, start, period, duration := durationToward measured duration, matchCount, missRun, matched } low high rfl
    hmin hmax
  unfold Track.updateDuration
  dsimp only
  rw [hentry]
  split
  case h_1 f howner' hf =>
    cases hf
    dsimp only
    rw [hband, hclamped, if_pos (Bool.and_self true)]
    exact State.slot_setSlot_self _ i _
  case h_2 hnot => exact absurd rfl (hnot _ howner)

/-! ### The record after deferred checks (R121) -/

theorem Track.advance_record (t : Track) (i : Fin 16) (e : Source) : (t.advance i e).state.sources.record = t.state.sources.record := rfl

theorem Track.store_record (t : Track) (i : Fin 16) (was : Option SourceState) (e : Source) (changed : Bool) :
    (t.store i was e changed).state.sources.record = t.state.sources.record := rfl

theorem State.freeSlot_record (s : State) (i : Fin 16) (h : s.sources.record = none) : (s.freeSlot i).sources.record = none := by
  simp [State.freeSlot, Sources.withdraw, h]

theorem Track.miss_record (t : Track) (i : Fin 16) (e : Source) (h : t.state.sources.record = none) :
    (t.miss i e).state.sources.record = none := by
  unfold Track.miss
  dsimp only
  split
  · split <;> exact t.state.freeSlot_record i h
  · rw [Track.advance_record, Track.store_record, h]

theorem Track.judgeOnce_record (t : Track) (i : Fin 16) (h : t.state.sources.record = none) : (t.judgeOnce i).state.sources.record = none := by
  cases he : (t.state.slot i).entry with
  | none =>
    rw [Track.judgeOnce, he]
    exact h
  | some e =>
    rw [Track.judgeOnce_eq t i e he]
    split
    · rw [Track.advance_record, h]
    · rw [Track.advance_record, h]
    · exact t.miss_record i e h
    · exact h
    · rw [Track.advance_record, h]

theorem Track.judgePassed_record (t : Track) (i : Fin 16) (h : t.state.sources.record = none) : (t.judgePassed i).state.sources.record = none := by
  unfold Track.judgePassed
  split
  · exact t.judgeOnce_record i h
  · exact h

theorem Track.checkDeferred_record (t : Track) (h : t.state.sources.record = none) : t.checkDeferred.state.sources.record = none := by
  unfold Track.checkDeferred
  refine allSlots.foldlRecOn (motive := fun u : Track => u.state.sources.record = none) _ h fun u hu i _ => ?_
  split
  · exact Track.judgePassed_record _ i (u.judgeOnce_record i hu)
  · exact hu

/-! ### One burst edge (R105, R106) -/

theorem Track.heard_self (t : Track) : t.heard t.state.detector = t := rfl

section
variable (s : State) (r : EnergyReport)

/-- A report up to its samples, when no burst was open: the detector alone has changed. -/
theorem State.coverTrack_closed (h : s.detector.burst = none) (n : Nat) :
    ∃ d, s.coverTrack n r = (Track.begin s).heard d ∧ d.burst = none := by
  unfold State.coverTrack
  split
  case isTrue => exact ⟨_, rfl, h⟩
  case isFalse =>
    unfold Track.closeAtBreak
    split
    · rw [Track.endBurst, show (Track.begin s).state.detector.burst = none from h]
      exact ⟨_, rfl, h⟩
    · exact ⟨_, rfl, rfl⟩

/-- A report that starts a burst makes one start event (R105). -/
theorem State.sampleTrack_starts (hlength : r.samples.length ≤ 128) (hinterval : r.interval ≤ 256) (k : Nat) (h : s.startsBurst r k) (n : Nat) :
    ∃ d d', s.sampleTrack n r = ((Track.begin (s.withDetector d)).startEvent { channel := n, start := r.stampOf k }).heard d' := by
  obtain ⟨hclosed, hheard, hcertain, ⟨x, hx, hloud⟩, hbefore, hafter⟩ := h
  obtain ⟨d₀, hcover, hd₀⟩ := s.coverTrack_closed r hclosed n
  obtain ⟨hk, hxk⟩ := List.getElem?_eq_some_iff.1 hx
  have hcut : r.samples = r.samples.take k ++ x :: r.samples.drop (k + 1) := by
    rw [← hxk, ← List.drop_eq_getElem_cons hk, List.take_append_drop]
  have htake : (r.samples.take k).length = k := by rw [List.length_take]; omega
  have hquiet : Track.samples n r (s.detector.continuedFrom r) 0 (r.samples.take k) ((Track.begin s).heard d₀) = (Track.begin s).heard d₀ := by
    refine Track.samples_idle n r _ _ 0 _ hd₀ fun j y hy hj => ?_
    rw [Nat.zero_add, ← s.hearsSample_iff r j] at hj
    have hjk : j < k := by
      have hlt := (List.getElem?_eq_some_iff.1 hy).1
      omega
    refine hbefore j y hjk ?_ hj
    rwa [List.getElem?_take_of_lt hjk] at hy
  have hedge : (if (s.detector.continuedFrom r).any (before (r.stampOf k)) then (Track.begin s).heard d₀
      else ((Track.begin s).heard d₀).sample n (r.stampOf k) (decide (k ≠ 0) || (s.detector.continuedFrom r).isSome) x)
      = (Track.begin (s.withDetector { d₀ with burst := some { start := r.stampOf k, certain := true, peak := x } })).startEvent
          { channel := n, start := r.stampOf k } := by
    have hsure : (decide (k ≠ 0) || (s.detector.continuedFrom r).isSome) = true := by
      rcases hcertain with h | h
      · simp [h]
      · rw [(s.reportContinues_iff r).1 h, Bool.or_true]
    rw [(s.hearsSample_iff r k).1 hheard, if_neg Bool.false_ne_true, hsure, Track.sample,
      show ((Track.begin s).heard d₀).state.detector.burst = none from hd₀]
    exact if_pos hloud
  generalize hu : (Track.begin (s.withDetector { d₀ with burst := some { start := r.stampOf k, certain := true, peak := x } })).startEvent
    { channel := n, start := r.stampOf k } = u at hedge
  have hopen : u.state.detector.burst = some { start := r.stampOf k, certain := true, peak := x } := by
    rw [← hu, (Track.startEvent_keeps _ _).2.2.2.2.2.2.2.2.2.2.1]
    rfl
  have hsettings : u.state.settings = s.settings := by
    rw [← hu, State.settings, (Track.startEvent_keeps _ _).2.2.2.2.2.2.2.2.2.2.2.2.1]
    rfl
  obtain ⟨d', -, hrest, -⟩ := Track.samples_open n r (s.detector.continuedFrom r) (r.samples.drop (k + 1)) (k + 1) u _ hopen fun j y hy _ => by
    rw [List.getElem?_drop] at hy
    have hlt := (List.getElem?_eq_some_iff.1 hy).1
    refine ⟨hsettings ▸ hafter _ y (by omega) hy, ?_⟩
    rw [Nat.add_assoc]
    exact r.stampOf_sub hlength hinterval k (1 + j) (by omega)
  refine ⟨{ d₀ with burst := some { start := r.stampOf k, certain := true, peak := x } }, d', ?_⟩
  rw [hu, State.sampleTrack, hcover]
  conv_lhs => rw [hcut]
  rw [Track.samples_append, hquiet, htake, Nat.zero_add, Track.samples_cons, hedge, hrest]

/-- A report that ends a burst makes one end event (R105, R106). -/
theorem State.sampleTrack_ends (o : OpenBurst) (stop : Instant) (certain : Bool) (h : s.endsBurst r o stop certain) (n : Nat) :
    ∃ d d' v, s.sampleTrack n r = ((Track.begin (s.withDetector d)).endEvent v).heard d' ∧ v.channel = n ∧ v.start = o.start
      ∧ v.stopCertain = certain ∧ v.measured = (stop - o.start).toNat := by
  rcases h with ⟨hopen, ⟨rfl, hcontinues, k, rfl, hheard, ⟨x, hx, hlow⟩, hbefore, hshort, hafter⟩ |
    ⟨rfl, hbreaks, ⟨older, y, hspans, rfl⟩, hquiet⟩⟩
  · obtain ⟨d₀, hcover, hd₀⟩ : ∃ d, s.coverTrack n r = (Track.begin s).heard d ∧ d.burst = some o :=
      ⟨s.detector.withSpans (s.detector.cover r (s.detector.continuedFrom r).isSome),
        by rw [State.coverTrack, if_pos ((s.reportContinues_iff r).1 hcontinues)]; rfl, hopen⟩
    obtain ⟨hk, hxk⟩ := List.getElem?_eq_some_iff.1 hx
    have hcut : r.samples = r.samples.take k ++ x :: r.samples.drop (k + 1) := by
      rw [← hxk, ← List.drop_eq_getElem_cons hk, List.take_append_drop]
    have htake : (r.samples.take k).length = k := by rw [List.length_take]; omega
    obtain ⟨d₁, peak, hraised, hd₁⟩ := Track.samples_open n r (s.detector.continuedFrom r) (r.samples.take k) 0 ((Track.begin s).heard d₀) o
      hd₀ fun j y hy hj => by
        rw [Nat.zero_add, ← s.hearsSample_iff r j] at hj
        have hjk : j < k := by
          have hlt := (List.getElem?_eq_some_iff.1 hy).1
          omega
        rw [List.getElem?_take_of_lt hjk] at hy
        rw [Nat.zero_add]
        exact ⟨hbefore j y hjk hy hj, hshort j hjk.le hj⟩
    rw [Track.heard_heard] at hraised
    have hedge : (if (s.detector.continuedFrom r).any (before (r.stampOf k)) then (Track.begin s).heard d₁
        else ((Track.begin s).heard d₁).sample n (r.stampOf k) (decide (k ≠ 0) || (s.detector.continuedFrom r).isSome) x)
        = (Track.begin (s.withDetector { d₁ with burst := none })).endEvent (({ o with peak } : OpenBurst).ended n (r.stampOf k) true) := by
      rw [(s.hearsSample_iff r k).1 hheard, if_neg Bool.false_ne_true, Track.sample,
        show ((Track.begin s).heard d₁).state.detector.burst = some { o with peak } from hd₁]
      dsimp only
      rw [if_neg (Nat.not_le_of_lt (hshort k le_rfl hheard))]
      refine (if_pos hlow).trans ?_
      rw [Track.endBurst, show ((Track.begin s).heard d₁).state.detector.burst = some { o with peak } from hd₁]
      rfl
    suffices hsampled : s.sampleTrack n r =
        (Track.begin (s.withDetector { d₁ with burst := none })).endEvent (({ o with peak } : OpenBurst).ended n (r.stampOf k) true) from
      ⟨_, _, _, hsampled.trans (Track.heard_self _).symm, rfl, rfl, rfl, rfl⟩
    rw [State.sampleTrack, hcover]
    conv_lhs => rw [hcut]
    rw [Track.samples_append, hraised, htake, Nat.zero_add, Track.samples_cons, hedge]
    refine Track.samples_idle n r _ _ (k + 1) _ ?_ fun j y hy _ => ?_
    · rw [(Track.endEvent_keeps _ _).2.2.2.2.2.2.2.2.2.2.1]
      rfl
    · rw [List.getElem?_drop] at hy
      rw [State.settings, (Track.endEvent_keeps _ _).2.2.2.2.2.2.2.2.2.2.2.2.1]
      exact hafter _ y (by omega) hy
  · have hnone : ¬ (s.detector.continuedFrom r).isSome = true := fun h => hbreaks ((s.reportContinues_iff r).2 h)
    have hcover : s.coverTrack n r = ((Track.begin (s.withDetector { s.detector with burst := none })).endEvent (o.ended n y.stop false)).modDetector
        fun d => d.withSpans (d.cover r (s.detector.continuedFrom r).isSome) := by
      rw [State.coverTrack, if_neg hnone, s.detector.newestEnd_append older y hspans, Track.closeAtBreak]
      dsimp only
      rw [Track.endBurst, show (Track.begin s).state.detector.burst = some o from hopen]
      rfl
    rw [Track.modDetector_eq_heard] at hcover
    suffices hsampled : s.sampleTrack n r = s.coverTrack n r from ⟨_, _, _, hsampled.trans hcover, rfl, rfl, rfl, rfl⟩
    rw [State.sampleTrack, hcover]
    refine Track.samples_idle n r _ _ 0 _ ?_ fun j x hx _ => ?_
    · show Detector.burst (Track.state (Track.endEvent _ _)).detector = none
      rw [(Track.endEvent_keeps _ _).2.2.2.2.2.2.2.2.2.2.1]
      rfl
    · show x < (Track.state (Track.endEvent _ _)).engine.settings.onLevel
      rw [(Track.endEvent_keeps _ _).2.2.2.2.2.2.2.2.2.2.2.2.1]
      exact hquiet x (List.mem_of_getElem? hx)

end

end Sys2Proof.Machine

/-! PROOFS. What a report with one burst edge teaches (R121 to R125). -/

namespace Sys2Proof.Machine

section
variable (s : State) (r : EnergyReport) (hradio : s.south.radio = .onChannel r.channel) (honly : s.onlySamplesTeach r)
include hradio honly

/-- A report that starts a burst, as one start event. -/
theorem State.energyReport_starts (hlength : r.samples.length ≤ 128) (hinterval : r.interval ≤ 256) (k : Nat) (h : s.startsBurst r k) :
    ∃ d d', s.energyReport r =
      (((Track.begin (s.withDetector d)).startEvent { channel := r.channel, start := r.stampOf k }).heard d').checkDeferred.handOn := by
  obtain ⟨d, d₁, hsamples⟩ := s.sampleTrack_starts r hlength hinterval k h r.channel
  obtain ⟨d', hreport⟩ := s.detectionReport_of_samples r honly r.channel _ d₁ hsamples
  exact ⟨d, d', (s.energyReport_on r hradio).trans hreport⟩

/-- A report that ends a burst, as one end event. -/
theorem State.energyReport_ends (o : OpenBurst) (stop : Instant) (certain : Bool) (h : s.endsBurst r o stop certain) :
    ∃ d d' v, s.energyReport r = (((Track.begin (s.withDetector d)).endEvent v).heard d').checkDeferred.handOn
      ∧ v.channel = r.channel ∧ v.start = o.start ∧ v.stopCertain = certain ∧ v.measured = (stop - o.start).toNat := by
  obtain ⟨d, d₁, v, hsamples, hv⟩ := s.sampleTrack_ends r o stop certain h r.channel
  obtain ⟨d', hreport⟩ := s.detectionReport_of_samples r honly r.channel _ d₁ hsamples
  exact ⟨d, d', v, (s.energyReport_on r hradio).trans hreport, hv⟩

end

/-- An event of the tracker leaves what an addition's test reads. -/
theorem State.gatesAs_startEvent (s : State) (d d' : Detector) (v : BurstStart) :
    s.gatesAs (((Track.begin (s.withDetector d)).startEvent v).heard d').state := by
  refine ⟨?_, ?_, ?_, ?_, ?_, ?_⟩ <;> simp [Track.heard, Track.begin]

/-- An event that hands on no addition leaves the gate and the south output. -/
theorem Track.gate_handOn_of_none (t : Track) (h : t.additions = []) : t.handOn.gate = t.state.gate ∧ t.handOn.south = t.state.south := by
  obtain ⟨hgate, hsouth⟩ := t.handOn_gate
  rw [h] at hgate hsouth
  exact ⟨hgate, hsouth⟩

/-! ### A start event's report (R121, R122) -/

section
variable (s t : State) (d d' : Detector) (v : BurstStart) (ht : t = (((Track.begin (s.withDetector d)).startEvent v).heard d').checkDeferred.handOn)
include ht

/-- An unmatched start is recorded, and nothing else (R121). -/
theorem start_unmatched (hquiet : ∀ i, (s.slot i).deferred = false)
    (hnone : ∀ j e low high, (s.slot j).entry = some e → e.kind = .oven low high → s.settings.ovenCapture < (e.error v.start).natAbs) :
    t.sources = { s.sources with record := some { start := v.start, result := .unmatched } } ∧ t.gate = s.gate := by
  have hbest : (Track.begin (s.withDetector d)).state.bestMatch v.start = none :=
    (State.bestMatch_eq_none_iff _ _).2 fun i e ⟨hentry, ⟨low, high, hkind⟩, hnear⟩ =>
      absurd hnear (Nat.not_le_of_lt (hnone i e low high hentry hkind))
  rw [ht, Track.startEvent_unmatched _ v hbest, Track.checkDeferred_of_none _ hquiet]
  exact ⟨by simp; rfl, (Track.gate_handOn_of_none _ rfl).1⟩

variable (i : Fin 16) (e : Source) (low high : Nat) (hentry : (s.slot i).entry = some e) (hkind : e.kind = .oven low high)
  (hnear : (e.error v.start).natAbs ≤ s.settings.ovenCapture)
  (hbest : ∀ j e' low' high', j ≠ i → (s.slot j).entry = some e' → e'.kind = .oven low' high' →
    (e.error v.start).natAbs < (e'.error v.start).natAbs ∨ ((e.error v.start).natAbs = (e'.error v.start).natAbs ∧ i < j))
include hentry hkind hnear hbest

omit ht in
/-- The nearest entry is the match, the lowest slot among equals (R121). -/
theorem start_bestMatch : (Track.begin (s.withDetector d)).state.bestMatch v.start = some (i, e) := by
  refine (State.bestMatch_eq_some_iff _ _ i e).2 ⟨⟨hentry, ⟨low, high, hkind⟩, hnear⟩, fun j f ⟨hf, ⟨low', high', hfk⟩, _⟩ => ?_⟩
  by_cases hj : j = i
  · subst hj
    rw [show f = e from Option.some.inj (hf.symm.trans hentry)]
    exact Or.inr ⟨rfl, le_rfl⟩
  · rcases hbest j f low' high' hj hf hfk with h | ⟨h, hlt⟩
    · exact Or.inl h
    · exact Or.inr ⟨h, hlt.le⟩

/-- A host-owned entry, or one matched before, is named in the record alone (R122). -/
theorem start_held (hquiet : ∀ i, (s.slot i).deferred = false)
    (hheld : (s.slot i).owner = .host ∨ e.alreadyMatched v.start = true) :
    t.sources = { s.sources with record := some { start := v.start, result := .slot i } } ∧ t.gate = s.gate := by
  rw [ht, Track.startEvent_held _ v i e (start_bestMatch s d v i e low high hentry hkind hnear hbest) hheld, Track.checkDeferred_of_none _ hquiet]
  exact ⟨by simp; rfl, (Track.gate_handOn_of_none _ rfl).1⟩

/-- A learned entry takes the match (R122). -/
theorem start_learned (hquiet : ∀ i, (s.slot i).deferred = false) (howner : (s.slot i).owner = .learn)
    (hnew : ¬ e.alreadyMatched v.start = true) :
    let e' := e.ovenMatched s.settings v.channel v.start
    t.sources.record = some { start := v.start, result := .slot i } ∧ (∀ j, j ≠ i → t.slot j = s.slot j)
      ∧ t.slot i = matchedSlot s.settings s.clock.now e'
      ∧ (e.state = .acquiring → e'.state = .locked → t.flag .sourceLocked = true
          ∧ t.gate = (State.addBusy { s with sources := t.sources } (.source i)).gate
          ∧ t.south = (State.addBusy { s with sources := t.sources } (.source i)).south)
      ∧ (¬ (e.state = .acquiring ∧ e'.state = .locked) → t.gate = s.gate ∧ t.south = s.south) := by
  have hsame := s.gatesAs_startEvent d d' v
  rw [Track.startEvent_learned _ v i e (start_bestMatch s d v i e low high hentry hkind hnear hbest) howner hnew] at hsame ht
  generalize hbase : ({ (Track.begin (s.withDetector d)) with
    state := (Track.begin (s.withDetector d)).state.withRecord (some { start := v.start, result := .slot i }) } : Track) = w at hsame ht
  obtain ⟨changed, hmatch⟩ := w.matchOven_eq i e v.channel v.start
  have hsettings : w.state.settings = s.settings := by rw [← hbase]; rfl
  rw [hmatch, hsettings] at hsame ht
  generalize he' : e.ovenMatched s.settings v.channel v.start = e' at hsame ht ⊢
  have hmatched : e'.matched = true := by rw [← he']; rfl
  have hstates : e'.state = .acquiring ∨ e'.state = .locked := by
    rw [← he', e.ovenMatched_eq _ _ _ low high hkind]
    dsimp only
    split
    · exact Or.inl rfl
    · exact Or.inr rfl
  obtain ⟨hstate, hadditions, hraised⟩ := w.settle_learned i (some e.state) e' changed (by rw [← hbase]; exact howner) (Or.inl hmatched)
  generalize w.settle i (some e.state) e' changed = u at hstate hadditions hraised hsame ht
  have hslot : (u.heard d').state.slot i = matchedSlot s.settings s.clock.now e' := by
    rw [Track.slot_heard, hstate, State.slot_setSlot_self, ← hbase]
    rfl
  have hothers (j : Fin 16) (hj : j ≠ i) : (u.heard d').state.slot j = s.slot j := by
    rw [Track.slot_heard, hstate, State.slot_setSlot_other _ i j _ (Ne.symm hj), ← hbase]
    rfl
  have hnone : (u.heard d').checkDeferred = u.heard d' := by
    refine Track.checkDeferred_of_none _ fun j => ?_
    by_cases hj : j = i
    · rw [hj, hslot, deferred_matchedSlot]
    · rw [hothers j hj, hquiet j]
  have hadded : (u.heard d').additions =
      if e'.applicable s.south.radio && !((some e.state).map SourceState.busy).getD false then [.source i] else [] := by
    refine hadditions.trans ?_
    rw [← hbase]
    rfl
  obtain ⟨hquietGate, hfreshGate⟩ := Track.handOn_settled s (u.heard d') i (some e.state) _ _ e' hsame hslot hadded
  rw [hnone] at ht
  rw [← ht] at hquietGate hfreshGate
  have hslots (j : Fin 16) : t.slot j = (u.heard d').state.slot j := ht ▸ Track.slot_handOn _ j
  refine ⟨?_, fun j hj => (hslots j).trans (hothers j hj), (hslots i).trans hslot, fun hacquiring hlocked => ⟨?_, ?_⟩,
    fun hnot => hquietGate ?_⟩
  · rw [ht, (Track.handOn_keeps _).2.2.2.2.2.2.1]
    show u.state.sources.record = _
    rw [hstate, ← hbase]
    rfl
  · rw [ht]
    refine Track.flag_handOn _ _ ?_
    show EventFlag.sourceLocked ∈ u.raised
    rw [hraised, hacquiring, hlocked]
    simp
  · exact hfreshGate (by rw [hacquiring]; rfl)
  · by_cases hacquiring : e.state = .acquiring
    · exact Or.inr (by rw [hstates.resolve_right fun h => hnot ⟨hacquiring, h⟩]; rfl)
    · refine Or.inl ?_
      cases hs : e.state with
      | acquiring => exact absurd hs hacquiring
      | locked => rfl
      | coasting => rfl

end

/-! ### An end event's report (R121, R123, R124) -/

section
variable (s t : State) (d d' : Detector) (v : BurstEnd) (ht : t = (((Track.begin (s.withDetector d)).endEvent v).heard d').checkDeferred.handOn)
include ht

/-- An end event hands on no addition (R123, R124). -/
theorem end_gate : t.gate = s.gate := by
  rw [ht, (Track.gate_handOn_of_none _ ?_).1]
  · simp [Track.heard, Track.begin]
  · rw [Track.checkDeferred_additions]
    exact Track.endEvent_additions _ v

/-- The sources after an end event that leaves no check deferred. -/
theorem end_sources (u : Track) (hu : (Track.begin (s.withDetector d)).endEvent v = u) (h : ∀ j, (u.state.slot j).deferred = false) :
    t.sources = u.state.sources := by
  rw [ht, hu, Track.checkDeferred_of_none (u.heard d') h, (Track.handOn_keeps _).2.2.2.2.2.2.1]
  rfl

/-- No record is left of a burst that has ended (R121). -/
theorem end_record (h : ((Track.begin (s.withDetector d)).endEvent v).state.sources.record = none) :
    t.sources.record = none := by
  rw [ht, (Track.handOn_keeps _).2.2.2.2.2.2.1]
  exact Track.checkDeferred_record _ h

variable (hquiet : ∀ i, (s.slot i).deferred = false)
include hquiet

theorem end_stranger (h : ∀ m, s.sources.record = some m → m.start ≠ v.start) :
    t.sources = s.sources :=
  end_sources s t d d' v ht _ (Track.endEvent_stranger _ v h) hquiet

theorem end_withdrawn (h : s.sources.record = some { start := v.start, result := .withdrawn }) :
    t.sources = { s.sources with record := none } :=
  end_sources s t d d' v ht _ (Track.endEvent_withdrawn _ v h) hquiet

/-- The end of a matched burst moves the entry's duration at most (R123). -/
theorem end_slot (i : Fin 16) (h : s.sources.record = some { start := v.start, result := .slot i }) :
    t.sources.record = none ∧ (∀ j, j ≠ i → t.slot j = s.slot j)
      ∧ t.slot i = ((Track.begin (s.withDetector d)).updateDuration i v.stopCertain v.measured).state.slot i := by
  obtain ⟨hothers, hdeferred⟩ := (Track.begin (s.withDetector d)).updateDuration_slots i v.stopCertain v.measured
  have hend := Track.endEvent_slot (Track.begin (s.withDetector d)) v i h
  have hsources := end_sources s t d d' v ht _ hend fun j => by
    by_cases hj : j = i
    · rw [hj]
      exact hdeferred.trans (hquiet i)
    · exact (congrArg Slot.deferred (hothers j hj)).trans (hquiet j)
  have hslots (j : Fin 16) := State.slot_of_sources hsources j
  exact ⟨congrArg Sources.record hsources, fun j hj => (hslots j).trans (hothers j hj), hslots i⟩

/-- The end of an unmatched burst outside the band leaves the table (R124). -/
theorem end_short (h : s.sources.record = some { start := v.start, result := .unmatched }) (hband : ¬ inBurstBand s.settings v.measured = true) :
    t.sources = { s.sources with record := none } :=
  end_sources s t d d' v ht _ (Track.endEvent_short _ v h hband) hquiet

/-- A full table takes no new entry (R125). -/
theorem end_full (h : s.sources.record = some { start := v.start, result := .unmatched }) (hband : inBurstBand s.settings v.measured = true)
    (hfull : s.noNewSlot) :
    t.sources = { s.sources with record := none } ∧ t.flag .sourceTableFull = true := by
  have hend := Track.endEvent_founds (Track.begin (s.withDetector d)) v h hband
  rw [Track.create_full _ _ hfull] at hend
  refine ⟨end_sources s t d d' v ht _ hend hquiet, ht ▸ Track.flag_handOn _ _ ?_⟩
  rw [hend, Track.checkDeferred_of_none _ hquiet]
  exact List.mem_append_right _ (List.mem_singleton.2 rfl)

/-- A new ACQUIRING entry of the default period (R124, R125). -/
theorem end_founds (h : s.sources.record = some { start := v.start, result := .unmatched }) (hband : inBurstBand s.settings v.measured = true)
    (i : Fin 16) (hslot : s.newSlotIs i)
    (hwaits : atOrBefore ((newOven s.settings v.channel v.start v.measured).checkTime s.settings) s.clock.now = false) :
    t.slot i =
        { owner := .learn, entry := some (newOven s.settings v.channel v.start v.measured)
          timer := some ((newOven s.settings v.channel v.start v.measured).checkTime s.settings), deferred := false }
      ∧ ∀ j, j ≠ i → t.slot j = s.slot j := by
  have hend := Track.endEvent_founds (Track.begin (s.withDetector d)) v h hband
  rw [Track.create_eq _ _ i hslot] at hend
  generalize hbase : ({ (Track.begin (s.withDetector d)) with
    state := { (Track.begin (s.withDetector d)).state with
      sources := (Track.begin (s.withDetector d)).state.sources.withdraw i } } : Track) = w at hend
  have hslots (j : Fin 16) : w.state.slot j = s.slot j := by rw [← hbase]; exact (s.withDetector d).slot_withdraw i j
  have hclock : w.state.settings = s.settings ∧ w.state.now = s.clock.now := by rw [← hbase]; exact ⟨rfl, rfl⟩
  change _ = { Track.settle w i none (newOven s.settings v.channel v.start v.measured) false with
    state := (Track.settle w i none (newOven s.settings v.channel v.start v.measured) false).state.withRecord none } at hend
  generalize newOven s.settings v.channel v.start v.measured = e at hwaits hend ⊢
  obtain ⟨hstate, -, -⟩ := w.settle_learned i none e false (by rw [hslots]; exact hslot.1)
    (Or.inr (by rw [hclock.1, hclock.2]; exact hwaits))
  rw [hclock.1, hclock.2, matchedSlot_of_waits _ _ _ hwaits] at hstate
  have hself : (w.settle i none e false).state.slot i =
      { owner := .learn, entry := some e, timer := some (e.checkTime s.settings), deferred := false } := by
    rw [hstate, State.slot_setSlot_self]
  have hothers (j : Fin 16) (hj : j ≠ i) : (w.settle i none e false).state.slot j = s.slot j := by
    rw [hstate, State.slot_setSlot_other _ i j _ (Ne.symm hj), hslots]
  have hsources := end_sources s t d d' v ht _ hend fun j => by
    by_cases hj : j = i
    · rw [hj]
      exact congrArg Slot.deferred hself
    · exact (congrArg Slot.deferred (hothers j hj)).trans (hquiet j)
  exact ⟨(State.slot_of_sources hsources i).trans hself, fun j hj => (State.slot_of_sources hsources j).trans (hothers j hj)⟩

end

/-- An unmatched burst's entry, its default period in the band (R124). -/
theorem newOven_eq (c : Settings) (n : Nat) (b : Instant) (measured : Nat) (hc : c.consistent = true) :
    newOven c n b measured =
      { kind := .oven n n, state := .acquiring, start := plus b c.ovenPeriodDefault, period := c.ovenPeriodDefault
        duration := clampNat 64 (c.ovenPeriodDefault - c.guardLead - c.guardTrail - 256) measured
        matchCount := 1, missRun := 0, matched := false } := by
  have hbounds := c.consistent_bounds hc
  rw [newOven, Source.clamp_oven c _ n n rfl (by dsimp only; omega) (by dsimp only; omega)]
  rfl

/-- Settles O21: the report's one edge is one event at the tracker, taken case by case. -/
theorem burstsTeachTheOvens : Obligations.BurstsTeachTheOvens := by
  intro s f r harrives hkind hread hradio hlawful honly c n
  obtain ⟨hlength, hinterval⟩ := readEnergy_bounds f.header f.payload r hread
  have hquiet := honly.1
  have hexec := exec_energyReport_of_southArriving s f r harrives hkind hread
  have hframe : (s.energyReport r).fifo = s.fifo ∧ (s.energyReport r).store = s.store ∧ (s.energyReport r).ring = s.ring
      ∧ (s.energyReport r).engine = s.engine ∧ (s.energyReport r).clock = s.clock := by simp
  have hstarted := s.energyReport_starts r hradio honly hlength hinterval
  have hended := s.energyReport_ends r hradio honly
  generalize s.energyReport r = t at hexec hframe hstarted hended
  obtain ⟨hfifo, hstore, hring, hengine, hclock⟩ := hframe
  refine ⟨t, hexec, hfifo, hstore, hring, hengine, hclock, fun k hstarts => ?_, fun o stop certain hends => ?_⟩
  · obtain ⟨d, d', hreport⟩ := hstarted k hstarts
    intro b
    refine ⟨start_unmatched s t d d' { channel := r.channel, start := r.stampOf k } hreport hquiet, fun i e low high hentry hoven hnear hbest => ?_⟩
    intro err seen
    obtain ⟨hpmin, hpmax⟩ : 15000 ≤ e.period ∧ e.period ≤ 22000 := by
      have hbounds := s.settings.consistent_bounds hlawful.1
      obtain ⟨-, -, -, -, hranges⟩ := hlawful.2.2 i e hentry
      rw [hoven] at hranges
      dsimp only at hranges
      omega
    have hseen : e.alreadyMatched (r.stampOf k) = true ↔ seen := e.alreadyMatched_iff _ (by omega) (by omega)
    by_cases hheld : (s.slot i).owner = .host ∨ e.alreadyMatched (r.stampOf k) = true
    · obtain ⟨hsources, hgate⟩ := start_held s t d d' { channel := r.channel, start := r.stampOf k } hreport i e low high hentry hoven hnear hbest hquiet hheld
      have hslots (j : Fin 16) := (State.slot_of_sources (s := { s with sources := { s.sources with record := some { start := r.stampOf k, result := .slot i } } }) hsources j)
      refine ⟨by rw [hsources], fun j _ => hslots j, fun _ => ⟨hslots i, hgate⟩, fun howner hnew => ?_⟩
      rcases hheld with h | h
      · exact absurd (howner.symm.trans h) (by decide)
      · exact absurd (hseen.1 h) hnew
    · obtain ⟨hhost, hnew⟩ := not_or.1 hheld
      have howner : (s.slot i).owner = .learn := by
        cases ho : (s.slot i).owner with
        | learn => rfl
        | host => exact absurd ho hhost
      obtain ⟨hrecord, hothers, hslot, hlock, hnolock⟩ :=
        start_learned s t d d' { channel := r.channel, start := r.stampOf k } hreport i e low high hentry hoven hnear hbest hquiet howner hnew
      rw [e.ovenMatched_eq _ _ _ low high hoven] at hslot hlock hnolock
      refine ⟨hrecord, hothers, fun h => absurd (h.imp_right hseen.2) hheld, fun _ _ => ⟨hslot, hlock, hnolock⟩⟩
  · obtain ⟨d, d', v, hreport, hchannel, hstart, hcertain, hmeasured⟩ := hended o stop certain hends
    intro measured ofOven
    have hband : inBurstBand s.settings v.measured = true ↔ ofOven := by rw [hmeasured]; exact inBurstBand_iff _ _
    refine ⟨end_gate s t d d' v hreport, fun h => end_stranger s t d d' v hreport hquiet (hstart ▸ h), fun h => end_withdrawn s t d d' v hreport hquiet (hstart ▸ h),
      fun i h => ?_, fun h => ?_⟩
    · obtain ⟨hrecord, hothers, hslot⟩ := end_slot s t d d' v hreport hquiet i (hstart ▸ h)
      refine ⟨hrecord, hothers, fun e low high howner hentry hoven hsure hof => hslot.trans ?_, fun hidle => hslot.trans ?_⟩
      · obtain ⟨-, -, -, -, hranges⟩ := hlawful.2.2 i e hentry
        rw [hoven] at hranges
        rw [hcertain, hsure, (Track.begin (s.withDetector d)).updateDuration_slot i v.measured e low high howner hentry hoven
          (hband.2 hof) hranges.1 hranges.2.1, hmeasured]
        rfl
      · rw [Track.updateDuration_idle _ i _ _ (hidle.imp_right (Or.imp (hcertain.trans ·) fun hnot hin => hnot (hband.1 hin)))]
        rfl
    · have hrecorded : s.sources.record = some { start := v.start, result := .unmatched } := hstart ▸ h
      refine ⟨?_, fun hnot => ?_, fun hof hfull => ?_, fun i hof hslot => ?_⟩
      · refine end_record s t d d' v hreport ?_
        by_cases hin : inBurstBand s.settings v.measured = true
        · rw [Track.endEvent_founds _ v hrecorded hin]
          rfl
        · rw [Track.endEvent_short _ v hrecorded hin]
          rfl
      · rw [end_short s t d d' v hreport hquiet hrecorded fun hin => hnot (hband.1 hin)]
      · obtain ⟨hsources, hflag⟩ := end_full s t d d' v hreport hquiet hrecorded (hband.2 hof) hfull
        exact ⟨by rw [hsources], hflag⟩
      · intro period check hwaits
        have hfounded := newOven_eq s.settings v.channel v.start v.measured hlawful.1
        rw [hchannel, hstart, hmeasured] at hfounded
        have hnew := end_founds s t d d' v hreport hquiet hrecorded (hband.2 hof) i hslot
        rw [hchannel, hstart, hmeasured, hfounded] at hnew
        exact hnew hwaits

end Sys2Proof.Machine

/-! PROOFS. Busy intervals on the air clock (4.2). -/

namespace Sys2Proof.Machine

/-- Distances add up within half the clock's circle. -/
theorem distance_plus (x u : Instant) (k : Nat) (hlow : -2147483648 ≤ distance x u + k) (hhigh : distance x u + k < 2147483648) :
    distance x (plus u k) = distance x u + k := by
  have hu := moved_distance x u
  rw [plus_eq_moved]
  conv_lhs => rw [← hu]
  rw [moved_moved]
  exact distance_moved x _ hlow hhigh

/-- The distance between two instants of known distance from a third. -/
theorem distance_between (x u v : Instant) (hlow : -2147483648 ≤ distance x v - distance x u) (hhigh : distance x v - distance x u < 2147483648) :
    distance u v = distance x v - distance x u := by
  have hv : v = moved u (distance x v - distance x u) := by
    calc v = moved x (distance x u + (distance x v - distance x u)) := by rw [add_sub_cancel, moved_distance]
      _ = moved (moved x (distance x u)) (distance x v - distance x u) := (moved_moved _ _ _).symm
      _ = moved u (distance x v - distance x u) := by rw [moved_distance]
  conv_lhs => rw [hv]
  exact distance_moved u _ hlow hhigh

/-- The way forward to an instant that is not before. -/
theorem toNat_sub_of_distance (u v : Instant) (h : 0 ≤ distance u v) : ((v - u).toNat : Int) = distance u v := by
  rw [distance, if_pos ((atOrBefore_iff u v).2 h)]

/-! ### Intervals of a source entry (R54) -/

/-- What the intervals of a lawful entry rest on: they are apart, and not empty (R116). -/
def Source.paced (c : Settings) (e : Source) : Prop := 1 ≤ e.duration ∧ e.guarded c ≤ e.period ∧ e.period ≤ 1048576

theorem Source.paced_of_lawful (c : Settings) (e : Source) (hc : c.consistent = true) (h : e.lawful c) : e.paced c := by
  have hbounds := c.consistent_bounds hc
  obtain ⟨hmin, hmax, -, -, hkind⟩ := h
  unfold Source.paced Source.guarded
  cases hk : e.kind with
  | oven low high => rw [hk] at hkind; dsimp only at hkind; omega
  | beacon n tag => rw [hk] at hkind; dsimp only at hkind; omega

/-- Two readings of a number but for whole periods are the same. -/
theorem eq_of_periods {p : Nat} {a b : Nat} {m n : Int} (ha : a < p) (hb : b < p) (h : m * (p : Int) + a = n * (p : Int) + b) : a = b := by
  have hmod := congrArg (· % (p : Int)) h
  simp only [add_comm (_ * (p : Int)), Int.add_mul_emod_self_right] at hmod
  rw [Int.emod_eq_of_lt (by omega) (by omega), Int.emod_eq_of_lt (by omega) (by omega)] at hmod
  exact_mod_cast hmod

section
variable (c : Settings) (e : Source) (u : Instant) (h : e.paced c)
include h

theorem Source.phase_lt : e.phase c u < e.period := by
  obtain ⟨hduration, hguarded, -⟩ := h
  unfold Source.guarded at hguarded
  have hpos : (0 : Int) < e.period := by omega
  have hlow := Int.emod_nonneg (distance e.start u + c.guardLead) hpos.ne'
  have hhigh := Int.emod_lt_of_pos (distance e.start u + c.guardLead) hpos
  unfold Source.phase
  omega

/-- The phase is the distance with the lead, but for whole periods (R54 step 2). -/
theorem Source.phase_spec : ∃ m : Int, distance e.start u + c.guardLead = m * e.period + e.phase c u := by
  obtain ⟨hduration, hguarded, -⟩ := h
  unfold Source.guarded at hguarded
  have hpos : (0 : Int) < e.period := by omega
  have hlow := Int.emod_nonneg (distance e.start u + c.guardLead) hpos.ne'
  have hdivide := Int.mul_ediv_add_emod (distance e.start u + c.guardLead) e.period
  refine ⟨(distance e.start u + c.guardLead) / e.period, ?_⟩
  rw [Source.phase, Int.toNat_of_nonneg hlow]
  linarith

/-- An instant is busy by its phase (R54 step 3). -/
theorem Source.busyAt_iff : e.busyAt c u ↔ e.phase c u < e.guarded c := by
  obtain ⟨m, hm⟩ := e.phase_spec c u h
  have hlt := e.phase_lt c u h
  obtain ⟨-, hguarded, -⟩ := h
  constructor
  · rintro ⟨n, hlow, hhigh⟩
    obtain ⟨r, hr⟩ := Int.eq_ofNat_of_zero_le (a := distance e.start u + c.guardLead - n * e.period) (by linarith)
    have hrg : r < e.guarded c := by
      unfold Source.guarded
      have : (r : Int) < c.guardLead + e.duration + c.guardTrail := by rw [← hr]; linarith
      exact_mod_cast this
    have hsame : e.phase c u = r := eq_of_periods hlt (hrg.trans_le hguarded) (m := m) (n := n) (by linarith)
    exact hsame ▸ hrg
  · intro hbusy
    unfold Source.guarded at hbusy
    have hbusy' : (e.phase c u : Int) < c.guardLead + e.duration + c.guardTrail := by exact_mod_cast hbusy
    exact ⟨m, by linarith [Int.natCast_nonneg (e.phase c u)], by linarith⟩

variable (k : Nat) (hnear : (distance e.start u).natAbs ≤ 1610612736)
include hnear

/-- The phase runs with the clock up to the next period. -/
theorem Source.phase_plus (hk : e.phase c u + k < e.period) : e.phase c (plus u k) = e.phase c u + k := by
  obtain ⟨m, hm⟩ := e.phase_spec c u h
  obtain ⟨n, hn⟩ := e.phase_spec c (plus u k) h
  have hlt := e.phase_lt c (plus u k) h
  obtain ⟨-, -, hperiod⟩ := h
  rw [distance_plus _ _ _ (by omega) (by omega)] at hn
  exact eq_of_periods hlt hk (m := n) (n := m) (by push_cast; linarith)

/-- The next interval begins where the phase begins again. -/
theorem Source.phase_nextStart : e.phase c (plus u (e.nextStart c u)) = 0 := by
  obtain ⟨m, hm⟩ := e.phase_spec c u h
  obtain ⟨n, hn⟩ := e.phase_spec c (plus u (e.nextStart c u)) h
  have hlt := e.phase_lt c (plus u (e.nextStart c u)) h
  have hphase := e.phase_lt c u h
  obtain ⟨-, -, hperiod⟩ := h
  have hnext : e.nextStart c u = e.period - e.phase c u := rfl
  rw [distance_plus _ _ _ (by omega) (by omega), hnext] at hn
  refine eq_of_periods hlt (by omega) (m := n) (n := m + 1) ?_
  rw [hnext, ← hn]
  push_cast [hphase.le]
  linarith

theorem Source.busyAt_nextStart : e.busyAt c (plus u (e.nextStart c u)) := by
  rw [e.busyAt_iff c _ h, e.phase_nextStart c u h hnear]
  have hduration := h.1
  unfold Source.guarded
  omega

/-- Inside an interval every instant up to its end is busy. -/
theorem Source.busyAt_of_inside (n : Nat) (hinside : e.inside c u = some n) : 1 ≤ n ∧ ∀ k, k < n → e.busyAt c (plus u k) := by
  unfold Source.inside at hinside
  split at hinside
  case isFalse => cases hinside
  case isTrue hbusy =>
    have hguarded := h.2.1
    have hn := Option.some.inj hinside
    refine ⟨by omega, fun k hk => ?_⟩
    rw [e.busyAt_iff c _ h, e.phase_plus c u h k hnear (by omega)]
    omega

/-- Outside the intervals none begins before the next start. -/
theorem Source.not_busyAt_of_lt (hclear : ¬ e.busyAt c u) (hk : k < e.nextStart c u) : ¬ e.busyAt c (plus u k) := by
  rw [e.busyAt_iff c _ h] at hclear ⊢
  have hnext : e.nextStart c u = e.period - e.phase c u := rfl
  rw [e.phase_plus c u h k hnear (by omega)]
  omega

end

theorem Source.inside_isSome_iff (c : Settings) (e : Source) (u : Instant) (h : e.paced c) : (e.inside c u).isSome = true ↔ e.busyAt c u := by
  rw [e.busyAt_iff c u h, Source.inside]
  split <;> simp_all

/-! ### The current reservation (R55) -/

/-- What the current reservation rests on: its range, and an instant near its start (R135). -/
def RingEntry.paced (e : RingEntry) : Prop := 1 ≤ e.duration ∧ e.duration ≤ 65535

/-- An instant is inside the reserved interval. -/
def RingEntry.busyAt (e : RingEntry) (u : Instant) : Prop := atOrBefore e.start u = true ∧ before u e.stop = true

section
variable (e : RingEntry) (u : Instant) (h : e.paced) (hnear : (distance e.start u).natAbs ≤ 1610612736)
include h hnear

theorem RingEntry.distance_stop : distance u e.stop = e.duration - distance e.start u := by
  obtain ⟨-, hmax⟩ := h
  have hstop : distance e.start e.stop = e.duration := by
    rw [RingEntry.stop, distance_plus _ _ _ (by rw [distance_self]; omega) (by rw [distance_self]; omega), distance_self, zero_add]
  rw [distance_between e.start u e.stop (by omega) (by omega), hstop]

/-- An instant is reserved by its distance from the start. -/
theorem RingEntry.busyAt_iff : e.busyAt u ↔ 0 ≤ distance e.start u ∧ distance e.start u < e.duration := by
  rw [RingEntry.busyAt, atOrBefore_iff, before_iff, e.distance_stop u h hnear]
  omega

end

theorem Ring.busyAt_iff (r : Ring) (u : Instant) : r.busyAt u ↔ ∃ e, r.active = some e ∧ e.busyAt u := by
  unfold Ring.busyAt Ring.active RingEntry.busyAt
  cases r.running with
  | false => simp
  | true => simp

end Sys2Proof.Machine

/-! PROOFS. Busy-set additions and what they cancel (4.6.1, 6.4). -/

namespace Sys2Proof.Machine

/-! ### The busy set near an instant (R53 to R55) -/

theorem State.mem_applicable_iff (s : State) (e : Source) :
    e ∈ s.applicable ↔ ∃ i, (s.slot i).entry = some e ∧ e.applicable s.south.radio = true := by
  unfold State.applicable State.slot
  rw [List.mem_filterMap]
  constructor
  · rintro ⟨x, hx, he⟩
    obtain ⟨hentry, happlies⟩ := Option.filter_eq_some_iff.1 he
    obtain ⟨i, hi, hxi⟩ := List.mem_iff_getElem.1 hx
    rw [Vector.length_toList] at hi
    exact ⟨⟨i, hi⟩, by rw [← hentry, ← hxi]; simp, happlies⟩
  · rintro ⟨i, hentry, happlies⟩
    exact ⟨s.sources.slots[i], by simp, Option.filter_eq_some_iff.2 ⟨hentry, happlies⟩⟩

/-- The busy set's entries are paced, and an instant lies near their stored instants. -/
def State.near (s : State) (u : Instant) : Prop :=
  (∀ e ∈ s.applicable, e.paced s.settings ∧ (distance e.start u).natAbs ≤ 1610612736)
    ∧ ∀ e, s.ring.active = some e → e.paced ∧ (distance e.start u).natAbs ≤ 1610612736

theorem natAbs_distance_plus (x u : Instant) (k : Nat) (hk : k ≤ 1048576) (h : (distance x u).natAbs ≤ 1073741824) :
    (distance x (plus u k)).natAbs ≤ 1610612736 := by
  rw [distance_plus x u k (by omega) (by omega)]
  omega

/-- Instants a search or a release looks at lie near the busy set. -/
theorem State.near_of_busyNear (s : State) (u : Instant) (hlawful : s.sourcesLawful) (h : s.busyNear u) (k : Nat) (hk : k ≤ 1048576) :
    s.near (plus u k) := by
  obtain ⟨hsources, hring⟩ := h
  refine ⟨fun e he => ⟨?_, natAbs_distance_plus _ _ _ hk (hsources e he)⟩, fun e he => ?_⟩
  · obtain ⟨i, hentry, -⟩ := (s.mem_applicable_iff e).1 he
    exact e.paced_of_lawful _ hlawful.1 (hlawful.2.2 i e hentry)
  · unfold Ring.active at he
    split at he
    case isFalse => cases he
    case isTrue hrunning =>
      obtain ⟨hnear, hmin, hmax⟩ := hring hrunning
      rw [← Option.some.inj he]
      exact ⟨⟨hmin, hmax⟩, natAbs_distance_plus _ _ _ hk hnear⟩

theorem plus_zero (u : Instant) : plus u 0 = u := by simp [plus]

/-! ### Whether a span meets busy time (R66) -/

section
variable (a b : Instant) (hmin : 1 ≤ (b - a).toNat) (hmax : (b - a).toNat ≤ 65535)
include hmin hmax

omit hmin in
theorem distance_span : distance a b = ((b - a).toNat : Int) := by
  exact if_pos (decide_eq_true (by omega))

omit hmin in
/-- An instant within reach lies before a span's end when it is nearer. -/
theorem before_plus_iff (n : Nat) (hn : n ≤ 1048576) : before (plus a n) b = true ↔ n < (b - a).toNat := by
  have hspan := distance_span a b hmax
  have hstep := distance_plus a a n (by rw [distance_self]; omega) (by rw [distance_self]; omega)
  rw [distance_self, zero_add] at hstep
  rw [before_iff, distance_between a (plus a n) b (by omega) (by omega), hspan, hstep]
  omega

/-- A span meets a source entry when some instant of it is busy. -/
theorem Source.meets_iff (c : Settings) (e : Source) (h : e.paced c) (hnear : (distance e.start a).natAbs ≤ 1610612736) :
    e.meets c a b = true ↔ ∃ k, k < (b - a).toNat ∧ e.busyAt c (plus a k) := by
  have hreach : e.nextStart c a ≤ 1048576 := (Nat.sub_le _ _).trans h.2.2
  rw [Source.meets, Bool.or_eq_true, e.inside_isSome_iff c a h, before_plus_iff a b hmax _ hreach]
  constructor
  · rintro (hbusy | hnext)
    · exact ⟨0, hmin, by rwa [plus_zero]⟩
    · exact ⟨_, hnext, e.busyAt_nextStart c a h hnear⟩
  · rintro ⟨k, hk, hbusy⟩
    by_cases hnow : e.busyAt c a
    · exact Or.inl hnow
    · exact Or.inr (lt_of_le_of_lt (Nat.le_of_not_lt fun hlt => e.not_busyAt_of_lt c a h k hnear hnow hlt hbusy) hk)

/-- A span meets a reservation when some instant of it is reserved. -/
theorem RingEntry.meets_iff (e : RingEntry) (h : e.paced) (hnear : (distance e.start a).natAbs ≤ 1073741824) :
    e.meets a b = true ↔ ∃ k, k < (b - a).toNat ∧ e.busyAt (plus a k) := by
  have hspan := distance_span a b hmax
  have hb : distance e.start b = distance e.start a + (b - a).toNat := by
    have hplus : b = plus a (b - a).toNat := by rw [plus_eq_moved, ← hspan, moved_distance]
    conv_lhs => rw [hplus]
    exact distance_plus _ _ _ (by omega) (by omega)
  have hbusy (k : Nat) (hk : k < (b - a).toNat) :
      e.busyAt (plus a k) ↔ 0 ≤ distance e.start a + k ∧ distance e.start a + k < e.duration := by
    rw [e.busyAt_iff _ h (natAbs_distance_plus _ _ _ (by omega) hnear), distance_plus _ _ _ (by omega) (by omega)]
  have hlow := h.1
  rw [RingEntry.meets, Bool.and_eq_true, before_iff, before_iff, e.distance_stop a h (by omega), hb]
  constructor
  · rintro ⟨hstart, hstop⟩
    refine ⟨(-(distance e.start a)).toNat, by omega, (hbusy _ (by omega)).2 (by omega)⟩
  · rintro ⟨k, hk, hin⟩
    have hin := (hbusy k hk).1 hin
    omega

end

section
variable (s : State) (a b : Instant) (hmin : 1 ≤ (b - a).toNat) (hmax : (b - a).toNat ≤ 65535) (hlawful : s.sourcesLawful) (hnear : s.busyNear a)
include hmin hmax hlawful hnear

theorem State.source_meets_iff (e : Source) (he : e ∈ s.applicable) :
    e.meets s.settings a b = true ↔ ∃ k, k < (b - a).toNat ∧ e.busyAt s.settings (plus a k) := by
  obtain ⟨hpaced, hdistance⟩ := (s.near_of_busyNear a hlawful hnear 0 (by decide)).1 e he
  rw [plus_zero] at hdistance
  exact e.meets_iff a b hmin hmax _ hpaced hdistance

theorem State.ring_meets_iff :
    (s.ring.active.map fun e => e.meets a b).getD false = true ↔ ∃ k, k < (b - a).toNat ∧ s.ring.busyAt (plus a k) := by
  simp only [Ring.busyAt_iff]
  cases hactive : s.ring.active with
  | none => simp
  | some e =>
    have hpaced := ((s.near_of_busyNear a hlawful hnear 0 (by decide)).2 e hactive).1
    have hdistance : (distance e.start a).natAbs ≤ 1073741824 := by
      unfold Ring.active at hactive
      split at hactive
      case isFalse => cases hactive
      case isTrue hrunning => exact Option.some.inj hactive ▸ (hnear.2 hrunning).1
    simpa using e.meets_iff a b hmin hmax hpaced hdistance

/-- A span meets an addition when some instant of it is busy by the addition (R65, R66). -/
theorem State.meets_iff (x : Addition) : s.meets x a b = true ↔ ∃ k, k < (b - a).toNat ∧ s.busyBy x (plus a k) := by
  cases x with
  | source i =>
    unfold State.meets State.applicableSlot State.busyBy
    dsimp only
    cases hentry : (s.slot i).entry with
    | none => simp
    | some e =>
      by_cases happlies : e.applicable s.south.radio = true
      · have hmem : e ∈ s.applicable := (s.mem_applicable_iff e).2 ⟨i, hentry, happlies⟩
        rw [Option.filter_some, if_pos happlies]
        simpa [happlies] using s.source_meets_iff a b hmin hmax hlawful hnear e hmem
      · rw [Option.filter_some, if_neg happlies]
        simp [happlies]
  | ring => exact s.ring_meets_iff a b hmin hmax hlawful hnear
  | whole =>
    unfold State.meets State.busyBy State.busyAt
    dsimp only
    rw [Bool.or_eq_true, s.ring_meets_iff a b hmin hmax hlawful hnear, List.any_eq_true]
    constructor
    · rintro (⟨e, he, hmeets⟩ | ⟨k, hk, hring⟩)
      · obtain ⟨k, hk, hbusy⟩ := (s.source_meets_iff a b hmin hmax hlawful hnear e he).1 hmeets
        exact ⟨k, hk, Or.inl ⟨e, he, hbusy⟩⟩
      · exact ⟨k, hk, Or.inr hring⟩
    · rintro ⟨k, hk, ⟨e, he, hbusy⟩ | hring⟩
      · exact Or.inl ⟨e, he, (s.source_meets_iff a b hmin hmax hlawful hnear e he).2 ⟨k, hk, hbusy⟩⟩
      · exact Or.inr ⟨k, hk, hring⟩

end

/-! ### Cancellation (R94, R95) -/

theorem Outstanding.cancellable_eq_some_iff (e : Outstanding) (now a b : Instant) :
    e.cancellable now = some (a, b) ↔ a = e.earliest ∧ e.kind = .fitting ∧ e.cancelledSent = false ∧ e.stale = false
      ∧ ∃ l, e.latest = some l ∧ e.windowEnd = some b ∧ atOrBefore now l = true := by
  unfold Outstanding.cancellable
  cases e.latest with
  | none => simp
  | some l =>
    cases e.windowEnd with
    | none => simp
    | some w =>
      simp only [Option.ite_none_right_eq_some, Bool.and_eq_true, Bool.not_eq_true', beq_iff_eq, Option.some.injEq, Prod.mk.injEq]
      constructor
      · rintro ⟨⟨⟨⟨hkind, hsent⟩, hstale⟩, hnow⟩, rfl, rfl⟩
        exact ⟨rfl, hkind, hsent, hstale, l, rfl, rfl, hnow⟩
      · rintro ⟨rfl, hkind, hsent, hstale, l', rfl, rfl, hnow⟩
        exact ⟨⟨⟨⟨hkind, hsent⟩, hstale⟩, hnow⟩, rfl, rfl⟩

theorem State.cancels_iff (s : State) (x : Addition) (e : Outstanding) (hlawful : s.sourcesLawful) (hnear : s.busyNear e.earliest)
    (hspan : ∀ w, e.windowEnd = some w → 1 ≤ (w - e.earliest).toNat ∧ (w - e.earliest).toNat ≤ 65535) :
    s.cancels x e = true ↔ s.cancelledBy x e := by
  have hmeets (w : Instant) (hw : e.windowEnd = some w) : s.meets x e.earliest w = true ↔
      ∃ k, k < (w - e.earliest).toNat ∧ s.busyBy x (plus e.earliest k) :=
    s.meets_iff e.earliest w (hspan w hw).1 (hspan w hw).2 hlawful hnear x
  unfold State.cancels State.cancelledBy
  constructor
  · intro hcancels
    split at hcancels
    case h_1 a b hsome =>
      obtain ⟨rfl, hkind, hsent, hstale, l, hl, hw, hnow⟩ := (e.cancellable_eq_some_iff _ a b).1 hsome
      exact ⟨hkind, hsent, hstale, l, b, hl, hw, hnow, (hmeets b hw).1 hcancels⟩
    case h_2 => cases hcancels
  · rintro ⟨hkind, hsent, hstale, l, w, hl, hw, hnow, hbusy⟩
    rw [(e.cancellable_eq_some_iff s.now e.earliest w).2 ⟨rfl, hkind, hsent, hstale, l, hl, hw, hnow⟩]
    exact (hmeets w hw).2 hbusy

/-- Settles O34: the gate's own test is the hit function; off a channel an addition does nothing. -/
theorem busyAdditionsCancelWhatTheyMeet : Obligations.BusyAdditionsCancelWhatTheyMeet := by
  intro s x
  refine ⟨fun hoff => if_neg fun hon => ?_, fun n hradio hlawful htable => ?_⟩
  · obtain ⟨n, hn⟩ := (Radio.isOn_iff _).1 hon
    exact hoff n hn
  refine ⟨s.cancels x, fun e he => s.cancels_iff x e hlawful (htable e he).1 (htable e he).2, ?_⟩
  have hmark (e : Outstanding) : ({ e with cancelledSent := e.cancelledSent || s.cancels x e } : Outstanding) =
      if s.cancels x e then { e with cancelledSent := true } else e := by
    cases s.cancels x e <;> simp
  rw [State.addBusy, if_pos ((Radio.isOn_iff _).2 ⟨n, hradio⟩)]
  simp only [hmark]
  rfl

end Sys2Proof.Machine

/-! PROOFS. The search: its walk, its horizon and its result (4.3). -/

namespace Sys2Proof.Machine

/-! ### The greatest and the least of a list -/

theorem foldl_max_spec (l : List Nat) (a : Nat) :
    a ≤ l.foldl max a ∧ (∀ x ∈ l, x ≤ l.foldl max a) ∧ (l.foldl max a = a ∨ l.foldl max a ∈ l) := by
  induction l generalizing a with
  | nil => exact ⟨le_rfl, by simp, Or.inl rfl⟩
  | cons x l ih =>
    obtain ⟨hinit, hall, hattained⟩ := ih (max a x)
    rw [List.foldl_cons]
    refine ⟨(le_max_left a x).trans hinit, fun y hy => ?_, ?_⟩
    · rcases List.mem_cons.1 hy with rfl | hy
      · exact (le_max_right a y).trans hinit
      · exact hall y hy
    · rcases hattained with h | h
      · rcases max_choice a x with hm | hm
        · exact Or.inl (h.trans hm)
        · exact Or.inr (List.mem_cons.2 (Or.inl (h.trans hm)))
      · exact Or.inr (List.mem_cons_of_mem _ h)

theorem foldl_min_spec (l : List Nat) (a : Nat) :
    l.foldl min a ≤ a ∧ (∀ x ∈ l, l.foldl min a ≤ x) ∧ (l.foldl min a = a ∨ l.foldl min a ∈ l) := by
  induction l generalizing a with
  | nil => exact ⟨le_rfl, by simp, Or.inl rfl⟩
  | cons x l ih =>
    obtain ⟨hinit, hall, hattained⟩ := ih (min a x)
    rw [List.foldl_cons]
    refine ⟨hinit.trans (min_le_left a x), fun y hy => ?_, ?_⟩
    · rcases List.mem_cons.1 hy with rfl | hy
      · exact hinit.trans (min_le_right a y)
      · exact hall y hy
    · rcases hattained with h | h
      · rcases min_choice a x with hm | hm
        · exact Or.inl (h.trans hm)
        · exact Or.inr (List.mem_cons.2 (Or.inl (h.trans hm)))
      · exact Or.inr (List.mem_cons_of_mem _ h)

/-! ### The current reservation in the walk (R55) -/

section
variable (e : RingEntry) (u : Instant) (h : e.paced) (hnear : (distance e.start u).natAbs ≤ 1610612736)
include h hnear

/-- Inside the reservation every instant up to its end is reserved. -/
theorem RingEntry.busyAt_plus (hbusy : e.busyAt u) : 1 ≤ (e.stop - u).toNat ∧ ∀ k, k < (e.stop - u).toNat → e.busyAt (plus u k) := by
  have hpaced := h
  obtain ⟨-, hmax⟩ := h
  have hstop := e.distance_stop u hpaced hnear
  obtain ⟨hstart, hend⟩ := (e.busyAt_iff u hpaced hnear).1 hbusy
  have hway := toNat_sub_of_distance u e.stop (by omega)
  refine ⟨by omega, fun k hk => ?_⟩
  have hd := distance_plus e.start u k (by omega) (by omega)
  rw [e.busyAt_iff _ hpaced (by omega), hd]
  omega

/-- Before the reservation no instant up to its start is reserved, and the start is. -/
theorem RingEntry.busyAt_start (hbefore : before u e.start = true) :
    1 ≤ (e.start - u).toNat ∧ (∀ k, k < (e.start - u).toNat → ¬ e.busyAt (plus u k)) ∧ e.busyAt (plus u (e.start - u).toNat) := by
  have hpaced := h
  obtain ⟨hmin, hmax⟩ := h
  have hback : distance u e.start = -distance e.start u := by
    rw [distance_between e.start u e.start (by rw [distance_self]; omega) (by rw [distance_self]; omega), distance_self, zero_sub]
  have hahead := (before_iff u e.start).1 hbefore
  have hway := toNat_sub_of_distance u e.start (by omega)
  have hd (k : Nat) (hk : k ≤ (e.start - u).toNat) := distance_plus e.start u k (by omega) (by omega)
  refine ⟨by omega, fun k hk => ?_, ?_⟩
  · rw [e.busyAt_iff _ hpaced (by have := hd k hk.le; omega), hd k hk.le]
    omega
  · rw [e.busyAt_iff _ hpaced (by have := hd _ le_rfl; omega), hd _ le_rfl]
    omega

/-- After the reservation nothing near is reserved. -/
theorem RingEntry.not_busyAt_past (hclear : ¬ e.busyAt u) (hafter : ¬ before u e.start = true) (k : Nat) (hk : k ≤ 65536) :
    ¬ e.busyAt (plus u k) := by
  have hpaced := h
  obtain ⟨hmin, hmax⟩ := h
  have hback : distance u e.start = -distance e.start u := by
    rw [distance_between e.start u e.start (by rw [distance_self]; omega) (by rw [distance_self]; omega), distance_self, zero_sub]
  rw [before_iff] at hafter
  rw [e.busyAt_iff u hpaced hnear] at hclear
  have hd := distance_plus e.start u k (by omega) (by omega)
  rw [RingEntry.busyAt, atOrBefore_iff, before_iff, hd]
  have hstop : distance e.start e.stop = e.duration := by
    rw [RingEntry.stop, distance_plus _ _ _ (by rw [distance_self]; omega) (by rw [distance_self]; omega), distance_self, zero_add]
  rintro ⟨-, hin⟩
  rw [distance_between e.start (plus u k) e.stop (by omega) (by omega), hstop, hd] at hin
  omega

end

theorem Ring.inside_eq_some_iff (r : Ring) (u : Instant) (n : Nat) :
    r.inside u = some n ↔ ∃ e, r.active = some e ∧ e.busyAt u ∧ n = (e.stop - u).toNat := by
  unfold Ring.inside RingEntry.busyAt
  cases r.active with
  | none => simp
  | some e =>
    simp only [Option.ite_none_right_eq_some, Bool.and_eq_true, Option.some.injEq, exists_eq_left']
    exact and_congr_right fun _ => eq_comm

theorem Ring.nextStart_eq_some_iff (r : Ring) (u : Instant) (n : Nat) :
    r.nextStart u = some n ↔ ∃ e, r.active = some e ∧ before u e.start = true ∧ n = (e.start - u).toNat := by
  unfold Ring.nextStart
  cases r.active with
  | none => simp
  | some e =>
    simp only [Option.ite_none_right_eq_some, Option.some.injEq, exists_eq_left']
    exact and_congr_right fun _ => eq_comm

/-! ### One move of the walk (R57) -/

section
variable (s : State) (u : Instant) (hnear : s.near u)
include hnear

/-- What remains of an interval that contains the instant is busy. -/
theorem State.busyAt_of_inside (n : Nat)
    (hn : n ∈ (s.applicable.filterMap fun e => e.inside s.settings u) ++ (s.ring.inside u).toList) :
    1 ≤ n ∧ ∀ k, k < n → s.busyAt (plus u k) := by
  rcases List.mem_append.1 hn with hsource | hring
  · obtain ⟨e, he, hinside⟩ := List.mem_filterMap.1 hsource
    obtain ⟨hpaced, hdistance⟩ := hnear.1 e he
    obtain ⟨hpos, hbusy⟩ := e.busyAt_of_inside s.settings u hpaced hdistance n hinside
    exact ⟨hpos, fun k hk => Or.inl ⟨e, he, hbusy k hk⟩⟩
  · obtain ⟨e, hactive, hin, rfl⟩ := (s.ring.inside_eq_some_iff u n).1 (Option.mem_toList.1 hring)
    obtain ⟨hpaced, hdistance⟩ := hnear.2 e hactive
    obtain ⟨hpos, hbusy⟩ := e.busyAt_plus u hpaced hdistance hin
    exact ⟨hpos, fun k hk => Or.inr ((s.ring.busyAt_iff _).2 ⟨e, hactive, hbusy k hk⟩)⟩

/-- Everything that a move passes is busy. -/
theorem State.busyAt_of_lt_move (k : Nat) (hk : k < s.move u) : s.busyAt (plus u k) := by
  obtain ⟨-, -, hattained⟩ := foldl_max_spec ((s.applicable.filterMap fun e => e.inside s.settings u) ++ (s.ring.inside u).toList) 0
  rcases hattained with hzero | hmem
  · exact absurd hk (by rw [State.move, hzero]; exact Nat.not_lt_zero k)
  · exact (s.busyAt_of_inside u hnear _ hmem).2 k hk

/-- The walk stays exactly at a clear instant. -/
theorem State.move_eq_zero_iff : s.move u = 0 ↔ ¬ s.busyAt u := by
  constructor
  · intro hzero hbusy
    obtain ⟨-, hall, -⟩ := foldl_max_spec ((s.applicable.filterMap fun e => e.inside s.settings u) ++ (s.ring.inside u).toList) 0
    obtain ⟨n, hn⟩ : ∃ n, n ∈ (s.applicable.filterMap fun e => e.inside s.settings u) ++ (s.ring.inside u).toList := by
      rcases hbusy with ⟨e, he, hin⟩ | hring
      · have hsome := (e.inside_isSome_iff s.settings u (hnear.1 e he).1).2 hin
        obtain ⟨n, hn⟩ := Option.isSome_iff_exists.1 hsome
        exact ⟨n, List.mem_append_left _ (List.mem_filterMap.2 ⟨e, he, hn⟩)⟩
      · obtain ⟨e, hactive, hin⟩ := (s.ring.busyAt_iff u).1 hring
        exact ⟨_, List.mem_append_right _ (Option.mem_toList.2 ((s.ring.inside_eq_some_iff u _).2 ⟨e, hactive, hin, rfl⟩))⟩
    have hpos := (s.busyAt_of_inside u hnear n hn).1
    exact absurd ((hall n hn).trans_eq hzero) (Nat.not_le_of_lt hpos)
  · intro hclear
    by_contra hmoves
    have hbusy := s.busyAt_of_lt_move u hnear 0 (Nat.pos_of_ne_zero hmoves)
    rw [plus_zero] at hbusy
    exact hclear hbusy

/-! ### The horizon (R59) -/

/-- No busy time begins before the horizon of a clear instant, and one begins at a horizon below the ceiling. -/
theorem State.horizonFrom_spec (hclear : ¬ s.busyAt u) (hlow : 1 ≤ s.settings.txopCeiling) (hhigh : s.settings.txopCeiling ≤ 65536) :
    ∃ k, 1 ≤ k ∧ k ≤ s.settings.txopCeiling ∧ s.horizonFrom u = plus u k ∧ (∀ j, j < k → ¬ s.busyAt (plus u j))
      ∧ (k = s.settings.txopCeiling ∨ s.busyAt (plus u k)) := by
  obtain ⟨hceiling, hall, hattained⟩ :=
    foldl_min_spec ((s.applicable.map fun e => e.nextStart s.settings u) ++ (s.ring.nextStart u).toList) s.settings.txopCeiling
  have hsource (e : Source) (he : e ∈ s.applicable) : ¬ e.busyAt s.settings u := fun hb => hclear (Or.inl ⟨e, he, hb⟩)
  have hring (e : RingEntry) (he : s.ring.active = some e) : ¬ e.busyAt u := fun hb => hclear (Or.inr ((s.ring.busyAt_iff u).2 ⟨e, he, hb⟩))
  refine ⟨_, ?_, hceiling, rfl, fun j hj => ?_, ?_⟩
  · rcases hattained with h | h
    · rw [h]
      exact hlow
    · rcases List.mem_append.1 h with hm | hm
      · obtain ⟨e, he, hn⟩ := List.mem_map.1 hm
        rw [← hn]
        exact Nat.sub_pos_of_lt (e.phase_lt s.settings u (hnear.1 e he).1)
      · obtain ⟨e, he, hb, hn⟩ := (s.ring.nextStart_eq_some_iff u _).1 (Option.mem_toList.1 hm)
        rw [hn]
        exact (e.busyAt_start u (hnear.2 e he).1 (hnear.2 e he).2 hb).1
  · rintro (⟨e, he, hb⟩ | hb)
    · have hnext := hall _ (List.mem_append_left _ (List.mem_map.2 ⟨e, he, rfl⟩))
      exact e.not_busyAt_of_lt s.settings u (hnear.1 e he).1 j (hnear.1 e he).2 (hsource e he) (hj.trans_le hnext) hb
    · obtain ⟨e, he, hbe⟩ := (s.ring.busyAt_iff _).1 hb
      obtain ⟨hpaced, hdistance⟩ := hnear.2 e he
      by_cases hbefore : before u e.start = true
      · have hnext := hall _ (List.mem_append_right _ (Option.mem_toList.2 ((s.ring.nextStart_eq_some_iff u _).2 ⟨e, he, hbefore, rfl⟩)))
        exact (e.busyAt_start u hpaced hdistance hbefore).2.1 j (hj.trans_le hnext) hbe
      · exact e.not_busyAt_past u hpaced hdistance (hring e he) hbefore j ((hj.le.trans hceiling).trans hhigh) hbe
  · refine hattained.imp id fun h => ?_
    rcases List.mem_append.1 h with hm | hm
    · obtain ⟨e, he, hn⟩ := List.mem_map.1 hm
      rw [← hn]
      exact Or.inl ⟨e, he, e.busyAt_nextStart s.settings u (hnear.1 e he).1 (hnear.1 e he).2⟩
    · obtain ⟨e, he, hb, hn⟩ := (s.ring.nextStart_eq_some_iff u _).1 (Option.mem_toList.1 hm)
      rw [hn]
      exact Or.inr ((s.ring.busyAt_iff _).2 ⟨e, he, (e.busyAt_start u (hnear.2 e he).1 (hnear.2 e he).2 hb).2.2⟩)

end

/-! ### The walk (R57, R58) -/

section
variable (s : State) (u : Instant) (hnear : ∀ k, k ≤ 32768 → s.near (plus u k))
include hnear

/-- The walk ends at the first clear instant, or beyond the span with every instant passed busy. -/
theorem State.walk_spec (fuel n : Nat) (hn : n ≤ 32768) (hfuel : 32769 ≤ n + fuel) (hbusy : ∀ j, j < n → s.busyAt (plus u j)) :
    (∃ m, s.walk u fuel n = .clear m ∧ m ≤ 32768 ∧ ¬ s.busyAt (plus u m) ∧ ∀ j, j < m → s.busyAt (plus u j))
      ∨ ∃ m, s.walk u fuel n = .saturated m ∧ ∀ j, j ≤ 32768 → s.busyAt (plus u j) := by
  induction fuel generalizing n with
  | zero => omega
  | succ fuel ih =>
    have hpassed (j : Nat) (hj : j < n + s.move (plus u n)) : s.busyAt (plus u j) := by
      rcases Nat.lt_or_ge j n with hlt | hge
      · exact hbusy j hlt
      · have hmoved := s.busyAt_of_lt_move (plus u n) (hnear n hn) (j - n) (by omega)
        rwa [plus_plus, Nat.add_sub_cancel' hge] at hmoved
    unfold State.walk
    dsimp only
    split
    case isTrue hzero => exact Or.inl ⟨n, rfl, hn, (s.move_eq_zero_iff _ (hnear n hn)).1 hzero, hbusy⟩
    case isFalse hmoves =>
      split
      case isTrue hfar => exact Or.inr ⟨_, rfl, fun j hj => hpassed j (lt_of_le_of_lt hj hfar)⟩
      case isFalse hin => exact ih _ (Nat.le_of_not_lt hin) (by omega) hpassed

end

/-- Settles O33: the walk's end, with the horizon of its clear instant. -/
theorem searchFindsTheFirstClearInstant : Obligations.SearchFindsTheFirstClearInstant := by
  intro s opened n hlawful hradio hbusyNear w u
  have hnear (k : Nat) (hk : k ≤ 1048576) := s.near_of_busyNear u hlawful hbusyNear k hk
  have hwindow : w = s.searchResult := (s.search_window opened).trans (if_pos ((Radio.isOn_iff _).2 ⟨n, hradio⟩))
  have hceiling : 256 ≤ s.settings.txopCeiling ∧ s.settings.txopCeiling ≤ 8191 := by
    have hc := hlawful.1
    simp only [Settings.consistent, Bool.and_eq_true, decide_eq_true_eq] at hc
    omega
  rw [hwindow]
  have hwalk := s.walk_spec u (fun k hk => hnear k (by omega)) (Config.searchSpan + 1) 0 (by decide) (by decide) (by simp)
  rcases hwalk with ⟨m, hend, hm, hclear, hbusy⟩ | ⟨m, hend, hbusy⟩
  · obtain ⟨k, hk, hkmax, hhorizon, hfree, hnext⟩ :=
      s.horizonFrom_spec (plus u m) (hnear m (by omega)) hclear (by omega) (by omega)
    have hresult : s.searchResult =
        if m = 0 then
          { status := .opened, saturated := false, clear := some (plus u m), horizon := some (s.horizonFrom (plus u m)), stop := none
            timer := some (s.horizonFrom (plus u m)) }
        else
          { status := .blocked, saturated := false, clear := some (plus u m), horizon := some (s.horizonFrom (plus u m)), stop := none
            timer := some (plus u m) } := by
      show (match s.walk u (Config.searchSpan + 1) 0 with
        | .clear n => _
        | .saturated n => _) = _
      rw [hend]
    have hstatus : s.searchResult.status = if m = 0 then .opened else .blocked := by
      rw [hresult]
      split <;> rfl
    have hfound : s.searchResult.clear = some (plus u m) ∧ s.searchResult.horizon = some (s.horizonFrom (plus u m)) := by
      rw [hresult]
      split <;> exact ⟨rfl, rfl⟩
    rw [hfound.1, hfound.2]
    have hnotall : ¬ ∀ k, k ≤ 32768 → s.busyAt (plus u k) := fun h => hclear (h m hm)
    refine ⟨iff_of_false ?_ hnotall, iff_of_true rfl ?_, rfl, fun c hc => ⟨m, hm, (Option.some.inj hc).symm, ?_, hbusy, ?_⟩, fun c h hc hh => ?_,
      ?_, ?_, ?_⟩
    · rw [hstatus]
      split <;> decide
    · rw [hstatus]
      split
      · exact Or.inl rfl
      · exact Or.inr rfl
    · rw [← Option.some.inj hc]
      exact hclear
    · rw [hstatus]
      split
      case isTrue h => simp [h]
      case isFalse h => simp [h]
    · rw [← Option.some.inj hc, ← Option.some.inj hh]
      exact ⟨k, hk, hkmax, hhorizon, hfree, hnext.imp id fun hb => hhorizon ▸ hb⟩
    · rw [hstatus, hresult]
      split
      · exact fun _ => rfl
      · exact fun h => absurd h (by decide)
    · rw [hstatus, hresult]
      split
      · exact fun h => absurd h (by decide)
      · exact fun _ => rfl
    · rw [hstatus]
      split <;> exact fun h => absurd h (by decide)
  · have hresult : s.searchResult =
        { status := .saturated, saturated := true, clear := none, horizon := none, stop := some (plus u m)
          timer := some (minus (plus u m) Config.searchSpan) } := by
      show (match s.walk u (Config.searchSpan + 1) 0 with
        | .clear n => _
        | .saturated n => _) = _
      rw [hend]
    rw [hresult]
    refine ⟨iff_of_true rfl hbusy, ?_, rfl, fun c hc => ?_, fun c h hc => ?_, fun h => ?_, fun h => ?_, fun _ => ⟨_, rfl, rfl⟩⟩
    · simp
    · cases hc
    · cases hc
    · cases h
    · cases h

end Sys2Proof.Machine

/-! PROOFS. Loss of south synchronisation: every outstanding release resolved, in the order of decision, as SENT with an empty ack map (R97). -/

namespace Sys2Proof.Machine

/-! ### What the resolution of one release leaves of its queue and of the part -/

section
variable (s : State) (e : Outstanding)

/-- A resolution unlists its release, whatever its queue holds. -/
theorem State.resolveSent_gate (acks : List Bool) : (s.resolveSent acks e).gate = (s.unlist e).gate := by
  rw [State.resolveSent, State.settle_gate]
  simp [State.unlist]

theorem State.queue_resolveSent_other (acks : List Bool) (p : Fin 16) (hp : e.queue ≠ p) :
    (s.resolveSent acks e).queue p = s.queue p := by
  rw [State.resolveSent, State.queue_settle_other _ e p hp, State.queue_setFlagIf, State.queue_modQueue_other _ _ p _ hp]

theorem State.finishHead_memory (q : Fin 16) : (s.finishHead q).store.memory = s.store.memory := by
  unfold State.finishHead
  split <;> rfl

theorem State.settle_memory : (s.settle e).store.memory = s.store.memory := by
  have hfinish : ((s.unlist e).finishHead e.queue).store.memory = s.store.memory := (s.unlist e).finishHead_memory e.queue
  rcases s.settle_cases e with ⟨-, h⟩ | ⟨_, -, -, -, h⟩ | ⟨-, h⟩ <;> rw [h]
  · simp [State.unlist]
  · simp [hfinish]
  · simp [hfinish]

theorem State.resolveSent_memory (acks : List Bool) : (s.resolveSent acks e).store.memory = s.store.memory := by
  rw [State.resolveSent, State.settle_memory]
  simp

theorem State.settle_still : (s.settle e).still = s.still := by
  have hunlist : (s.unlist e).still = s.still := rfl
  have hfinish : ((s.unlist e).finishHead e.queue).still = s.still := (State.still_of_north (by simp)).trans hunlist
  rcases s.settle_cases e with ⟨-, h⟩ | ⟨_, -, -, -, h⟩ | ⟨-, h⟩ <;> rw [h]
  · exact (State.still_of_north (by simp)).trans hunlist
  · exact (State.still_of_north (by simp)).trans hfinish
  · refine (State.still_of_north (s := ((s.unlist e).finishHead e.queue).closeDrained e.queue) (by simp)).trans ?_
    rw [State.closeDrained, State.setFlag_still]
    exact (State.still_of_north (by simp)).trans hfinish

theorem State.resolveSent_still (acks : List Bool) : (s.resolveSent acks e).still = s.still := by
  rw [State.resolveSent, State.settle_still, State.setFlagIf_still]
  exact State.still_of_north (by simp)

/-- Settling leaves a queue's configuration and the flags of admission and of forced releases. -/
theorem State.settle_marks (d : Descriptor) (rest : List Descriptor) (hhead : (s.queue e.queue).descriptors = d :: rest) :
    ((s.settle e).queue e.queue).config = (s.queue e.queue).config
      ∧ ((s.settle e).queue e.queue).refusedFlag = (s.queue e.queue).refusedFlag
      ∧ ((s.settle e).queue e.queue).forcedFlag = (s.queue e.queue).forcedFlag := by
  have hfinish := (s.unlist e).queue_finishHead_self e.queue d rest hhead
  rcases s.settle_cases e with ⟨-, h⟩ | ⟨_, -, -, -, h⟩ | ⟨-, h⟩ <;> simp [h, hfinish, Queue.startAging]

/-- The next head begins to age when a finished one has left an OPEN queue (R46). -/
theorem State.settle_aging (d : Descriptor) (rest : List Descriptor) (hhead : (s.queue e.queue).descriptors = d :: rest)
    (hstate : (s.queue e.queue).state ≠ .draining) (hd : d.unfinished = false) :
    ((s.settle e).queue e.queue).aging =
      if (s.queue e.queue).state = .opened ∧ rest ≠ [] then some (plus s.now ((s.queue e.queue).config.hold * 1000)) else none := by
  have hhead' := Queue.head_of_cons _ d rest hhead
  have hfinish := (s.unlist e).queue_finishHead_self e.queue d rest hhead
  obtain ⟨hstays, -⟩ | ⟨_, -, -, -, h⟩ | ⟨hdraining, -⟩ := s.settle_cases e
  case inl => simp_all
  case inr.inl =>
    rw [h, State.queue_reevaluate_self, hfinish]
    simp [Queue.startAging]
    rfl
  case inr.inr => exact absurd hdraining hstate

section
variable (acks : List Bool) (d : Descriptor) (rest : List Descriptor) (hhead : (s.queue e.queue).descriptors = d :: rest)
include hhead

theorem State.resolveSent_marks :
    ((s.resolveSent acks e).queue e.queue).config = (s.queue e.queue).config
      ∧ ((s.resolveSent acks e).queue e.queue).refusedFlag = (s.queue e.queue).refusedFlag
      ∧ ((s.resolveSent acks e).queue e.queue).forcedFlag = (s.queue e.queue).forcedFlag := by
  have hqueue := s.queue_withSentHead acks e d rest hhead
  have hmarks := State.settle_marks _ e _ rest (congrArg Queue.descriptors hqueue)
  rw [hqueue] at hmarks
  rw [s.resolveSent_eq acks e d rest hhead]
  exact hmarks

theorem State.resolveSent_aging (hstate : (s.queue e.queue).state ≠ .draining)
    (hd : (d.applySent (s.queue e.queue).config.retry e acks).unfinished = false) :
    ((s.resolveSent acks e).queue e.queue).aging =
      if (s.queue e.queue).state = .opened ∧ rest ≠ [] then some (plus s.now ((s.queue e.queue).config.hold * 1000)) else none := by
  have hqueue := s.queue_withSentHead acks e d rest hhead
  have haging := State.settle_aging _ e _ rest (congrArg Queue.descriptors hqueue) (by rwa [hqueue]) hd
  rw [hqueue] at haging
  rw [s.resolveSent_eq acks e d rest hhead, haging]
  simp [State.now]

end

end

/-! ### The completions of a list of releases -/

/-- The queue and the descriptor that complete when a release is resolved as lost: a head with nothing left to send, or one of a DRAINING queue. -/
def State.completionOf (s : State) (e : Outstanding) : Option (Queue × Descriptor) :=
  (s.queue e.queue).head.bind fun d =>
    if (s.queue e.queue).state = .draining ∨ (d.applySent (s.queue e.queue).config.retry e []).unfinished = false then
      some (s.queue e.queue, d.applySent (s.queue e.queue).config.retry e [])
    else none

theorem State.completionOf_congr {s t : State} (e : Outstanding) (h : t.queue e.queue = s.queue e.queue) :
    t.completionOf e = s.completionOf e := by
  simp only [State.completionOf, h]

/-- One resolution fills a slot and frees a descriptor exactly when it completes one. -/
theorem State.resolveSent_completes (s : State) (e : Outstanding) (d : Descriptor) (rest : List Descriptor)
    (hhead : (s.queue e.queue).descriptors = d :: rest) :
    (s.resolveSent [] e).fifo = (s.completionOf e).elim s.fifo (fun p => s.fifo.fill (doneRecord p.1 p.2 s.now))
      ∧ (s.resolveSent [] e).store = (s.completionOf e).elim s.store (fun p => s.store.free p.2) := by
  have hfirst := Queue.head_of_cons _ d rest hhead
  by_cases hdraining : (s.queue e.queue).state = .draining
  case pos =>
    obtain ⟨-, -, hfifo, hstore, -⟩ := s.resolveSent_draining [] e d rest hhead hdraining
    simp [State.completionOf, hfirst, hdraining, hfifo, hstore]
  case neg =>
    cases hleft : (d.applySent (s.queue e.queue).config.retry e []).unfinished with
    | true =>
      obtain ⟨-, -, -, hfifo, hstore⟩ := s.resolveSent_unfinished [] e d rest hhead hdraining hleft
      simp [State.completionOf, hfirst, hdraining, hleft, hfifo, hstore]
    | false =>
      obtain ⟨-, -, hfifo, hstore⟩ := s.resolveSent_finished [] e d rest hhead hdraining hleft
      simp [State.completionOf, hfirst, hleft, hfifo, hstore]

/-! ### The releases of the table, one after the other -/

/-- The releases of a list resolved as lost, in order. -/
def State.resolveEach (s : State) (l : List Outstanding) : State := l.foldl (fun s e => s.resolveSent [] e) s

@[simp] theorem State.resolveEach_nil (s : State) : s.resolveEach [] = s := rfl

@[simp] theorem State.resolveEach_cons (s : State) (e : Outstanding) (l : List Outstanding) :
    s.resolveEach (e :: l) = (s.resolveSent [] e).resolveEach l := rfl

theorem State.resolveAll_eq (s : State) : s.resolveAll = s.resolveEach s.gate.table := rfl

section
variable (s : State) (l : List Outstanding)

theorem State.resolveEach_gate :
    (s.resolveEach l).gate = { s.gate with table := s.gate.table.filter fun x => l.all fun e => x.id != e.id } := by
  induction l generalizing s with
  | nil => simp
  | cons e l ih => simp [ih, State.resolveSent_gate, State.unlist, List.filter_filter, Bool.and_comm]

theorem State.resolveAll_gate : s.resolveAll.gate = { s.gate with table := [] } := by
  rw [State.resolveAll_eq, State.resolveEach_gate]
  refine congrArg (fun table => ({ s.gate with table } : Gate)) (List.filter_eq_nil_iff.2 fun x hx hall => ?_)
  simpa using List.all_eq_true.1 hall x hx

theorem State.resolveEach_still : (s.resolveEach l).still = s.still :=
  l.foldlRecOn (motive := fun u : State => u.still = s.still) _ rfl fun u hu e _ => (u.resolveSent_still e []).trans hu

theorem State.resolveEach_memory : (s.resolveEach l).store.memory = s.store.memory :=
  l.foldlRecOn (motive := fun u : State => u.store.memory = s.store.memory) _ rfl
    fun u hu e _ => (u.resolveSent_memory e []).trans hu

theorem State.queue_resolveEach_other (q : Fin 16) (h : ∀ e ∈ l, e.queue ≠ q) : (s.resolveEach l).queue q = s.queue q :=
  l.foldlRecOn (motive := fun u : State => u.queue q = s.queue q) _ rfl
    fun u hu e he => (u.queue_resolveSent_other e [] q (h e he)).trans hu

theorem State.flag_resolveEach (f : EventFlag) (h : s.flag f = true) : (s.resolveEach l).flag f = true :=
  l.foldlRecOn (motive := fun u : State => u.flag f = true) _ h
    fun u hu e _ => (flagLaw f).resolveSent u hu [] e

variable (hnodup : (l.map Outstanding.queue).Nodup)
include hnodup

/-- What a list of resolutions leaves of a listed release's queue is what its own resolution leaves, made on that queue as it stood. -/
theorem State.queue_resolveEach (e : Outstanding) (he : e ∈ l) :
    ∃ u : State, u.queue e.queue = s.queue e.queue ∧ u.now = s.now
      ∧ (s.resolveEach l).queue e.queue = (u.resolveSent [] e).queue e.queue
      ∧ ∀ f, (u.resolveSent [] e).flag f = true → (s.resolveEach l).flag f = true := by
  induction l generalizing s with
  | nil => exact absurd he List.not_mem_nil
  | cons x l ih =>
    rw [List.map_cons, List.nodup_cons] at hnodup
    obtain ⟨hx, hl⟩ := hnodup
    rw [State.resolveEach_cons]
    by_cases heq : e = x
    case pos =>
      subst heq
      refine ⟨s, rfl, rfl, State.queue_resolveEach_other _ l _ fun y hy hq => hx (hq ▸ List.mem_map_of_mem hy),
        fun f hf => State.flag_resolveEach _ l f hf⟩
    case neg =>
      have he : e ∈ l := (List.mem_cons.1 he).resolve_left heq
      obtain ⟨u, hqueue, hnow, hresult, hflag⟩ := ih (s.resolveSent [] x) hl he
      have hother := s.queue_resolveSent_other x [] e.queue fun hq => hx (hq ▸ List.mem_map_of_mem he)
      exact ⟨u, hqueue.trans hother, hnow.trans (by simp [State.now]), hresult, hflag⟩

/-- The completions of a list of resolutions fill their slots and free their descriptors in the order of the list. -/
theorem State.resolveEach_completes (hheads : ∀ e ∈ l, ∃ d rest, (s.queue e.queue).descriptors = d :: rest) :
    (s.resolveEach l).fifo =
        { reserved := s.fifo.reserved - (l.filterMap s.completionOf).length
          filled := s.fifo.filled ++ (l.filterMap s.completionOf).map fun p => doneRecord p.1 p.2 s.now }
      ∧ (s.resolveEach l).store = (l.filterMap s.completionOf).foldl (fun f p => f.free p.2) s.store := by
  induction l generalizing s with
  | nil => simp
  | cons e l ih =>
    rw [List.map_cons, List.nodup_cons] at hnodup
    obtain ⟨he, hl⟩ := hnodup
    obtain ⟨d, rest, hhead⟩ := hheads e List.mem_cons_self
    have hother (x : Outstanding) (hx : x ∈ l) : (s.resolveSent [] e).queue x.queue = s.queue x.queue :=
      s.queue_resolveSent_other e [] x.queue fun hq => he (hq ▸ List.mem_map_of_mem hx)
    have hsame : l.filterMap (s.resolveSent [] e).completionOf = l.filterMap s.completionOf :=
      List.filterMap_congr fun x hx => State.completionOf_congr x (hother x hx)
    have hnow : (s.resolveSent [] e).now = s.now := by simp [State.now]
    obtain ⟨hfifo, hstore⟩ := s.resolveSent_completes e d rest hhead
    obtain ⟨hfifos, hstores⟩ := ih (s.resolveSent [] e) hl fun x hx => by
      rw [hother x hx]
      exact hheads x (List.mem_cons_of_mem _ hx)
    rw [State.resolveEach_cons, hfifos, hstores, hsame, hnow, hfifo, hstore, List.filterMap_cons]
    cases s.completionOf e with
    | none => exact ⟨rfl, rfl⟩
    | some p => simp [DoneFifo.fill, Nat.sub_sub, Nat.add_comm]

end

end Sys2Proof.Machine

/-! PROOFS. What the loss of south synchronisation leaves, block by block (R14 to R16, R97, R110). -/

namespace Sys2Proof.Machine

/-- Nothing that sets flags or queues NOTICEs writes the enables. -/
theorem enablesLaw (enables : BitVec 14) : EventLaw fun e => e.enables = enables where
  setFlag {s} f h := (s.setFlag_flags f).2.trans h
  queueNotice h := by simpa using h
  paced _ h := h

/-! ### The radio leaves its channel (R15) -/

section
variable (s : State) (radio : Radio) (last : Option Nat) (opened : Bool)

theorem State.changeRadio_still : (s.changeRadio radio last opened).still = s.still := by
  rw [State.changeRadio, State.setFlags_still, State.search_still]
  exact State.still_of_north (by simp)

/-- Off a channel the window is closed, the detector's list empty, and every request lost. -/
theorem State.changeRadio_off (hoff : radio.isOn = false) :
    (s.changeRadio radio last opened).south = { s.south with radio, lastChannel := last }
      ∧ (s.changeRadio radio last opened).gate = s.gate ∧ (s.changeRadio radio last opened).window = Window.powerOn
      ∧ (s.changeRadio radio last opened).detector = { s.detector with burst := none, spans := [], agingTimer := none }
      ∧ ∀ q, (s.changeRadio radio last opened).queue q = { s.queue q with request := false } := by
  obtain ⟨u, flags, heq, hsouth, hgate, hqueues, hdetector⟩ := s.changeRadio_eq radio last opened
  obtain ⟨hwindow, hqueue⟩ := u.search_off opened (by rw [hsouth]; exact hoff)
  have hsame (q : Fin 16) : u.queue q = s.queue q := by simp [State.queue, hqueues]
  rw [heq]
  refine ⟨by simp [hsouth], by simp [hgate], by simp [hwindow], by simp [hdetector], fun q => ?_⟩
  have hflags : ((u.search opened).setFlags flags).queue q = (u.search opened).queue q := by simp [State.queue]
  rw [hflags, hqueue q, hsame q]

end

/-! ### The event's steps -/

/-- The part at the loss, its releases resolved and the radio not yet DOWN. -/
def State.lostReleases (s : State) : State :=
  State.resolveAll (s.withSouth { s.south with synced := false, txdata := [], cancels := [], sending := none })

section
variable (s : State) (hsynced : s.south.synced = true)

theorem State.lostReleases_south :
    s.lostReleases.south = { s.south with synced := false, txdata := [], cancels := [], sending := none } :=
  State.resolveAll_south _ rfl

theorem State.lostReleases_eq :
    s.lostReleases =
      (s.withSouth { s.south with synced := false, txdata := [], cancels := [], sending := none }).resolveEach s.gate.table := rfl

include hsynced

theorem State.southLost_eq :
    s.southLost =
      (if s.south.radio = .down then s.lostReleases else s.lostReleases.changeRadio .down s.south.lastChannel false).setFlag
        .radioLost := by
  rw [State.southLost, if_pos hsynced]
  rfl

theorem State.southLost_of_down (hdown : s.south.radio = .down) : s.southLost = s.lostReleases.setFlag .radioLost := by
  rw [s.southLost_eq hsynced, if_pos hdown]

theorem State.southLost_of_up (hup : s.south.radio ≠ .down) :
    s.southLost = (s.lostReleases.changeRadio .down s.south.lastChannel false).setFlag .radioLost := by
  rw [s.southLost_eq hsynced, if_neg hup]

/-- After the releases' resolution the loss writes nothing more of the store, the TXDONE FIFO and the gate, and of a queue its request. -/
theorem State.southLost_leaves :
    s.southLost.fifo = s.lostReleases.fifo ∧ s.southLost.store = s.lostReleases.store ∧ s.southLost.gate = s.lostReleases.gate
      ∧ s.southLost.still = s.lostReleases.still
      ∧ (∀ q, s.southLost.queue q = { s.lostReleases.queue q with request := (s.southLost.queue q).request })
      ∧ ∀ f, s.lostReleases.flag f = true → s.southLost.flag f = true := by
  by_cases hdown : s.south.radio = .down
  case pos =>
    rw [s.southLost_of_down hsynced hdown]
    refine ⟨by simp, by simp, by simp, by simp, fun q => ?_, fun f hf => (flagLaw f).setFlag .radioLost hf⟩
    rw [State.queue_setFlag]
  case neg =>
    have ⟨_, hgate, _, _, hqueue⟩ := s.lostReleases.changeRadio_off .down s.south.lastChannel false rfl
    rw [s.southLost_of_up hsynced hdown]
    refine ⟨by simp, by simp, by simp [hgate], ?_, fun q => ?_, fun f hf =>
      (flagLaw f).setFlag .radioLost ((flagLaw f).changeRadio _ hf _ _ _)⟩
    · rw [State.setFlag_still, State.changeRadio_still]
    · rw [State.queue_setFlag, hqueue q]

theorem State.southLost_south :
    s.southLost.south = { s.south with synced := false, radio := .down, txdata := [], cancels := [], sending := none } := by
  by_cases hdown : s.south.radio = .down
  case pos => simp [s.southLost_of_down hsynced hdown, s.lostReleases_south, hdown]
  case neg =>
    have ⟨hsouth, _⟩ := s.lostReleases.changeRadio_off .down s.south.lastChannel false rfl
    simp [s.southLost_of_up hsynced hdown, hsouth, s.lostReleases_south]

theorem State.southLost_closes (hup : s.south.radio ≠ .down) :
    s.southLost.window = Window.powerOn ∧ s.southLost.detector.burst = none ∧ s.southLost.detector.spans = []
      ∧ s.southLost.detector.agingTimer = none ∧ ∀ q, (s.southLost.queue q).request = false := by
  have ⟨_, _, hwindow, hdetector, hqueue⟩ := s.lostReleases.changeRadio_off .down s.south.lastChannel false rfl
  rw [s.southLost_of_up hsynced hup]
  refine ⟨by simp [hwindow], by simp [hdetector], by simp [hdetector], by simp [hdetector], fun q => ?_⟩
  rw [State.queue_setFlag, hqueue q]

theorem State.southLost_stays (hdown : s.south.radio = .down) :
    s.southLost.window = s.window ∧ s.southLost.detector = s.detector ∧ s.southLost.sources = s.sources := by
  simp [s.southLost_of_down hsynced hdown, State.lostReleases, State.withSouth]

theorem State.southLost_gate : s.southLost.gate = { s.gate with table := [] } := by
  obtain ⟨-, -, hgate, -⟩ := s.southLost_leaves hsynced
  rw [hgate, State.lostReleases, State.resolveAll_gate]
  rfl

theorem State.southLost_memory : s.southLost.store.memory = s.store.memory := by
  obtain ⟨-, hstore, -⟩ := s.southLost_leaves hsynced
  rw [hstore, State.lostReleases_eq, State.resolveEach_memory]
  rfl

theorem State.southLost_north : s.southLost.north = { s.north with status := s.southLost.north.status } := by
  obtain ⟨-, -, -, hstill, -⟩ := s.southLost_leaves hsynced
  refine State.north_of_still (hstill.trans ?_)
  rw [State.lostReleases_eq, State.resolveEach_still]
  rfl

theorem State.southLost_radioLost : s.southLost.flag .radioLost = true := by
  rw [s.southLost_eq hsynced]
  simp

/-- The queue of no outstanding release loses at most its request. -/
theorem State.queue_southLost_other (q : Fin 16) (h : ∀ e ∈ s.gate.table, e.queue ≠ q) :
    s.southLost.queue q = { s.queue q with request := (s.southLost.queue q).request } := by
  obtain ⟨-, -, -, -, hqueue, -⟩ := s.southLost_leaves hsynced
  have hother : s.lostReleases.queue q = s.queue q := by
    rw [State.lostReleases_eq, State.queue_resolveEach_other _ _ q h]
    rfl
  exact (hqueue q).trans (by rw [hother])

/-- After the loss no descriptor is outstanding and no entry OUT: no release is listed, and a head has something out only where one is. -/
theorem State.southLost_idle (h : s.releasesLawful) (q : Fin 16) (d : Descriptor) (hd : d ∈ (s.southLost.queue q).descriptors) :
    d.outstanding = none ∧ ∀ e ∈ d.subframes, e.state ≠ .out := by
  obtain ⟨hqueues, htable⟩ := s.southLost_releasesLawful h
  have hidle : (s.southLost.queue q).released = none := by
    obtain ⟨-, -, -, -, hheads⟩ := s.southLost.tableLawful_iff.1 htable
    by_contra hsome
    obtain ⟨r, hr⟩ := Option.ne_none_iff_exists'.1 hsome
    obtain ⟨e, he, -⟩ := hheads q r hr
    rw [s.southLost_gate hsynced] at he
    exact List.not_mem_nil he
  have hnone : d.outstanding = none := by
    cases hlist : (s.southLost.queue q).descriptors with
    | nil => simp [hlist] at hd
    | cons x rest =>
      obtain ⟨-, -, hrest, -⟩ := Queue.lawful_outstanding q _ x rest (hqueues q) hlist
      rw [hlist, List.mem_cons] at hd
      rcases hd with rfl | hmem
      · rw [Queue.released_of_cons _ d rest hlist] at hidle
        exact Option.map_eq_none_iff.1 hidle
      · exact hrest d hmem
  obtain ⟨-, -, -, -, hall⟩ := hqueues q
  obtain ⟨-, -, -, -, hclear⟩ := hall d hd
  exact ⟨hnone, (hclear hnone).1⟩

end

end Sys2Proof.Machine

/-! PROOFS. The queues and the TXDONE records after the loss of south synchronisation (R90, R93, R97); O6. -/

namespace Sys2Proof.Machine

/-! ### A descriptor whose release is lost (R97) -/

/-- A head whose release is resolved as SENT with an empty ack map: each included subframe DROPPED above the retry limit, PENDING otherwise. -/
def Descriptor.lost (retry : Nat) (e : Outstanding) (d : Descriptor) : Descriptor :=
  { d with
    subframes := d.subframes.map fun y =>
      if y.ordinal ∈ e.ordinals then { y with state := if retry < y.attempts then .dropped else .pending } else y
    outstanding := none
    firstRelease := some (d.firstRelease.getD e.stamp) }

theorem Descriptor.applySent_nil (retry : Nat) (e : Outstanding) (d : Descriptor) : d.applySent retry e [] = d.lost retry e := by
  rw [Descriptor.applySent_eq]
  simp [Descriptor.lost]

theorem Descriptor.dropsOn_nil_iff (retry : Nat) (e : Outstanding) (d : Descriptor) :
    d.dropsOn retry e [] = true ↔ ∃ y ∈ d.subframes, y.ordinal ∈ e.ordinals ∧ retry < y.attempts := by
  rw [Descriptor.dropsOn_iff]
  simp

/-- The descriptor of a queue completes: the queue drains, or nothing is left to send (R29, R43). -/
def Queue.completes (k : Queue) (d : Descriptor) : Prop :=
  k.state = .draining ∨ ∀ y ∈ d.subframes, y.state = .delivered ∨ y.state = .dropped

theorem Queue.completes_iff (k : Queue) (d : Descriptor) : k.completes d ↔ k.state = .draining ∨ d.unfinished = false := by
  rw [Queue.completes, d.unfinished_eq_false_iff]

section
variable (s : State) (hsynced : s.south.synced = true) (h : s.releasesLawful)
include hsynced h

/-- The TXDONE records and the storage of the releases that completed, in the order of the table (R97, R31). -/
theorem State.southLost_completes :
    s.southLost.fifo =
        { reserved := s.fifo.reserved - (s.gate.table.filterMap s.completionOf).length
          filled := s.fifo.filled ++ (s.gate.table.filterMap s.completionOf).map fun p => doneRecord p.1 p.2 s.clock.now }
      ∧ s.southLost.store = (s.gate.table.filterMap s.completionOf).foldl (fun f p => f.free p.2) s.store := by
  obtain ⟨hfifo, hstore, -⟩ := s.southLost_leaves hsynced
  obtain ⟨-, -, hqueues, -⟩ := s.tableLawful_iff.1 h.2
  rw [hfifo, hstore, State.lostReleases_eq]
  exact State.resolveEach_completes _ s.gate.table hqueues fun e he => s.releasesLawful_head e h he

/-- What the loss leaves of an outstanding release's queue (R90, R91, R93). -/
theorem State.southLost_queue (e : Outstanding) (he : e ∈ s.gate.table) (d : Descriptor) (rest : List Descriptor)
    (hhead : (s.queue e.queue).descriptors = d :: rest) :
    let k := s.queue e.queue
    let t := s.southLost
    let d' := d.lost k.config.retry e
    let drops := ∃ y ∈ d.subframes, y.ordinal ∈ e.ordinals ∧ k.config.retry < y.attempts
    (drops → (t.queue e.queue).droppedFlag = true ∧ t.flag .subframeDropped = true)
      ∧ (¬ drops → (t.queue e.queue).droppedFlag = k.droppedFlag)
      ∧ (t.queue e.queue).config = k.config ∧ (t.queue e.queue).refusedFlag = k.refusedFlag
      ∧ (t.queue e.queue).forcedFlag = k.forcedFlag
      ∧ (k.state = .draining →
          (t.queue e.queue).descriptors = rest ∧ (t.queue e.queue).state = .closed ∧ t.flag .drainDone = true)
      ∧ (k.state ≠ .draining → k.completes d' →
          (t.queue e.queue).descriptors = rest ∧ (t.queue e.queue).state = k.state
          ∧ (t.queue e.queue).aging =
              (if k.state = .opened ∧ rest ≠ [] then some (plus s.clock.now (k.config.hold * 1000)) else none))
      ∧ (¬ k.completes d' →
          (t.queue e.queue).descriptors = d' :: rest ∧ (t.queue e.queue).state = k.state
          ∧ (t.queue e.queue).aging = k.aging) := by
  intro k t d' drops
  obtain ⟨-, -, -, -, hqueue, hflag⟩ := s.southLost_leaves hsynced
  obtain ⟨-, -, hqueues, -⟩ := s.tableLawful_iff.1 h.2
  obtain ⟨u, hu, hnow, hresult, hflags⟩ := State.queue_resolveEach
    (s.withSouth { s.south with synced := false, txdata := [], cancels := [], sending := none }) s.gate.table hqueues e he
  have hu : u.queue e.queue = k := hu
  have hnow : u.now = s.clock.now := hnow
  have huhead : (u.queue e.queue).descriptors = d :: rest := hu ▸ hhead
  have hleft : t.queue e.queue = { (u.resolveSent [] e).queue e.queue with request := (t.queue e.queue).request } :=
    (hqueue e.queue).trans (by rw [State.lostReleases_eq, hresult])
  have hset (f : EventFlag) (hf : (u.resolveSent [] e).flag f = true) : t.flag f = true := hflag f (hflags f hf)
  have hd' : d.applySent (u.queue e.queue).config.retry e [] = d' := hu ▸ d.applySent_nil k.config.retry e
  have hdrops : d.dropsOn k.config.retry e [] = true ↔ drops := d.dropsOn_nil_iff k.config.retry e
  have hdropped := u.resolveSent_droppedFlag [] e d rest huhead
  obtain ⟨hconfig, hrefused, hforced⟩ := u.resolveSent_marks e [] d rest huhead
  have hdraining := u.resolveSent_draining [] e d rest huhead
  have hfinished := u.resolveSent_finished [] e d rest huhead
  have haging := u.resolveSent_aging e [] d rest huhead
  have hstays := u.resolveSent_unfinished [] e d rest huhead
  have hsent := u.flag_resolveSent [] e d rest huhead .subframeDropped (by decide)
  rw [hu] at hdropped hconfig hrefused hforced hsent
  rw [hd', hu] at hdraining hfinished hstays haging
  rw [hleft]
  refine ⟨fun hdrop => ?_, fun hnot => ?_, hconfig, hrefused, hforced, fun hstate => ?_, fun hstate hdone => ?_, fun hnot => ?_⟩
  · exact ⟨by simp [hdropped, hdrops.2 hdrop], hset _ (by simp [hsent, hdrops.2 hdrop])⟩
  · simp [hdropped, Bool.eq_false_iff.2 (mt hdrops.1 hnot)]
  · obtain ⟨hlist, hclosed, -, -, hdone⟩ := hdraining hstate
    exact ⟨hlist, hclosed, hset _ hdone⟩
  · have hd : d'.unfinished = false := ((k.completes_iff d').1 hdone).resolve_left hstate
    obtain ⟨hlist, hkept, -⟩ := hfinished hstate hd
    exact ⟨hlist, hkept, (haging hstate hd).trans (by rw [hnow])⟩
  · rw [Queue.completes_iff, not_or, Bool.not_eq_false] at hnot
    obtain ⟨hlist, hkept, hsame, -⟩ := hstays hnot.1 hnot.2
    exact ⟨hlist, hkept, hsame⟩

end

/-- Settles O6: the releases resolved one after the other, each on its own queue, then the radio's change and the flag. -/
theorem southSyncLossResolvesEveryRelease : Obligations.SouthSyncLossResolvesEveryRelease := by
  intro s hrunning hsynced
  refine ⟨s.southLost, exec_event .southSyncLost s hrunning rfl, s.southLost_south hsynced, s.southLost_gate hsynced,
    s.southLost_radioLost hsynced, (enablesLaw s.events.enables).southLost s rfl, s.southLost_closes hsynced,
    s.southLost_stays hsynced, s.southLost_idle hsynced, ?_, by simp, by simp, by simp, by simp, by simpa using hrunning, by simp,
    s.southLost_memory hsynced, s.southLost_north hsynced⟩
  intro lost completes completed h
  have hcompleted : s.gate.table.filterMap s.completionOf = completed := by
    refine List.filterMap_congr fun e _ => Option.bind_congr fun d _ => ?_
    rw [d.applySent_nil]
    exact if_congr ((s.queue e.queue).completes_iff _).symm rfl rfl
  obtain ⟨hfifo, hstore⟩ := s.southLost_completes hsynced h
  rw [hcompleted] at hfifo hstore
  exact ⟨hfifo, hstore, fun e he d rest hhead => s.southLost_queue hsynced h e he d rest hhead,
    fun q hq => s.queue_southLost_other hsynced q hq⟩

end Sys2Proof.Machine

/-! PROOFS. The steps of a part reset (R151): the search that ends it, the NOTICEs of the flags it sets, the deferred checks it judges. -/

namespace Sys2Proof.Machine

/-! ### What a search reads (R53 to R61) -/

/-- Two states in which a search finds the same. -/
def State.searchesAs (s t : State) : Prop :=
  s.clock = t.clock ∧ s.gate = t.gate ∧ s.sources = t.sources ∧ s.south = t.south ∧ s.engine = t.engine ∧ s.ring = t.ring

section
variable {s t : State} (h : s.searchesAs t)
include h

theorem State.move_congr (u : Instant) : s.move u = t.move u := by
  obtain ⟨-, -, hsources, hsouth, hengine, hring⟩ := h
  simp only [State.move, State.applicable, State.settings, hsources, hsouth, hengine, hring]

theorem State.walk_congr (u : Instant) (fuel n : Nat) : s.walk u fuel n = t.walk u fuel n := by
  induction fuel generalizing n with
  | zero => rfl
  | succ fuel ih => simp only [State.walk, State.move_congr h, ih]

theorem State.searchResult_congr : s.searchResult = t.searchResult := by
  have hwalk := State.walk_congr h
  obtain ⟨hclock, hgate, hsources, hsouth, hengine, hring⟩ := h
  have hstart : s.releaseStart = t.releaseStart := by simp only [State.releaseStart, State.now, hclock, hgate]
  have hhorizon (c : Instant) : s.horizonFrom c = t.horizonFrom c := by
    simp only [State.horizonFrom, State.applicable, State.settings, hsources, hsouth, hengine, hring]
  simp only [State.searchResult, hwalk, hstart, hhorizon]

end

/-- With no entry that applies and no RUNNING ring no instant is busy, and the search is not saturated. -/
theorem State.searchResult_idle (s : State) (hsources : s.applicable = []) (hring : s.ring.running = false) :
    s.searchResult.saturated = false := by
  have hmove (u : Instant) : s.move u = 0 := by simp [State.move, hsources, Ring.inside, Ring.active, hring]
  have hwalk (u : Instant) (fuel : Nat) : s.walk u (fuel + 1) 0 = .clear 0 := by rw [State.walk, hmove]; rfl
  rw [State.searchResult, hwalk s.releaseStart Config.searchSpan]
  rfl

/-! ### The search after a reset -/

theorem State.queueNotice_withWindow (s : State) (w : Window) :
    State.queueNotice { s with window := w } = { s.queueNotice with window := w } := by
  by_cases hqueues : (s.events.noticeDue && s.events.pacing.isNone && !s.north.noticeWaits && !s.north.noticeSending) = true
  case pos => rw [State.queueNotice, State.queueNotice, if_pos hqueues, if_pos hqueues]
  case neg => rw [State.queueNotice, State.queueNotice, if_neg hqueues, if_neg hqueues]

/-- Setting a flag neither reads nor writes the window. -/
theorem State.setFlag_withWindow (s : State) (w : Window) (f : EventFlag) :
    State.setFlag { s with window := w } f = { s.setFlag f with window := w } := by
  cases hset : s.flag f with
  | true => rw [s.setFlag_of_flag f hset, State.setFlag_of_flag { s with window := w } f hset]
  | false =>
    by_cases hquiet : s.events.enables.getLsbD f.index = false ∨ s.north.noticeWaits = true
    case pos => rw [s.setFlag_quiet f hset hquiet, State.setFlag_quiet { s with window := w } f hset hquiet]
    case neg =>
      rw [not_or, Bool.not_eq_false, Bool.not_eq_true] at hquiet
      obtain ⟨henabled, hwaits⟩ := hquiet
      rw [s.setFlag_due f hset henabled hwaits, State.setFlag_due { s with window := w } f hset henabled hwaits]
      exact State.queueNotice_withWindow { s with events := { s.events.raised f with noticeDue := true } } w

section
variable (s : State)

/-- A search made with the saturation state clear sets CHANNEL_SATURATED when it is saturated, and touches neither flag nor link else. -/
theorem State.search_fresh (opened : Bool) (h : s.window.saturated = false) :
    (s.search opened).events = (s.setFlagIf (s.search opened).window.saturated .channelSaturated).events
      ∧ (s.search opened).north = (s.setFlagIf (s.search opened).window.saturated .channelSaturated).north := by
  rw [State.search_window]
  by_cases hon : s.south.radio.isOn = true
  case pos =>
    have hflag : State.setFlagIf { s with window := s.searchResult } s.searchResult.saturated .channelSaturated
        = { s.setFlagIf s.searchResult.saturated .channelSaturated with window := s.searchResult } := by
      cases s.searchResult.saturated with
      | false => rfl
      | true => exact s.setFlag_withWindow _ _
    rw [if_pos hon, State.search, if_pos hon]
    simp only [h, Bool.not_false, Bool.and_true, hflag]
    split <;> simp
  case neg =>
    rw [if_neg hon, State.search, if_neg hon]
    simp [Window.powerOn, State.setFlagIf]

/-- A search leaves a queue as at power-on. -/
theorem State.queue_search_powerOn (opened : Bool) (q : Fin 16) (h : s.queue q = Queue.powerOn) :
    (s.search opened).queue q = Queue.powerOn := by
  obtain ⟨u, hu, hqueue⟩ := s.queue_search opened q
  have hmarked : Queue.powerOn.markWaited = Queue.powerOn := rfl
  rw [h, hmarked, or_self] at hu
  have hoffer : u.offer q = none := by
    rw [State.offer, hu]
    rfl
  rw [hqueue, hu, hoffer]
  rfl

end

/-! ### The NOTICEs of flags set one after another (R155, R156) -/

/-- From one state to another at most one NOTICE was queued, and only where none waited and the pacing timer was not running. -/
def State.notices (s t : State) : Prop :=
  t.north.status = s.north.status ∧ t.north.resend = s.north.resend ∧ t.events.pacing = s.events.pacing
      ∧ t.events.lastNotice = s.events.lastNotice ∧ (s.events.noticeDue = true → t.events.noticeDue = true)
    ∨ t.north.status = s.north.status ++ [.notice] ∧ s.north.noticeWaits = false ∧ s.events.pacing = none
      ∧ t.events.lastNotice = some s.clock.now ∧ t.events.noticeDue = false

theorem State.notices_refl (s : State) : s.notices s := Or.inl ⟨rfl, rfl, rfl, rfl, id⟩

theorem State.notices_setFlag (s : State) (f : EventFlag) : s.notices (s.setFlag f) := by
  cases hset : s.flag f with
  | true => rw [s.setFlag_of_flag f hset]; exact s.notices_refl
  | false =>
    by_cases hquiet : s.events.enables.getLsbD f.index = false ∨ s.north.noticeWaits = true
    case pos =>
      rw [s.setFlag_quiet f hset hquiet]
      exact Or.inl ⟨rfl, rfl, rfl, rfl, id⟩
    case neg =>
      rw [not_or, Bool.not_eq_false, Bool.not_eq_true] at hquiet
      obtain ⟨henabled, hwaits⟩ := hquiet
      rw [s.setFlag_due f hset henabled hwaits, State.queueNotice]
      split
      case isTrue hqueued =>
        have hpacing : s.events.pacing = none := by
          simp only [Bool.and_eq_true] at hqueued
          exact Option.isNone_iff_eq_none.1 hqueued.1.1.2
        exact Or.inr ⟨rfl, hwaits, hpacing, rfl, rfl⟩
      case isFalse => exact Or.inl ⟨rfl, rfl, rfl, rfl, fun _ => rfl⟩

theorem State.notices_setFlagIf (s : State) (c : Bool) (f : EventFlag) : s.notices (s.setFlagIf c f) := by
  cases c with
  | false => exact s.notices_refl
  | true => exact s.notices_setFlag f

/-- A flag set while a NOTICE waits joins it. -/
theorem State.setFlagIf_joins (s : State) (c : Bool) (f : EventFlag) (h : s.north.noticeWaits = true) :
    (s.setFlagIf c f).north = s.north ∧ (s.setFlagIf c f).events.lastNotice = s.events.lastNotice
      ∧ (s.setFlagIf c f).events.noticeDue = s.events.noticeDue := by
  cases c with
  | false => exact ⟨rfl, rfl, rfl⟩
  | true =>
    show (s.setFlag f).north = s.north ∧ (s.setFlag f).events.lastNotice = _ ∧ (s.setFlag f).events.noticeDue = _
    cases hset : s.flag f with
    | true => rw [s.setFlag_of_flag f hset]; exact ⟨rfl, rfl, rfl⟩
    | false => rw [s.setFlag_quiet f hset (Or.inr h)]; exact ⟨rfl, rfl, rfl⟩

/-- A second flag queues no second NOTICE. -/
theorem State.notices_two (s : State) (c c' : Bool) (f f' : EventFlag) : s.notices ((s.setFlagIf c f).setFlagIf c' f') := by
  have hclock : (s.setFlagIf c f).clock = s.clock := by simp
  rcases s.notices_setFlagIf c f with ⟨hstatus, hresend, hpacing, hlast, hdue⟩ | ⟨hstatus, hwaits, hpacing, hlast, hdue⟩
  · have hsame : (s.setFlagIf c f).north.noticeWaits = s.north.noticeWaits := by simp only [NorthLink.noticeWaits, hstatus, hresend]
    rcases (s.setFlagIf c f).notices_setFlagIf c' f' with ⟨hstatus', hresend', hpacing', hlast', hdue'⟩ | ⟨hstatus', hwaits', hpacing', hlast', hdue'⟩
    · exact Or.inl ⟨hstatus'.trans hstatus, hresend'.trans hresend, hpacing'.trans hpacing, hlast'.trans hlast, fun h => hdue' (hdue h)⟩
    · exact Or.inr ⟨hstatus'.trans (by rw [hstatus]), hsame ▸ hwaits', hpacing ▸ hpacing', hlast'.trans (by rw [hclock]), hdue'⟩
  · obtain ⟨hnorth, hlast', hdue'⟩ := (s.setFlagIf c f).setFlagIf_joins c' f' (by simp [NorthLink.noticeWaits, hstatus])
    exact Or.inr ⟨by rw [hnorth, hstatus], hwaits, hpacing, hlast'.trans hlast, hdue'.trans hdue⟩

/-! ### The deferred checks of a reset (R119) -/

section
variable (t : Track)

theorem Track.slot_advance_other (i j : Fin 16) (e : Source) (hij : i ≠ j) : (t.advance i e).state.slot j = t.state.slot j :=
  t.state.slot_setSlot_other i j _ hij

/-- A missed occurrence leaves every other slot. -/
theorem Track.slot_miss_other (i j : Fin 16) (e : Source) (hij : i ≠ j) : (t.miss i e).state.slot j = t.state.slot j := by
  unfold Track.miss
  dsimp only
  split
  · split <;> exact t.state.slot_freeSlot_other i j hij
  · rw [Track.slot_advance_other _ i j _ hij]
    exact t.state.slot_setSlot_other i j _ hij

theorem Track.slot_judgeOnce_other (i j : Fin 16) (hij : i ≠ j) : (t.judgeOnce i).state.slot j = t.state.slot j := by
  cases he : (t.state.slot i).entry with
  | none => rw [Track.judgeOnce, he]
  | some e =>
    rw [t.judgeOnce_eq i e he]
    split
    · exact t.slot_advance_other i j _ hij
    · exact t.slot_advance_other i j _ hij
    · exact t.slot_miss_other i j e hij
    · exact t.state.slot_setSlot_other i j _ hij
    · exact t.slot_advance_other i j _ hij

theorem Track.slot_check_other (i j : Fin 16) (hij : i ≠ j) : (t.check i).state.slot j = t.state.slot j := by
  rw [Track.check, Track.judgePassed]
  split
  · rw [Track.slot_judgeOnce_other _ i j hij, Track.slot_judgeOnce_other _ i j hij]
  · exact t.slot_judgeOnce_other i j hij

/-- A slot judged again when its check is deferred. -/
def Track.checkIfDeferred (t : Track) (i : Fin 16) : Track := if (t.state.slot i).deferred then t.check i else t

theorem Track.checkDeferred_eq : t.checkDeferred = allSlots.foldl Track.checkIfDeferred t := rfl

theorem Track.slot_checkIfDeferred_other (i j : Fin 16) (hij : i ≠ j) : (t.checkIfDeferred i).state.slot j = t.state.slot j := by
  unfold Track.checkIfDeferred
  split
  · exact t.slot_check_other i j hij
  · rfl

/-- The check of one slot neither reads nor writes what the other checks leave, but for the clock, the settings and the coverage. -/
theorem Track.checkIfDeferred_keeps (i : Fin 16) :
    (t.checkIfDeferred i).state.clock = t.state.clock ∧ (t.checkIfDeferred i).state.engine = t.state.engine
      ∧ (t.checkIfDeferred i).state.detector = t.state.detector := by
  unfold Track.checkIfDeferred
  split
  · simp
  · exact ⟨rfl, rfl, rfl⟩

theorem Track.slot_checks_other (l : List (Fin 16)) (j : Fin 16) (hj : j ∉ l) : (l.foldl Track.checkIfDeferred t).state.slot j = t.state.slot j :=
  l.foldlRecOn (motive := fun u : Track => u.state.slot j = t.state.slot j) Track.checkIfDeferred rfl
    fun u hu i hi => (u.slot_checkIfDeferred_other i j fun heq => hj (heq ▸ hi)).trans hu

/-- What the deferred checks leave of a slot is what its own leaves. -/
theorem Track.slot_checks (l : List (Fin 16)) (hl : l.Nodup) (j : Fin 16) (hj : j ∈ l) :
    ∃ u : Track, u.state.slot j = t.state.slot j ∧ u.state.clock = t.state.clock ∧ u.state.engine = t.state.engine
      ∧ u.state.detector = t.state.detector
      ∧ (l.foldl Track.checkIfDeferred t).state.slot j = (u.checkIfDeferred j).state.slot j := by
  induction l generalizing t with
  | nil => exact absurd hj List.not_mem_nil
  | cons i l ih =>
    obtain ⟨hi, hl⟩ := List.nodup_cons.1 hl
    rw [List.foldl_cons]
    by_cases hij : i = j
    case pos =>
      subst hij
      exact ⟨t, rfl, rfl, rfl, rfl, Track.slot_checks_other _ l i hi⟩
    case neg =>
      obtain ⟨u, hslot, hclock, hengine, hdetector, hresult⟩ :=
        ih (t.checkIfDeferred i) hl ((List.mem_cons.1 hj).resolve_left (Ne.symm hij))
      obtain ⟨hclock', hengine', hdetector'⟩ := t.checkIfDeferred_keeps i
      exact ⟨u, hslot.trans (t.slot_checkIfDeferred_other i j hij), hclock.trans hclock', hengine.trans hengine',
        hdetector.trans hdetector', hresult⟩

theorem Track.slot_checkDeferred (j : Fin 16) :
    ∃ u : Track, u.state.slot j = t.state.slot j ∧ u.state.clock = t.state.clock ∧ u.state.engine = t.state.engine
      ∧ u.state.detector = t.state.detector ∧ t.checkDeferred.state.slot j = (u.checkIfDeferred j).state.slot j := by
  rw [t.checkDeferred_eq]
  exact t.slot_checks allSlots allSlots_nodup j (mem_allSlots j)

/-- A slot whose check is not deferred stands. -/
theorem Track.slot_checkDeferred_idle (j : Fin 16) (h : (t.state.slot j).deferred = false) : t.checkDeferred.state.slot j = t.state.slot j := by
  obtain ⟨u, hslot, -, -, -, hresult⟩ := t.slot_checkDeferred j
  rw [hresult, Track.checkIfDeferred, hslot, h, if_neg Bool.false_ne_true, hslot]

/-- With the coverage list empty a deferred occurrence is unobserved: S moves on, and its check time is armed (R119). -/
theorem Track.slot_checkDeferred_uncovered (j : Fin 16) (e : Source) (hspans : t.state.detector.spans = [])
    (hdeferred : (t.state.slot j).deferred = true) (hlearn : (t.state.slot j).owner = .learn)
    (hentry : (t.state.slot j).entry = some e) (hmatched : e.matched = false)
    (hwaits : atOrBefore (plus (plus e.start e.period) (captureOf t.state.settings e.kind)) t.state.clock.now = false) :
    t.checkDeferred.state.slot j =
      { owner := .learn, entry := some { e with start := plus e.start e.period }
        timer := some (plus (plus e.start e.period) (captureOf t.state.settings e.kind)), deferred := false } := by
  obtain ⟨u, hslot, hclock, hengine, hdetector, hresult⟩ := t.slot_checkDeferred j
  have hsettings : u.state.settings = t.state.settings := congrArg Engine.settings hengine
  have hunobserved : u.state.judgement (u.state.slot j) e = .unobserved := by
    refine State.judgement_unobserved _ _ _ (hslot ▸ hlearn) hmatched (Or.inr ⟨?_, fun older y hy => ?_⟩)
    · rw [State.covered, hdetector, hspans]
      rfl
    · rw [hdetector, hspans] at hy
      exact absurd hy (by simp)
  have hjudged : u.judgeOnce j = u.advance j e := by
    rw [u.judgeOnce_eq j e (hslot ▸ hentry), hunobserved]
  rw [hresult, Track.checkIfDeferred, hslot, if_pos hdeferred, Track.check, hjudged,
    Track.judgePassed_advance u j e (by rw [hsettings, hclock]; exact hwaits), State.slot_advance, State.slot_setSlot_self, hslot, hsettings]
  dsimp only
  rw [hlearn]

theorem Track.checkDeferred_owners : t.checkDeferred.state.owners = t.state.owners := by
  refine allSlots.foldlRecOn (motive := fun u : Track => u.state.owners = t.state.owners) _ rfl fun u hu i _ => ?_
  split
  · rw [Track.check, Track.judgePassed_owners, Track.judgeOnce_owners, hu]
  · exact hu

end

end Sys2Proof.Machine

/-! PROOFS. A part reset, block by block (R17, R34, R52, R113, R143, R151, R157). -/

namespace Sys2Proof.Machine

/-! ### The stages of a part reset (R147, R151) -/

/-- The part once a list's response is queued and its buffer is empty. -/
def State.responded (s : State) (l : ControlList) : State :=
  (s.withNorth { s.north with status := s.north.status ++ [.response l.sequence (responsePayload l.results)] }).withExecuting .empty

theorem State.queueResponse_reset (s : State) (l : ControlList) (scope : ResetScope) (hlist : s.engine.executing = .holding l)
    (hreset : l.reset = some scope) (hwaits : s.north.responseWaits = false) : s.queueResponse = (s.responded l).partReset scope := by
  simp only [State.queueResponse, hlist, hwaits, hreset, Bool.false_eq_true, if_false]
  rfl

/-- Every block reset and the deferred checks judged; what it is made of is said by its lemmas. -/
@[irreducible] def State.resetJudged (s : State) (scope : ResetScope) : State := (Track.checkDeferred (Track.begin (s.resetBlocks scope))).state

theorem State.resetJudged_eq (s : State) (scope : ResetScope) :
    s.resetJudged scope = (Track.checkDeferred (Track.begin (s.resetBlocks scope))).state := by
  delta State.resetJudged
  exact Eq.refl _

/-- The flag of a TRAFFIC reset that found the ring RUNNING, and the STARTED of a FULL one. -/
def State.resetMarked (s : State) (running : Bool) (scope : ResetScope) : State :=
  match scope with
  | .traffic => s.setFlagIf running .ringStopped
  | .full => s.queueStartedFull

theorem State.resetMarked_eq (s : State) (running : Bool) (scope : ResetScope) :
    (if scope == .full then (s.setFlagIf (scope == .traffic && running) .ringStopped).queueStartedFull
      else s.setFlagIf (scope == .traffic && running) .ringStopped) = s.resetMarked running scope := by
  cases scope <;> rfl

/-- A part reset up to the search that ends it. -/
def State.resetReady (s : State) (scope : ResetScope) : State := (s.resetJudged scope).resetMarked s.ring.running scope

theorem State.partReset_eq (s : State) (scope : ResetScope) :
    s.partReset scope = (s.resetReady scope).search (s.resetReady scope).south.radio.isOn := by
  rw [State.partReset, State.resetReady, State.resetJudged_eq]
  rw [State.resetMarked_eq]

section
variable (s : State) (scope : ResetScope)

/-- The deferred checks write nothing but the source table. -/
theorem State.resetJudged_keeps :
    (s.resetJudged scope).inReset = s.inReset ∧ (s.resetJudged scope).clock = s.clock
      ∧ (s.resetJudged scope).north = s.north.afterReset ∧ (s.resetJudged scope).fifo = DoneFifo.powerOn
      ∧ (s.resetJudged scope).south = s.south.afterReset ∧ (s.resetJudged scope).store = s.store.afterReset
      ∧ (s.resetJudged scope).queues = Vector.replicate 16 Queue.powerOn ∧ (s.resetJudged scope).pointers = Vector.replicate 4 15
      ∧ (s.resetJudged scope).window = { s.window with timer := none, saturated := false }
      ∧ (s.resetJudged scope).gate = s.gate.afterReset scope ∧ (s.resetJudged scope).detector = s.detector.afterReset scope
      ∧ (s.resetJudged scope).ring = s.ring.afterReset scope ∧ (s.resetJudged scope).engine = s.engine.afterReset scope
      ∧ (s.resetJudged scope).events = s.events.afterReset scope ∧ (s.resetJudged scope).pending = s.pending := by
  have hkeeps := Track.checkDeferred_keeps (Track.begin (s.resetBlocks scope))
  rw [← State.resetJudged_eq] at hkeeps
  simp only [Track.begin, State.resetBlocks] at hkeeps
  exact hkeeps

/-- Neither a flag set nor a STARTED queued writes more than the event block and the north link. -/
theorem State.resetReady_keeps :
    (s.resetReady scope).clock = s.clock ∧ (s.resetReady scope).south = s.south.afterReset
      ∧ (s.resetReady scope).queues = Vector.replicate 16 Queue.powerOn ∧ (s.resetReady scope).pointers = Vector.replicate 4 15
      ∧ (s.resetReady scope).window = { s.window with timer := none, saturated := false }
      ∧ (s.resetReady scope).gate = s.gate.afterReset scope ∧ (s.resetReady scope).sources = (s.resetJudged scope).sources
      ∧ (s.resetReady scope).ring = s.ring.afterReset scope ∧ (s.resetReady scope).engine = s.engine.afterReset scope := by
  obtain ⟨-, hclock, -, -, hsouth, -, hqueues, hpointers, hwindow, hgate, -, hring, hengine, -, -⟩ := s.resetJudged_keeps scope
  cases scope with
  | traffic =>
    simp only [State.resetReady, State.resetMarked, State.setFlagIf_keeps]
    exact ⟨hclock, hsouth, hqueues, hpointers, hwindow, hgate, trivial, hring, hengine⟩
  | full =>
    simp only [State.resetReady, State.resetMarked, State.queueStartedFull_keeps]
    exact ⟨hclock, hsouth, hqueues, hpointers, hwindow, hgate, trivial, hring, hengine⟩

theorem State.partReset_blocks :
    (s.partReset scope).south = s.south.afterReset ∧ (s.partReset scope).pointers = Vector.replicate 4 15
      ∧ (s.partReset scope).gate = s.gate.afterReset scope ∧ (s.partReset scope).sources = (s.resetJudged scope).sources
      ∧ (s.partReset scope).engine = s.engine.afterReset scope := by
  obtain ⟨-, hsouth, -, hpointers, -, hgate, hsources, -, hengine⟩ := s.resetReady_keeps scope
  rw [State.partReset_eq]
  simp only [State.search_keeps]
  exact ⟨hsouth, hpointers, hgate, hsources, hengine⟩

theorem State.queue_partReset (q : Fin 16) : (s.partReset scope).queue q = Queue.powerOn := by
  obtain ⟨-, -, hqueues, -⟩ := s.resetReady_keeps scope
  rw [State.partReset_eq]
  exact State.queue_search_powerOn _ _ q (by simp [State.queue, hqueues])

/-! ### The window unit (R52, R56, R62) -/

theorem State.partReset_searchesAs (w : Window) : State.searchesAs { s.partReset scope with window := w } (s.resetReady scope) := by
  rw [State.partReset_eq]
  simp [State.searchesAs]

theorem State.partReset_window_off (h : s.south.radio.isOn = false) : (s.partReset scope).window = Window.powerOn := by
  obtain ⟨-, hsouth, -⟩ := s.resetReady_keeps scope
  rw [State.partReset_eq]
  exact (State.search_off _ _ (by rw [hsouth]; exact h)).1

/-- On a channel the search is as one made on what the reset leaves, whatever window stood. -/
theorem State.partReset_window_on (h : s.south.radio.isOn = true) (w : Window) :
    (s.partReset scope).window = (State.search { s.partReset scope with window := w } true).window := by
  obtain ⟨-, hsouth, -⟩ := s.resetReady_keeps scope
  obtain ⟨hsouth', -⟩ := s.partReset_blocks scope
  have hon : (s.resetReady scope).south.radio.isOn = true := by rw [hsouth]; exact h
  have hon' : (s.partReset scope).south.radio.isOn = true := by rw [hsouth']; exact h
  calc (s.partReset scope).window
      = (s.resetReady scope).searchResult := by rw [State.partReset_eq, State.search_window, if_pos hon]
    _ = State.searchResult { s.partReset scope with window := w } := (State.searchResult_congr (s.partReset_searchesAs scope w)).symm
    _ = (State.search { s.partReset scope with window := w } true).window := by rw [State.search_window, if_pos hon']

/-- The search sets CHANNEL_SATURATED when it is saturated: the reset has cleared the saturation state. -/
theorem State.partReset_search :
    (s.partReset scope).events = ((s.resetReady scope).setFlagIf (s.partReset scope).window.saturated .channelSaturated).events
      ∧ (s.partReset scope).north = ((s.resetReady scope).setFlagIf (s.partReset scope).window.saturated .channelSaturated).north := by
  obtain ⟨-, -, -, -, hwindow, -⟩ := s.resetReady_keeps scope
  rw [State.partReset_eq]
  exact State.search_fresh _ _ (by rw [hwindow])

theorem State.partReset_saturated (h : (s.partReset scope).window.saturated = true) : (s.partReset scope).flag .channelSaturated = true := by
  obtain ⟨hevents, -⟩ := s.partReset_search scope
  have hflag := State.flag_setFlagIf (s.resetReady scope) (s.partReset scope).window.saturated .channelSaturated .channelSaturated
  rw [State.flag, hevents]
  exact hflag.trans (by simp [h])

end

/-! ### A TRAFFIC reset -/

section
variable (s : State)

/-- The flags that a TRAFFIC reset sets: RING_STOPPED when the ring ran, CHANNEL_SATURATED when the search is saturated. -/
theorem State.partReset_traffic :
    let t := s.partReset .traffic
    let u := ((s.resetJudged .traffic).setFlagIf s.ring.running .ringStopped).setFlagIf t.window.saturated .channelSaturated
    t.events = u.events ∧ t.north = u.north := s.partReset_search .traffic

theorem State.flag_partReset_traffic (f : EventFlag) :
    (s.partReset .traffic).flag f =
      (s.flag f || (s.ring.running && decide (.ringStopped = f))
        || ((s.partReset .traffic).window.saturated && decide (.channelSaturated = f))) := by
  obtain ⟨hevents, -⟩ := s.partReset_traffic
  obtain ⟨-, -, -, -, -, -, -, -, -, -, -, -, -, hkept, -⟩ := s.resetJudged_keeps .traffic
  have hflag : (s.resetJudged .traffic).flag f = s.flag f := by rw [State.flag, hkept]; rfl
  have hset := State.flag_setFlagIf ((s.resetJudged .traffic).setFlagIf s.ring.running .ringStopped)
    (s.partReset .traffic).window.saturated .channelSaturated f
  rw [State.flag, hevents]
  rw [(s.resetJudged .traffic).flag_setFlagIf, hflag] at hset
  exact hset

/-- A TRAFFIC reset that found the ring IDLE and whose search is not saturated leaves the event block and queues no NOTICE. -/
theorem State.partReset_traffic_quiet (hring : s.ring.running = false) (hwindow : (s.partReset .traffic).window.saturated = false) :
    (s.partReset .traffic).events = s.events ∧ (s.partReset .traffic).north = s.north.afterReset := by
  obtain ⟨hevents, hnorth⟩ := s.partReset_traffic
  obtain ⟨-, -, hlink, -, -, -, -, -, -, -, -, -, -, hkept, -⟩ := s.resetJudged_keeps .traffic
  rw [hevents, hnorth, hring, hwindow]
  exact ⟨hkept, hlink⟩

theorem State.notices_partReset_traffic :
    let t := s.partReset .traffic
    t.north.status = s.north.status ∧ t.events.pacing = s.events.pacing ∧ t.events.lastNotice = s.events.lastNotice
        ∧ (s.events.noticeDue = true → t.events.noticeDue = true)
      ∨ t.north.status = s.north.status ++ [.notice] ∧ s.north.afterReset.noticeWaits = false ∧ s.events.pacing = none
        ∧ t.events.lastNotice = some s.clock.now ∧ t.events.noticeDue = false := by
  intro t
  obtain ⟨hevents, hnorth⟩ := s.partReset_traffic
  obtain ⟨-, hclock, hlink, -, -, -, -, -, -, -, -, -, -, hkept, -⟩ := s.resetJudged_keeps .traffic
  have hnotices := (s.resetJudged .traffic).notices_two s.ring.running t.window.saturated .ringStopped .channelSaturated
  unfold State.notices at hnotices
  rw [← hevents, ← hnorth, hclock, hlink, hkept] at hnotices
  obtain ⟨hstatus, -, hpacing, hlast, hdue⟩ | hqueued := hnotices
  · exact Or.inl ⟨hstatus, hpacing, hlast, hdue⟩
  · exact Or.inr hqueued

theorem State.partReset_traffic_north : (s.partReset .traffic).north = { s.north.afterReset with status := (s.partReset .traffic).north.status } := by
  obtain ⟨-, hnorth⟩ := s.partReset_traffic
  obtain ⟨-, -, hlink, -⟩ := s.resetJudged_keeps .traffic
  have hstill := (State.setFlagIf_still ((s.resetJudged .traffic).setFlagIf s.ring.running .ringStopped)
    (s.partReset .traffic).window.saturated .channelSaturated).trans (State.setFlagIf_still _ _ _)
  have hsame := State.north_of_still hstill
  rw [← hnorth, hlink] at hsame
  exact hsame

end

/-! ### A FULL reset -/

section
variable (s : State)

/-- No source entry and no reservation is left for the search to find busy. -/
theorem State.partReset_full_clear : (s.partReset .full).window.saturated = false := by
  obtain ⟨-, -, -, -, -, -, hsources, hring, -⟩ := s.resetReady_keeps .full
  have hpowerOn : (s.resetJudged .full).sources = Sources.powerOn := by
    rw [State.resetJudged_eq, Track.checkDeferred_of_none _ fun i => ?_]
    · rfl
    · simp [Track.begin, State.slot, State.resetBlocks, Sources.afterReset, Sources.powerOn, Slot.powerOn]
  rw [State.partReset_eq, State.search_window]
  split
  · refine State.searchResult_idle _ ?_ (by rw [hring]; rfl)
    rw [State.applicable, hsources, hpowerOn]
    rfl
  · rfl

theorem State.partReset_full :
    (s.partReset .full).events = { s.events with flags := 0, enables := 0, attn := false, noticeDue := false }
      ∧ (s.partReset .full).sources = Sources.powerOn ∧ (s.partReset .full).north = (s.resetJudged .full).queueStartedFull.north := by
  obtain ⟨hevents, hnorth⟩ := s.partReset_search .full
  obtain ⟨-, -, -, -, -, -, -, -, -, -, -, -, -, hkept, -⟩ := s.resetJudged_keeps .full
  obtain ⟨-, -, -, hsources, -⟩ := s.partReset_blocks .full
  rw [s.partReset_full_clear] at hevents hnorth
  refine ⟨hevents.trans hkept, hsources.trans ?_, hnorth⟩
  rw [State.resetJudged_eq, Track.checkDeferred_of_none _ fun i => ?_]
  · rfl
  · simp [Track.begin, State.slot, State.resetBlocks, Sources.afterReset, Sources.powerOn, Slot.powerOn]

end

end Sys2Proof.Machine

/-! PROOFS. The links, the sources and the event block after a part reset (R12, R17, R119, R143, R152 to R157); O15. -/

namespace Sys2Proof.Machine

/-! ### The north link -/

/-- A STARTED of scope POWER_ON that was being sent is withdrawn (R157). -/
def withdrawStarted (resend : Option NorthItem) : Option NorthItem :=
  if resend = some (.status (.started .powerOn)) then none else resend

theorem withdrawStarted_self : withdrawStarted (some (.status (.started .powerOn))) = none := if_pos rfl

theorem withdrawStarted_of_ne (resend : Option NorthItem) (h : resend ≠ some (.status (.started .powerOn))) :
    withdrawStarted resend = resend := if_neg h

/-- STARTED of scope FULL joins the waiting frames unless one waits. -/
theorem startedFull_joins (status : List StatusFrame) (resend : Option NorthItem) :
    (if (status.filter fun f => f != .started .powerOn).contains (.started .full) || resend == some (.status (.started .full)) then
        status.filter fun f => f != .started .powerOn
      else (status.filter fun f => f != .started .powerOn) ++ [.started .full]) =
      (status.filter fun f => f != .started .powerOn) ++
        if .started .full ∈ status ∨ resend = some (.status (.started .full)) then [] else [.started .full] := by
  have hwaits : ((status.filter fun f => f != .started .powerOn).contains (.started .full)
      || resend == some (.status (.started .full))) = true ↔ .started .full ∈ status ∨ resend = some (.status (.started .full)) := by
    simp
  by_cases h : .started .full ∈ status ∨ resend = some (.status (.started .full))
  case pos => rw [if_pos (hwaits.2 h), if_pos h, List.append_nil]
  case neg => rw [if_neg (mt hwaits.1 h), if_neg h]

/-- What a FULL reset's STARTED leaves of the north link (R157). -/
theorem State.queueStartedFull_north (s : State) :
    s.queueStartedFull.north =
      { s.north with
        status := (s.north.status.filter fun f => f != .started .powerOn) ++
          (if .started .full ∈ s.north.status ∨ s.north.resend = some (.status (.started .full)) then [] else [.started .full])
        resend := withdrawStarted s.north.resend } := by
  unfold State.queueStartedFull
  dsimp only [State.withNorth]
  rw [startedFull_joins]
  split
  case h_1 hpower => simp [hpower, withdrawStarted_self]
  case h_2 hother => rw [withdrawStarted_of_ne _ hother]

section
variable (n : NorthLink)

theorem NorthLink.afterReset_resend_iff (f : StatusFrame) : n.afterReset.resend = some (.status f) ↔ n.resend = some (.status f) := by
  unfold NorthLink.afterReset
  dsimp only
  split
  case h_1 g heq => rw [heq]
  case h_2 hother => exact ⟨fun h => absurd h (by simp), fun h => absurd h (hother f)⟩

theorem NorthLink.afterReset_resend_none (h : ∀ f, n.resend ≠ some (.status f)) : n.afterReset.resend = none := by
  unfold NorthLink.afterReset
  dsimp only
  split
  case h_1 g heq => exact absurd heq (h g)
  case h_2 => rfl

theorem NorthLink.afterReset_noticeWaits : n.afterReset.noticeWaits = n.noticeWaits := by
  have hresend : (n.afterReset.resend == some (.status .notice)) = (n.resend == some (.status .notice)) := by
    rw [Bool.eq_iff_iff, beq_iff_eq, beq_iff_eq, n.afterReset_resend_iff]
  exact congrArg (n.status.contains .notice || ·) hresend

/-- A frame in transmission stays, a TXDONE frame without its slot (R11). -/
theorem NorthLink.afterReset_sending (x : NorthSending) (h : n.sending = some x) :
    ∃ item, n.afterReset.sending = some { x with item } ∧ (∀ r held, x.item = .txdone r held → item = .txdone r false)
      ∧ ((∀ r held, x.item ≠ .txdone r held) → item = x.item) := by
  refine ⟨x.item.afterReset, by simp [NorthLink.afterReset, h], fun r held heq => by rw [heq]; rfl, fun hother => ?_⟩
  cases hitem : x.item with
  | status f => rfl
  | txdone r held => exact absurd hitem (hother r held)
  | rxdata => rfl

end

section
variable (s : State)

theorem State.partReset_full_north :
    (s.partReset .full).north =
      { s.north.afterReset with
        status := (s.north.status.filter fun f => f != .started .powerOn) ++
          (if .started .full ∈ s.north.status ∨ s.north.resend = some (.status (.started .full)) then [] else [.started .full])
        resend := withdrawStarted s.north.afterReset.resend } := by
  obtain ⟨-, -, hnorth⟩ := s.partReset_full
  obtain ⟨-, -, hlink, -⟩ := s.resetJudged_keeps .full
  rw [hnorth, State.queueStartedFull_north, hlink]
  simp only [s.north.afterReset_resend_iff]
  rfl

/-- What a part reset of either scope leaves of the north link but for the frames that wait. -/
theorem State.partReset_north (scope : ResetScope) :
    ∃ status resend, (s.partReset scope).north = { s.north.afterReset with status, resend }
      ∧ (s.north.afterReset.resend = none → resend = none) := by
  cases scope with
  | traffic => exact ⟨_, s.north.afterReset.resend, s.partReset_traffic_north, id⟩
  | full =>
    refine ⟨_, _, s.partReset_full_north, fun h => ?_⟩
    rw [h]
    exact withdrawStarted_of_ne none (by simp)

/-! ### The sources (R117, R119) -/

theorem State.slot_partReset_traffic (i : Fin 16) :
    (s.partReset .traffic).slot i = (Track.begin (s.resetBlocks .traffic)).checkDeferred.state.slot i := by
  obtain ⟨-, -, -, hsources, -⟩ := s.partReset_blocks .traffic
  rw [State.slot_of_sources hsources, State.resetJudged_eq]

theorem State.slot_resetBlocks_traffic (i : Fin 16) : (Track.begin (s.resetBlocks .traffic)).state.slot i = s.slot i := rfl

theorem State.owner_partReset_traffic (i : Fin 16) : ((s.partReset .traffic).slot i).owner = (s.slot i).owner := by
  rw [s.slot_partReset_traffic i]
  exact congrFun (Track.checkDeferred_owners (Track.begin (s.resetBlocks .traffic))) i

theorem State.slot_partReset_idle (i : Fin 16) (h : (s.slot i).deferred = false) : (s.partReset .traffic).slot i = s.slot i := by
  rw [s.slot_partReset_traffic i, Track.slot_checkDeferred_idle _ i h, s.slot_resetBlocks_traffic i]

/-- The reset empties the coverage list, so that a deferred occurrence is unobserved. -/
theorem State.slot_partReset_deferred (i : Fin 16) (e : Source) (hdeferred : (s.slot i).deferred = true)
    (hlearn : (s.slot i).owner = .learn) (hentry : (s.slot i).entry = some e) (hmatched : e.matched = false)
    (hwaits : atOrBefore (plus (plus e.start e.period) (captureOf s.settings e.kind)) s.clock.now = false) :
    (s.partReset .traffic).slot i =
      { owner := .learn, entry := some { e with start := plus e.start e.period }
        timer := some (plus (plus e.start e.period) (captureOf s.settings e.kind)), deferred := false } := by
  rw [s.slot_partReset_traffic i]
  exact Track.slot_checkDeferred_uncovered _ i e rfl hdeferred hlearn hentry hmatched hwaits

theorem State.partReset_record (scope : ResetScope) : (s.partReset scope).sources.record = none := by
  obtain ⟨-, -, -, hsources, -⟩ := s.partReset_blocks scope
  rw [hsources, State.resetJudged_eq]
  refine Track.checkDeferred_record _ ?_
  cases scope <;> rfl

end

/-! ### What the obligation says of either scope, of TRAFFIC and of FULL -/

section
variable (s : State)

theorem State.partReset_links (scope : ResetScope) :
    let t := s.partReset scope
    t.north.synced = s.north.synced ∧ t.north.everSynced = s.north.everSynced ∧ t.north.partnerReady = s.north.partnerReady
      ∧ t.north.lastShared = .rxdata
      ∧ t.north.passBuffer = (if s.north.sendsRxdata then s.north.passBuffer.take 1 else [])
      ∧ (s.north.input = .awaitHeader → t.north.input = .awaitHeader)
      ∧ (∀ h, s.north.input = .held h → t.north.input = .held h)
      ∧ (∀ h reserved doomed, s.north.input = .receiving h reserved doomed → t.north.input = .receiving h false true)
      ∧ (s.north.sending = none → t.north.sending = none)
      ∧ (∀ x, s.north.sending = some x → ∃ item, t.north.sending = some { x with item }
          ∧ (∀ r held, x.item = .txdone r held → item = .txdone r false)
          ∧ ((∀ r held, x.item ≠ .txdone r held) → item = x.item))
      ∧ ((∀ f, s.north.resend ≠ some (.status f)) → t.north.resend = none) := by
  intro t
  obtain ⟨status, resend, hnorth, hresend⟩ := s.partReset_north scope
  have hnorth : t.north = _ := hnorth
  rw [hnorth]
  refine ⟨rfl, rfl, rfl, rfl, rfl, fun h => ?_, fun x h => ?_, fun x reserved doomed h => ?_, fun h => ?_, fun x h => s.north.afterReset_sending x h,
    fun h => hresend (s.north.afterReset_resend_none h)⟩
  · exact congrArg NorthInput.afterReset h
  · exact congrArg NorthInput.afterReset h
  · exact congrArg NorthInput.afterReset h
  · exact congrArg (Option.map _) h

theorem State.partReset_traffic_leaves (scope : ResetScope) (hscope : scope = .traffic) :
    let t := s.partReset scope
    t.gate.rates = s.gate.rates ∧ t.detector.survey = s.detector.survey ∧ t.settings = s.settings
      ∧ t.engine.lastDropped = s.engine.lastDropped ∧ t.events.enables = s.events.enables
      ∧ t.ring = { s.ring with running := false, reason := some .command, endTimer := none }
      ∧ (s.ring.running = true → t.flag .ringStopped = true)
      ∧ (∀ f, s.flag f = true → t.flag f = true)
      ∧ (∀ f, f ≠ .ringStopped → f ≠ .channelSaturated → t.flag f = s.flag f)
      ∧ (s.ring.running = false → t.window.saturated = false → t.events = s.events ∧ t.north.status = s.north.status)
      ∧ (t.north.status = s.north.status ∧ t.events.pacing = s.events.pacing ∧ t.events.lastNotice = s.events.lastNotice
            ∧ (s.events.noticeDue = true → t.events.noticeDue = true)
          ∨ t.north.status = s.north.status ++ [.notice] ∧ s.north.noticeWaits = false ∧ s.events.pacing = none
            ∧ t.events.lastNotice = some s.clock.now ∧ t.events.noticeDue = false)
      ∧ (∀ f, s.north.resend = some (.status f) → t.north.resend = some (.status f))
      ∧ (∀ i, (t.slot i).owner = (s.slot i).owner)
      ∧ (∀ i, (s.slot i).deferred = false → t.slot i = s.slot i)
      ∧ (∀ i e, (s.slot i).deferred = true → (s.slot i).owner = .learn → (s.slot i).entry = some e → e.matched = false →
          let next := plus e.start e.period
          let check := plus next (captureOf s.settings e.kind)
          atOrBefore check s.clock.now = false →
          t.slot i = { owner := .learn, entry := some { e with start := next }, timer := some check, deferred := false }) := by
  subst hscope
  intro t
  obtain ⟨-, -, hgate, -, hengine⟩ := s.partReset_blocks .traffic
  have hflag (f : EventFlag) := s.flag_partReset_traffic f
  have hnotices := s.notices_partReset_traffic
  rw [s.north.afterReset_noticeWaits] at hnotices
  obtain ⟨hevents, -⟩ := s.partReset_traffic
  obtain ⟨-, -, -, -, -, -, -, -, -, -, -, -, -, hkept, -⟩ := s.resetJudged_keeps .traffic
  refine ⟨(congrArg Gate.rates hgate).trans rfl, (congrArg Detector.survey (s.partReset_detector .traffic)).trans rfl,
    (congrArg Engine.settings hengine).trans rfl, (congrArg Engine.lastDropped hengine).trans rfl, ?enables, s.partReset_ring .traffic, fun h => ?stopped, fun f h => ?stands, fun f hstop hsat => ?other,
    fun hring hwindow => ?quiet, hnotices, fun f h => ?resend,
    s.owner_partReset_traffic, s.slot_partReset_idle, s.slot_partReset_deferred⟩
  case enables =>
    rw [hevents, State.setFlagIf_enables, State.setFlagIf_enables, hkept]
    rfl
  case stopped => simp [t, hflag, h]
  case stands => simp [t, hflag, h]
  case other => simp [t, hflag, Ne.symm hstop, Ne.symm hsat]
  case quiet =>
    obtain ⟨hsame, hnorth⟩ := s.partReset_traffic_quiet hring hwindow
    exact ⟨hsame, (congrArg NorthLink.status hnorth).trans rfl⟩
  case resend => exact (congrArg NorthLink.resend s.partReset_traffic_north).trans ((s.north.afterReset_resend_iff f).2 h)

theorem State.partReset_full_leaves (scope : ResetScope) (hscope : scope = .full) :
    let t := s.partReset scope
    t.gate.rates = Vector.replicate 64 none ∧ t.detector = Detector.powerOn ∧ t.settings = Settings.default
      ∧ t.engine.lastDropped = none ∧ t.sources = Sources.powerOn ∧ t.ring = Ring.powerOn
      ∧ t.events = { s.events with flags := 0, enables := 0, attn := false, noticeDue := false }
      ∧ (.started .full ∈ t.north.status ∨ t.north.resend = some (.status (.started .full)))
      ∧ .started .powerOn ∉ t.north.status
      ∧ t.north.status = s.north.status.filter (fun f => f != .started .powerOn) ++
          (if .started .full ∈ s.north.status ∨ s.north.resend = some (.status (.started .full)) then [] else [.started .full])
      ∧ (s.north.resend = some (.status (.started .powerOn)) → t.north.resend = none)
      ∧ (∀ f, s.north.resend = some (.status f) → f ≠ .started .powerOn → t.north.resend = some (.status f)) := by
  subst hscope
  intro t
  obtain ⟨-, -, hgate, -, hengine⟩ := s.partReset_blocks .full
  obtain ⟨hevents, hsources, -⟩ := s.partReset_full
  have hnorth := s.partReset_full_north
  have hdetector := s.partReset_detector .full
  have hring := s.partReset_ring .full
  have ht : s.partReset .full = t := rfl
  rw [ht] at hgate hengine hevents hsources hnorth hdetector hring
  clear_value t
  have hstatus := congrArg NorthLink.status hnorth
  have hresend := congrArg NorthLink.resend hnorth
  have hkept (f : StatusFrame) (h : s.north.resend = some (.status f)) (hother : f ≠ .started .powerOn) : t.north.resend = some (.status f) := by
    rw [hresend, (s.north.afterReset_resend_iff f).2 h, withdrawStarted_of_ne _ (by simpa using hother)]
  refine ⟨by rw [hgate]; rfl, hdetector, by rw [State.settings, hengine]; rfl, by rw [hengine]; rfl, hsources, hring, hevents, ?started,
    ?withdrawn, hstatus, fun h => ?resend, hkept⟩
  case started =>
    by_cases hwaits : .started .full ∈ s.north.status ∨ s.north.resend = some (.status (.started .full))
    case pos =>
      rcases hwaits with hmem | hfull
      · exact Or.inl (by simp [hstatus, hmem])
      · exact Or.inr (hkept _ hfull (by decide))
    case neg => exact Or.inl (by simp [hstatus, hwaits])
  case withdrawn =>
    rw [hstatus]
    split <;> simp
  case resend => rw [hresend, (s.north.afterReset_resend_iff _).2 h, withdrawStarted_self]

/-- A waiting frame but for a withdrawn STARTED waits on. -/
theorem State.partReset_waits (scope : ResetScope) (f : StatusFrame) (hf : f ∈ s.north.status) (hother : f ≠ .started .powerOn) :
    f ∈ (s.partReset scope).north.status := by
  cases scope with
  | traffic =>
    obtain ⟨hstatus, -⟩ | ⟨hstatus, -⟩ := s.notices_partReset_traffic
    · rw [hstatus]; exact hf
    · rw [hstatus]; exact List.mem_append_left _ hf
  | full =>
    obtain ⟨-, -, -, -, -, -, -, -, -, hstatus, -⟩ := s.partReset_full_leaves .full rfl
    rw [hstatus]
    exact List.mem_append_left _ (List.mem_filter.2 ⟨hf, by simpa using hother⟩)

end

/-- The RESPONSE that joins the waiting frames is neither a NOTICE nor a STARTED. -/
theorem State.responded_waits (s : State) (l : ControlList) :
    (s.responded l).north.noticeWaits = s.north.noticeWaits
      ∧ (.started .full ∈ (s.responded l).north.status ↔ .started .full ∈ s.north.status) := by
  simp [State.responded, State.withNorth, State.withExecuting, NorthLink.noticeWaits]

/-- Settles O15: the list's response is queued, and the reset's lemmas say what each block is left as. -/
theorem partResetLeavesEachBlockAsSaid : Obligations.PartResetLeavesEachBlockAsSaid := by
  intro s l scope hrunning hlist hreset hwaits waiting
  have hexec : exec .responseQueued s = .next ((s.responded l).partReset scope) := by
    rw [exec_event .responseQueued s hrunning rfl, ← s.queueResponse_reset l scope hlist hreset hwaits]
    rfl
  obtain ⟨hnotice, hstarted⟩ := s.responded_waits l
  have hresponse := (s.responded l).partReset_waits scope (.response l.sequence (responsePayload l.results))
    (List.mem_append_right _ List.mem_cons_self) (by simp)
  have hlinks := (s.responded l).partReset_links scope
  have hblocks := (s.responded l).partReset_blocks scope
  have hkeeps := (s.responded l).partReset_keeps scope
  have hqueue := (s.responded l).queue_partReset scope
  have hstore := (s.responded l).partReset_store scope
  have hfifo := (s.responded l).partReset_fifo scope
  have hoff := (s.responded l).partReset_window_off scope
  have hon := (s.responded l).partReset_window_on scope
  have hsaturated := (s.responded l).partReset_saturated scope
  have hdetector := (s.responded l).partReset_detector scope
  have hrecord := (s.responded l).partReset_record scope
  have htraffic := (s.responded l).partReset_traffic_leaves scope
  have hfull := (s.responded l).partReset_full_leaves scope
  dsimp only at hlinks htraffic hfull
  rw [hnotice] at htraffic
  simp only [hstarted] at hfull
  generalize (s.responded l).partReset scope = t at *
  obtain ⟨hsouth, hpointers, hgate, -, hengine⟩ := hblocks
  obtain ⟨hinReset, hclock, hpending⟩ := hkeeps
  obtain ⟨hsynced, hever, hready, hshared, hpass, hawait, hheld, hreceiving, hidle, hsending, hresend⟩ := hlinks
  refine ⟨t, hexec, hclock, hinReset.trans hrunning, hpending, hresponse, hsynced, hever, hready, hshared, hpass, hawait, hheld, hreceiving,
    hidle, hsending, hresend, hsouth, hfifo, hstore, hqueue, fun level => ?pointers, fun h => hoff ?radioOff,
    fun n h => ⟨hon ?radioOn _, hsaturated⟩, ?table, ?committed, ?nextId, ?burst, ?spans, ?agingTimer, hrecord, ?executing, ?waiting,
    fun h => ?traffic, fun h => ?full⟩
  case pointers => simp [hpointers]
  case radioOff =>
    show s.south.radio.isOn = false
    cases hradio : s.south.radio with
    | onChannel n => exact absurd hradio (h n)
    | away => rfl
    | down => rfl
  case radioOn =>
    show s.south.radio.isOn = true
    rw [h]
    rfl
  case table => rw [hgate]; cases scope <;> rfl
  case committed => rw [hgate]; cases scope <;> rfl
  case nextId => rw [hgate]; cases scope <;> rfl
  case burst => rw [hdetector]; cases scope <;> rfl
  case spans => rw [hdetector]; cases scope <;> rfl
  case agingTimer => rw [hdetector]; cases scope <;> rfl
  case executing => rw [hengine]; cases scope <;> rfl
  case waiting => rw [hengine]; cases scope <;> rfl
  case traffic => exact htraffic h
  case full => exact hfull h

end Sys2Proof.Machine
